-- ==== Sys2Proof/Word.lean ====
section
/-! DEFINITION. The word types of the HM4160: bytes and words on the wires, the wrapping serial values, and the numbers that name stations, blocks and window words. -/

namespace Sys2Proof

/-- One character's value on a lane (R139, R156). -/
abbrev Byte := BitVec 8
/-- One window word, one station-area word (R1, R174). -/
abbrev Word := BitVec 16
/-- The station clock, 32 bits (R166). -/
abbrev Clock := BitVec 32
/-- A sequence number: 8 bits, wrapping (R9, R58). -/
abbrev SeqNo := BitVec 8
/-- A block's ownership epoch: 8 bits, wrapping (R3, R9). -/
abbrev Epoch := BitVec 8
/-- The number of a settle job: 8 bits, wrapping (R118). -/
abbrev Round := BitVec 8
/-- A block's version: 16 bits, wrapping (R3, R9). -/
abbrev Version := BitVec 16
/-- Bit n stands for station n; bit 0 is clear (section 10.3). -/
abbrev StationMask := BitVec 16
/-- A station number, 0 to 15; 0 stands for none, unknown or all stations, as the place says. -/
abbrev Station := Fin 16
/-- A block number, 0 to 255. -/
abbrev Block := Fin 256
/-- A word's offset in its block, 0 to 31. -/
abbrev Offset := Fin 32
/-- A window word's number, which is its local address (R1). -/
abbrev WindowAddr := Fin 8192
/-- A SNAP part, 0 to 15 (section 6.2). -/
abbrev Part := Fin 16

/-- The high byte of a word, sent first (R156). -/
def hiByte (w : Word) : Byte := w.extractLsb' 8 8
/-- The low byte of a word, sent second (R156). -/
def loByte (w : Word) : Byte := w.extractLsb' 0 8
/-- The word of a high and a low byte (R156). -/
def wordOf (h l : Byte) : Word := h ++ l

end Sys2Proof
end

