-- ==== Sys2Proof/Config.lean ====
section
/-! DEFINITION. The constants the data book fixes, in character times, and the free values: what the book leaves open is an opaque constant with no body, so no proof can see it. -/

namespace Sys2Proof.Config

/-- H, the heartbeat period: 2,048 ct (Table 0-3, R155). -/
def heartbeat : Nat := 2048
/-- 4H, the listen time (R79). -/
def listenLimit : Nat := 8192
/-- 3H, the silence limit (R90). -/
def silenceLimit : Nat := 6144
/-- 32H, the rest of a DOWN lane (R147). -/
def laneRest : Nat := 65536
/-- The WAIT limit (R37). -/
def waitLimit : Nat := 8192
/-- The batch hold (R29). -/
def batchHold : Nat := 128
/-- The claim timeout (R43). -/
def claimTimeout : Nat := 1024
/-- The last attempt of a claim slot (R43). -/
def claimAttempts : Nat := 8
/-- The replay timeout (R67). -/
def replayTimeout : Nat := 512
/-- The replay limit (R68). -/
def replayLimit : Nat := 6
/-- The age at which an owed receipt becomes urgent (R74). -/
def receiptAge : Nat := 64
/-- The unreported acceptances at which an owed receipt becomes urgent (R74). -/
def receiptCount : Nat := 8
/-- The SNAPQ resend time (R105). -/
def snapqTimeout : Nat := 1024
/-- The fetch timeout (R110). -/
def fetchTimeout : Nat := 512
/-- The last attempt of a fetch (R110). -/
def fetchAttempts : Nat := 4
/-- The query timeout (R120). -/
def queryTimeout : Nat := 1024
/-- The query limit (R120). -/
def queryLimit : Nat := 3
/-- The deference time (R129). -/
def deference : Nat := 4096
/-- The digest interval (R133). -/
def digestInterval : Nat := 512
/-- The most blocks one DIGEST covers (R134). -/
def digestEntries : Nat := 8
/-- Places of the replay queue, and how many of them UPDATE and HANDOVER may take (R59). -/
def replayPlaces : Nat := 32
def generalPlaces : Nat := 28
/-- Places of the held-write list, and its distinct blocks (R33). -/
def heldPlaces : Nat := 16
def heldBlocks : Nat := 4
/-- Entries of a batch (R27). -/
def batchEntries : Nat := 16
/-- Claim slots and claim-list entries (Table 3-1). -/
def claimSlots : Nat := 4
def claimPlaces : Nat := 8
/-- Fetch slots and answer-queue entries (Table 6-1). -/
def fetchSlots : Nat := 4
def answerPlaces : Nat := 4
/-- Entries of a HANDOVER or SETTLE frame, and of a VERSIONS frame (R101, R126, R122). -/
def frameEntries : Nat := 16
def versionsEntries : Nat := 20
/-- Records of the incident list (R167), and places of the notice queue (R23). -/
def incidentPlaces : Nat := 8
def noticePlaces : Nat := 16
/-- The error score at which a lane goes DOWN (R145, R146), and the good frames that return it (R148). -/
def scoreLimit : Nat := 64
def goodFrames : Nat := 32
/-- The characters a frame may hold (R143), and the fewest of a good one (R144). -/
def frameMax : Nat := 126
def frameMin : Nat := 6
/-- The idle time that ends a frame (R143) and the access gap (R149). -/
def frameEnd : Nat := 2
def accessGap : Nat := 3
/-- The space run that is an abort mark (R141), and the one past which the line is stuck, 64 ct (R142), in bit times. -/
def abortRun : Nat := 12
def stuckRun : Nat := 640
/-- The abort mark a colliding station drives (R150), and the most attempts on a lane (R151). -/
def abortMark : Nat := 2
def laneAttempts : Nat := 16

/-- FREE VALUE. Which of several things that fall in one event, and whose order the book does not fix, comes
first: the n-th such choice takes the candidate numbered `freeChoice n` modulo the number of candidates. It decides
the requester that takes a freed place of the replay queue (R69), the waiting EXCLUDE asked for first (R98), the
block that commits first (R34), the incident that takes the lower number (R167) and the timer event taken first among
those of one character time. Log entry 3. -/
opaque freeChoice : Nat → Nat

/-- FREE VALUE. Two versions exactly 32,768 apart are neither equal nor later nor earlier (R9), and Tables 1-4 and 8-2
have no column for them. True: the local version (first argument) is taken as the earlier one. Log entry 4. -/
opaque antipodalEarlier : Version → Version → Bool

end Sys2Proof.Config
end

