-- ==== Sys2Proof/Syntax.lean ====
section
/-! DEFINITION. The frames of the lanes (chapter 10) and the commands of the block: one constructor of Instr per row of spec/opcode_table.json, with what the row carries from outside. -/

namespace Sys2Proof

/-- The two lanes. -/
inductive LaneId | A | B
  deriving DecidableEq, Repr

/-- The fifteen frame kinds (Table 10-2). -/
inductive Kind
  | status | join | admission | update | claim | handover | exclude | fetch | copy | snapq | snap | query | versions
  | settle | digest
  deriving DecidableEq, Repr

/-- The three station states a STATUS can show (Table 10-3). -/
inductive MemberState | catchup | live | leaving
  deriving DecidableEq, Repr

/-- The causes of exclusion (Table 5-7). -/
inductive Cause | silence | replay | settle | leave | rejoin
  deriving DecidableEq, Repr

/-- One entry of an UPDATE: a word of the block and its value. -/
structure WordWrite where
  offset : Offset
  value : Word
  deriving DecidableEq, Repr

/-- One entry of a HANDOVER. -/
structure HandoverEntry where
  block : Block
  epoch : Epoch
  version : Version
  deriving DecidableEq, Repr

/-- One entry of a SETTLE. -/
structure SettleEntry where
  block : Block
  owner : Station
  epoch : Epoch
  version : Version
  donor : Station
  deriving DecidableEq, Repr

/-- One entry of a SNAP part. -/
structure SnapEntry where
  owner : Station
  epoch : Epoch
  version : Version
  deriving DecidableEq, Repr

/-- One entry of a VERSIONS frame. -/
structure VersionsEntry where
  block : Block
  epoch : Epoch
  version : Version
  owned : Bool
  current : Bool
  deriving DecidableEq, Repr

/-- One entry of a DIGEST. -/
structure DigestEntry where
  block : Block
  version : Version
  check : Word
  deriving DecidableEq, Repr

/-- What a frame carries, by kind (Tables 10-3, 10-4 and 10-5). -/
inductive Payload
  | status (state : MemberState) (mask : StationMask) (nextSeq : SeqNo) (known : StationMask) (receipts : List Byte)
      (welcome : List (Station × SeqNo))
  | join
  | admission (joiner : Station) (mask : StationMask)
  | update (block : Block) (epoch : Epoch) (version : Version) (entries : List WordWrite)
  | claim (block : Block) (attempt : Nat)
  | handover (owner : Station) (entries : List HandoverEntry)
  | exclude (station : Station) (cause : Cause)
  | fetch (block : Block)
  | copyOk (block : Block) (version : Version) (words : List Word)
  | copyNotCurrent (block : Block) (version : Version)
  | snapq (parts : Word)
  | snap (part : Part) (entries : List SnapEntry)
  | query (round : Round) (bitmap : List Byte)
  | versions (round : Round) (last : Bool) (entries : List VersionsEntry)
  | settle (round : Round) (entries : List SettleEntry)
  | digest (entries : List DigestEntry)
  deriving DecidableEq, Repr

/-- A frame: header fields and payload (Table 10-1). L and the CRC follow from them. -/
structure Frame where
  sender : Station
  target : Station
  seq : SeqNo
  payload : Payload
  deriving DecidableEq, Repr

/-- Three samples about the centre of one bit, true for mark (R140). -/
structure Triple where
  a : Bool
  b : Bool
  c : Bool
  deriving DecidableEq, Repr

/-- One character as it is sampled on a lane: start bit, eight data bits least significant first, stop bit (R139, R140). -/
structure RxChar where
  start : Triple
  data : List Triple
  stop : Triple
  deriving DecidableEq, Repr

/-- What a lane's line carries in one character time: mark throughout, a character, or space held throughout. -/
inductive LineCell
  | mark
  | char (c : RxChar)
  | space
  deriving DecidableEq, Repr

/-- What a frame row brings on a lane. `chars` have come in by the row's event, the 2 ct of idle that end the frame
included (R143); none where the frame's characters came in at character times, and the row is its end. `line` is what
the line carries in the character times from the event on: a frame that begins now, say (log entry 7). -/
structure RxFrame where
  lane : LaneId
  chars : List RxChar
  line : List LineCell
  deriving DecidableEq, Repr

/-- The commands: what can happen to the station, one constructor per row of spec/opcode_table.json, in its order. -/
inductive Instr
  | localWrite (addr : BitVec 14) (value : Word)
  | waitingWriteJudged
  | waitLimit
  | batchHold
  | dueBatchClose
  | heldWriteCommit (b : Block)
  | commit (low : Byte)
  | claim (b : Block)
  | refresh (b : Block)
  | leave (low : Byte)
  | rejoin (low : Byte)
  | commandUnknown (code low : Byte)
  | incidentAck (w : Word)
  | unrecordedMaskWrite (w : Word)
  | noticeRead
  | watchMapWrite (i : Fin 16) (w : Word)
  | stationAreaWriteIgnored (addr : BitVec 14) (w : Word)
  | resetAssert
  | resetRelease (stn : Station) (dual : Bool) (rate : BitVec 2)
  | statusReceived (rx : RxFrame)
  | joinReceived (rx : RxFrame)
  | admitReceived (rx : RxFrame)
  | updateReceived (rx : RxFrame)
  | claimReceived (rx : RxFrame)
  | handoverReceived (rx : RxFrame)
  | excludeReceived (rx : RxFrame)
  | fetchReceived (rx : RxFrame)
  | copyReceived (rx : RxFrame)
  | snapqReceived (rx : RxFrame)
  | snapReceived (rx : RxFrame)
  | queryReceived (rx : RxFrame)
  | versionsReceived (rx : RxFrame)
  | settleReceived (rx : RxFrame)
  | digestReceived (rx : RxFrame)
  | badFrameReceived (rx : RxFrame)
  | probationFrameReceived (rx : RxFrame)
  | abortMarkReceived (l : LaneId)
  | stuckLine (l : LaneId)
  | laneRestEnd (l : LaneId)
  | attemptStart (l : LaneId)
  | collision (l : LaneId) (readback : Option RxChar)
  | abortMarkEnd (l : LaneId)
  | frameSent (l : LaneId)
  | claimTimeout (b : Block)
  | claimSlotGrant
  | handoverServe
  | replayTimeout
  | receiptAgeLimit
  | waitingExcludeEnqueue (p : Station)
  | listenTimeout
  | joinTimeout
  | silenceTimeout (p : Station)
  | heirHandover
  | leaveExcludeRequest
  | departureEnd
  | snapqTimeout
  | fetchSlotOpen
  | fetchTimeout (b : Block)
  | holdEnd (b : Block)
  | settleJobStart
  | queryTimeout
  | settleEnqueue
  | deferenceEnd
  | digestTimeout
  | heartbeatTimeout
  deriving DecidableEq, Repr

end Sys2Proof
end

