-- ==== Sys2Proof/Machine/Operands.lean ====
section
/-! DEFINITION. What the commands carry, read: characters from samples (R140, R141), frames from characters (R143, R144), the CRC (R157), and the byte layout of every frame kind, written (R156 to R160) and read (R162). -/

namespace Sys2Proof

/-! ## Characters -/

/-- The value most of three samples give (R140); true is mark. -/
def majority (t : Triple) : Bool := (t.a && t.b) || (t.a && t.c) || (t.b && t.c)

/-- The three samples of a bit did not agree (R140). -/
def disagrees (t : Triple) : Bool := !(t.a == t.b && t.b == t.c)

/-- The byte of a list of bits, least significant first (R139). -/
def byteOfBits (bits : List Bool) : Byte := BitVec.ofNat 8 (bits.foldr (fun b n => 2 * n + b.toNat) 0)

/-- A change whose start bit reads mark is no character (R140). -/
def RxChar.falseStart (c : RxChar) : Bool := majority c.start

/-- The value the majorities of the data bits give. -/
def RxChar.value (c : RxChar) : Byte := byteOfBits (c.data.map majority)

/-- Any of the ten bits had samples that disagreed (R140). -/
def RxChar.noisy (c : RxChar) : Bool := disagrees c.start || c.data.any disagrees || disagrees c.stop

/-- The stop bit's majority reads space: a framing error, or the first of an abort mark (R141). -/
def RxChar.framing (c : RxChar) : Bool := !majority c.stop

/-- The three samples of a bit all read space. -/
def Triple.isSpace (t : Triple) : Bool := !t.a && !t.b && !t.c

/-- The three samples of a bit all read mark. -/
def Triple.isMark (t : Triple) : Bool := t.a && t.b && t.c

/-- The ten bits of a character, as they come on the line (R139). -/
def RxChar.bits (c : RxChar) : List Triple := c.start :: c.data ++ [c.stop]

/-- Three equal samples. -/
def Triple.all (v : Bool) : Triple := ⟨v, v, v⟩

/-- The bit times for which the line has held space since its last sample reading mark, at the end of a character; one
that has begun counts (R141). -/
def RxChar.trailing (c : RxChar) : Nat :=
  let back := c.bits.reverse
  let whole := (back.takeWhile Triple.isSpace).length
  if (back.getD whole (Triple.all true)).c then whole else whole + 1

/-- The character of byte b, sampled without noise: start at space, data least significant first, stop at mark (R139). -/
def cleanChar (b : Byte) : RxChar :=
  { start := Triple.all false
    data := [0, 1, 2, 3, 4, 5, 6, 7].map (fun i => Triple.all (b.getLsbD i))
    stop := Triple.all true }

/-- What is read where the line holds space for a whole character time: a character with a framing error (R140, R141). -/
def heldChar : RxChar :=
  { start := Triple.all false, data := List.replicate 8 (Triple.all false), stop := Triple.all false }

/-! ## The CRC -/

/-- `strictly n f` is `f n`, with n reduced to a numeral first where the kernel evaluates it. -/
def strictly {α : Type} (n : Nat) (f : Nat → α) : α :=
  match n with
  | 0 => f 0
  | k + 1 => f (k + 1)

/-- One bit of the CRC: feedback, shift, and the polynomial without its top term (R157). -/
def crcBit (r : Word) (d : Bool) : Word :=
  let feedback := r.msb != d
  let shifted := r <<< 1
  if feedback then shifted ^^^ 0x1021#16 else shifted

/-- The eight bits of a byte, most significant first (R157). -/
def crcByte (r : Word) (b : Byte) : Word :=
  [7, 6, 5, 4, 3, 2, 1, 0].foldl (fun r i => crcBit r (b.getLsbD i)) r

/-- The register after the bytes, from a register value n. -/
def crcFrom (n : Nat) : List Byte → Word
  | [] => BitVec.ofNat 16 n
  | b :: bs => strictly (crcByte (BitVec.ofNat 16 n) b).toNat (fun m => crcFrom m bs)

/-- The CRC of a run of bytes; the register starts at 0xFFFF and is not inverted at the end (R157). -/
def crc (bytes : List Byte) : Word := crcFrom 0xFFFF bytes

/-- The bytes of words, each high byte first (R134, R156). -/
def bytesOfWords (ws : List Word) : List Byte := ws.flatMap (fun w => [hiByte w, loByte w])

/-! ## Codes -/

/-- The kind byte (Table 10-2). -/
def Kind.code : Kind → Byte
  | .status => 0x01 | .join => 0x02 | .admission => 0x03 | .update => 0x04 | .claim => 0x05 | .handover => 0x06
  | .exclude => 0x07 | .fetch => 0x08 | .copy => 0x09 | .snapq => 0x0A | .snap => 0x0B | .query => 0x0C
  | .versions => 0x0D | .settle => 0x0E | .digest => 0x0F

/-- The kind of a kind byte; none outside 0x01 to 0x0F (R161). -/
def Kind.ofCode (b : Byte) : Option Kind :=
  [Kind.status, .join, .admission, .update, .claim, .handover, .exclude, .fetch, .copy, .snapq, .snap, .query, .versions,
    .settle, .digest].find? (fun k => k.code == b)

/-- The row of a good frame of a kind on an UP lane (Table 10-2). -/
def Kind.row : Kind → RxFrame → Instr
  | .status => .statusReceived
  | .join => .joinReceived
  | .admission => .admitReceived
  | .update => .updateReceived
  | .claim => .claimReceived
  | .handover => .handoverReceived
  | .exclude => .excludeReceived
  | .fetch => .fetchReceived
  | .copy => .copyReceived
  | .snapq => .snapqReceived
  | .snap => .snapReceived
  | .query => .queryReceived
  | .versions => .versionsReceived
  | .settle => .settleReceived
  | .digest => .digestReceived

/-- The sequenced kinds (R58). -/
def Kind.sequenced : Kind → Bool
  | .admission | .update | .handover | .exclude | .settle => true
  | .status | .join | .claim | .fetch | .copy | .snapq | .snap | .query | .versions | .digest => false

/-- The kinds addressed to one station (Table 10-2); the others go to all. -/
def Kind.toOne : Kind → Bool
  | .claim | .fetch | .copy | .snapq | .snap | .versions => true
  | .status | .join | .admission | .update | .handover | .exclude | .query | .settle | .digest => false

/-- The state code of a STATUS (Tables 5-1 and 10-3). -/
def MemberState.code : MemberState → Byte
  | .catchup => 3 | .live => 4 | .leaving => 5

def MemberState.ofCode (b : Byte) : Option MemberState :=
  if b = 3 then some .catchup else if b = 4 then some .live else if b = 5 then some .leaving else none

/-- The cause codes (Table 5-7). -/
def Cause.code : Cause → Byte
  | .silence => 1 | .replay => 2 | .settle => 3 | .leave => 4 | .rejoin => 5

def Cause.ofCode (b : Byte) : Option Cause :=
  [Cause.silence, .replay, .settle, .leave, .rejoin].find? (fun c => c.code == b)

/-- The kind of a payload. -/
def Payload.kind : Payload → Kind
  | .status .. => .status | .join => .join | .admission .. => .admission | .update .. => .update | .claim .. => .claim
  | .handover .. => .handover | .exclude .. => .exclude | .fetch .. => .fetch | .copyOk .. => .copy
  | .copyNotCurrent .. => .copy | .snapq .. => .snapq | .snap .. => .snap | .query .. => .query
  | .versions .. => .versions | .settle .. => .settle | .digest .. => .digest

/-! ## Station masks and the orphan bitmap -/

/-- The mask holds station p. -/
def maskHas (m : StationMask) (p : Station) : Bool := m.getLsbD p.val

/-- The mask of the stations 1 to 15 for which f holds. -/
def maskOf (f : Station → Bool) : StationMask :=
  BitVec.ofNat 16 (((List.finRange 16).filter (fun p => p.val != 0 && f p)).foldl (fun n p => n + 2 ^ p.val) 0)

/-- The flag of a block in a QUERY bitmap: byte b div 8, most significant bit for block 8i (R160). -/
def bitmapHas (bitmap : List Byte) (b : Block) : Bool := (bitmap.getD (b.val / 8) 0).getLsbD (7 - b.val % 8)

/-- The 32 bytes of a set of blocks (R160). -/
def bitmapOf (f : Block → Bool) : List Byte :=
  (List.range 32).map (fun i => byteOfBits ((List.range 8).map (fun j => f (Fin.ofNat 256 (8 * i + (7 - j))))))

/-- The flagged blocks in ascending order. -/
def bitmapBlocks (bitmap : List Byte) : List Block := (List.finRange 256).filter (bitmapHas bitmap)

/-! ## Payloads, written -/

def byteOf (n : Nat) : Byte := BitVec.ofNat 8 n

/-- A word's two bytes, high first (R156). -/
def wordBytes (w : Word) : List Byte := [hiByte w, loByte w]

def WordWrite.bytes (e : WordWrite) : List Byte := byteOf e.offset.val :: wordBytes e.value
def HandoverEntry.bytes (e : HandoverEntry) : List Byte := byteOf e.block.val :: e.epoch :: wordBytes e.version
def SettleEntry.bytes (e : SettleEntry) : List Byte :=
  byteOf e.block.val :: byteOf e.owner.val :: e.epoch :: (wordBytes e.version ++ [byteOf e.donor.val])
def SnapEntry.bytes (e : SnapEntry) : List Byte := byteOf e.owner.val :: e.epoch :: wordBytes e.version
def VersionsEntry.bytes (e : VersionsEntry) : List Byte :=
  byteOf e.block.val :: e.epoch :: (wordBytes e.version ++ [byteOf (e.owned.toNat + 2 * e.current.toNat)])
def DigestEntry.bytes (e : DigestEntry) : List Byte := byteOf e.block.val :: (wordBytes e.version ++ wordBytes e.check)
def welcomeBytes (p : Station × SeqNo) : List Byte := [byteOf p.1.val, p.2]

/-- The payload's bytes (Tables 10-3, 10-4 and 10-5). -/
def Payload.bytes : Payload → List Byte
  | .status st mask next known receipts welcome =>
    st.code :: (wordBytes mask ++ next :: (wordBytes known ++ (receipts ++ byteOf welcome.length :: welcome.flatMap welcomeBytes)))
  | .join => []
  | .admission j mask => byteOf j.val :: wordBytes mask
  | .update b e v es => byteOf b.val :: e :: (wordBytes v ++ byteOf es.length :: es.flatMap WordWrite.bytes)
  | .claim b a => [byteOf b.val, byteOf a]
  | .handover n es => byteOf n.val :: byteOf es.length :: es.flatMap HandoverEntry.bytes
  | .exclude p c => [byteOf p.val, c.code]
  | .fetch b => [byteOf b.val]
  | .copyOk b v ws => byteOf b.val :: (wordBytes v ++ 1#8 :: ws.flatMap wordBytes)
  | .copyNotCurrent b v => byteOf b.val :: (wordBytes v ++ [2#8])
  | .snapq m => wordBytes m
  | .snap p es => byteOf p.val :: es.flatMap SnapEntry.bytes
  | .query r bm => r :: bm
  | .versions r last es => r :: byteOf last.toNat :: byteOf es.length :: es.flatMap VersionsEntry.bytes
  | .settle r es => r :: byteOf es.length :: es.flatMap SettleEntry.bytes
  | .digest es => byteOf es.length :: es.flatMap DigestEntry.bytes

/-- Header and payload, the bytes the CRC covers (R156, R157). -/
def Frame.body (f : Frame) : List Byte :=
  f.payload.kind.code :: byteOf (16 * f.sender.val + f.target.val) :: f.seq :: byteOf f.payload.bytes.length :: f.payload.bytes

/-- The whole frame as it is sent (Table 10-1). -/
def Frame.bytes (f : Frame) : List Byte := f.body ++ wordBytes (crc f.body)

/-! ## Payloads, read -/

/-- A byte as a station number, where it is one. -/
def stationAt (lo : Nat) (b : Byte) : Option Station :=
  if h : lo ≤ b.toNat ∧ b.toNat < 16 then some ⟨b.toNat, h.2⟩ else none

/-- A byte as a block number. -/
def blockAt (b : Byte) : Block := ⟨b.toNat, b.isLt⟩

def readWrites : List Byte → Option (List WordWrite)
  | [] => some []
  | o :: h :: l :: rest =>
    if ho : o.toNat < 32 then (readWrites rest).map (fun es => ⟨⟨o.toNat, ho⟩, wordOf h l⟩ :: es) else none
  | _ => none

def readHandovers : List Byte → Option (List HandoverEntry)
  | [] => some []
  | b :: e :: h :: l :: rest => (readHandovers rest).map (fun es => ⟨blockAt b, e, wordOf h l⟩ :: es)
  | _ => none

def readSettles : List Byte → Option (List SettleEntry)
  | [] => some []
  | b :: n :: e :: h :: l :: d :: rest =>
    match stationAt 1 n, stationAt 1 d with
    | some n, some d => (readSettles rest).map (fun es => ⟨blockAt b, n, e, wordOf h l, d⟩ :: es)
    | _, _ => none
  | _ => none

def readSnaps : List Byte → Option (List SnapEntry)
  | [] => some []
  | n :: e :: h :: l :: rest =>
    match stationAt 0 n with
    | some n => (readSnaps rest).map (fun es => ⟨n, e, wordOf h l⟩ :: es)
    | none => none
  | _ => none

def readVersions : List Byte → Option (List VersionsEntry)
  | [] => some []
  | b :: e :: h :: l :: g :: rest =>
    if g.toNat < 4 then
      (readVersions rest).map (fun es => ⟨blockAt b, e, wordOf h l, g.getLsbD 0, g.getLsbD 1⟩ :: es)
    else none
  | _ => none

def readDigests : List Byte → Option (List DigestEntry)
  | [] => some []
  | b :: h :: l :: ch :: cl :: rest => (readDigests rest).map (fun es => ⟨blockAt b, wordOf h l, wordOf ch cl⟩ :: es)
  | _ => none

def readWelcome : List Byte → Option (List (Station × SeqNo))
  | [] => some []
  | j :: base :: rest =>
    match stationAt 1 j with
    | some j => (readWelcome rest).map (fun es => (j, base) :: es)
    | none => none
  | _ => none

def readWords : List Byte → Option (List Word)
  | [] => some []
  | h :: l :: rest => (readWords rest).map (fun ws => wordOf h l :: ws)
  | _ => none

/-- Strictly ascending (R162). -/
def ascending : List Nat → Bool
  | a :: b :: rest => decide (a < b) && ascending (b :: rest)
  | _ => true

/-- The count field of a repeated group lies in its range and is what the payload holds (R162). -/
def countOk (count : Byte) (lo hi n : Nat) : Bool := decide (count.toNat = n) && decide (lo ≤ n) && decide (n ≤ hi)

/-- Keep a payload only under a condition. -/
def onlyIf (c : Bool) (p : Payload) : Option Payload := if c then some p else none

/-- The fields of a payload are in their ranges, by Tables 10-3 to 10-5 and R162; sender is the frame's. -/
def Payload.ok (sender : Station) : Payload → Bool
  | .status _ mask _ known receipts welcome =>
    !mask.getLsbD 0 && maskHas mask sender && !known.getLsbD 0 && decide (receipts.length = 15)
      && decide (welcome.length ≤ 4) && welcome.all (fun w => decide (1 ≤ w.1.val) && w.1 != sender)
      && ascending (welcome.map (fun w => w.1.val))
  | .join => true
  | .admission j mask => decide (1 ≤ j.val) && j != sender && !mask.getLsbD 0 && maskHas mask j && maskHas mask sender
  | .update _ _ _ es => decide (1 ≤ es.length) && decide (es.length ≤ 16)
  | .claim _ a => decide (1 ≤ a) && decide (a ≤ 8)
  | .handover n es =>
    decide (1 ≤ n.val) && n != sender && decide (1 ≤ es.length) && decide (es.length ≤ 16)
      && ascending (es.map (fun e => e.block.val))
  | .exclude p c => decide (1 ≤ p.val) && (decide (c = .leave) == decide (p = sender))
  | .fetch _ => true
  | .copyOk _ _ ws => decide (ws.length = 32)
  | .copyNotCurrent _ _ => true
  | .snapq m => m != 0
  | .snap _ es => decide (es.length = 16)
  | .query _ bm => decide (bm.length = 32)
  | .versions _ _ es => decide (1 ≤ es.length) && decide (es.length ≤ 20) && ascending (es.map (fun e => e.block.val))
  | .settle _ es =>
    decide (1 ≤ es.length) && decide (es.length ≤ 16) && ascending (es.map (fun e => e.block.val))
      && es.all (fun e => decide (1 ≤ e.owner.val) && decide (1 ≤ e.donor.val))
  | .digest es => decide (1 ≤ es.length) && decide (es.length ≤ 8)

/-- The fields of a payload of kind k, read from its bytes, lengths checked (R162); the ranges that `Payload.ok` states
are checked after. -/
def readFields : Kind → List Byte → Option Payload
  | .status, st :: mh :: ml :: next :: kh :: kl :: rest =>
    match MemberState.ofCode st, rest.drop 15 with
    | some ms, w :: pairs =>
      (readWelcome pairs).bind (fun ws =>
        onlyIf (countOk w 0 4 ws.length) (.status ms (wordOf mh ml) next (wordOf kh kl) (rest.take 15) ws))
    | _, _ => none
  | .join, [] => some .join
  | .admission, [j, mh, ml] => (stationAt 1 j).map (fun j => .admission j (wordOf mh ml))
  | .update, b :: e :: vh :: vl :: n :: rest =>
    (readWrites rest).bind (fun es => onlyIf (countOk n 1 16 es.length) (.update (blockAt b) e (wordOf vh vl) es))
  | .claim, [b, a] => some (.claim (blockAt b) a.toNat)
  | .handover, o :: n :: rest =>
    match stationAt 1 o with
    | some o => (readHandovers rest).bind (fun es => onlyIf (countOk n 1 16 es.length) (.handover o es))
    | none => none
  | .exclude, [p, c] =>
    match stationAt 1 p, Cause.ofCode c with
    | some p, some c => some (.exclude p c)
    | _, _ => none
  | .fetch, [b] => some (.fetch (blockAt b))
  | .copy, b :: vh :: vl :: st :: rest =>
    if st = 1 then (readWords rest).map (fun ws => .copyOk (blockAt b) (wordOf vh vl) ws)
    else if st = 2 ∧ rest = [] then some (.copyNotCurrent (blockAt b) (wordOf vh vl))
    else none
  | .snapq, [mh, ml] => some (.snapq (wordOf mh ml))
  | .snap, p :: rest =>
    match stationAt 0 p with
    | some p => (readSnaps rest).map (fun es => .snap p es)
    | none => none
  | .query, r :: rest => some (.query r rest)
  | .versions, r :: g :: n :: rest =>
    if g.toNat < 2 then
      (readVersions rest).bind (fun es => onlyIf (countOk n 1 20 es.length) (.versions r (g.getLsbD 0) es))
    else none
  | .settle, r :: n :: rest =>
    (readSettles rest).bind (fun es => onlyIf (countOk n 1 16 es.length) (.settle r es))
  | .digest, n :: rest => (readDigests rest).bind (fun es => onlyIf (countOk n 1 8 es.length) (.digest es))
  | _, _ => none

/-- The payload check of R162: the payload a frame of kind k from that sender carries, or none where it fails. -/
def readPayload (k : Kind) (sender : Station) (bytes : List Byte) : Option Payload :=
  (readFields k bytes).bind (fun p => onlyIf (p.ok sender) p)

/-! ## Frames, received -/

/-- What the Lane Interface keeps of the frame coming in (Table 9-1, R143), and how many of its characters are those of a
frame this station has sent whole on the lane (R144), 0 for none. -/
structure FrameBuffer where
  chars : List Byte
  count : Nat
  noisy : Bool
  fault : Bool
  framing : Bool
  own : Nat
  deriving DecidableEq, Repr

/-- No frame in progress. -/
def FrameBuffer.empty : FrameBuffer :=
  { chars := [], count := 0, noisy := false, fault := false, framing := false, own := 0 }

/-- The frame is this station's own, sent whole and read back, with no character of another after it (R144). -/
def FrameBuffer.isReadback (f : FrameBuffer) : Bool := decide (0 < f.own) && decide (f.own = f.count)

/-- A valid start bit inside a frame is one more character; the 127th gives the fault mark (R143). -/
def FrameBuffer.next (f : FrameBuffer) : FrameBuffer :=
  { f with count := f.count + 1, fault := f.fault || decide (Config.frameMax < f.count + 1) }

/-- That character, once its stop bit has come: its value is kept up to the 126th (R143). A noisy one marks the frame,
whether or not its stop bit is valid (R140, Table 9-3; log entry 25). A framing error gives the fault mark (R141). -/
def FrameBuffer.fill (f : FrameBuffer) (c : RxChar) : FrameBuffer :=
  { f with
    chars := if f.count ≤ Config.frameMax then f.chars ++ [c.value] else f.chars
    noisy := f.noisy || c.noisy
    fault := f.fault || c.framing
    framing := f.framing || c.framing }

/-- A whole character inside a frame: nothing for a false start (R140), else one more. -/
def FrameBuffer.take (f : FrameBuffer) (c : RxChar) : FrameBuffer := if c.falseStart then f else f.next.fill c

/-! ## The receiver, bit by bit (R140 to R143) -/

/-- What a Lane Interface goes by as bits come in: the frame buffer, the bits of the character in progress (start bit
first, none outside a character), the space run in bit times, the idle time in ct, and whether the line has read space
since the idle time was last counted. -/
structure Receiver where
  buffer : FrameBuffer
  shift : List Triple
  spaceRun : Nat
  idle : Nat
  heard : Bool
  deriving DecidableEq, Repr

/-- The receiver of a lane that awaits a frame (R143). -/
def Receiver.awaiting : Receiver :=
  { buffer := FrameBuffer.empty, shift := [], spaceRun := 0, idle := Config.frameEnd, heard := false }

/-- A sample that reads space restarts the idle time (R140). -/
def Receiver.hearSpace (r : Receiver) (t : Triple) : Receiver := if t.isMark then r else { r with idle := 0, heard := true }

/-- A bit at mark, outside a character: a change to space is a valid start bit where the majority reads space, and is one
more character of the frame in progress, or begins a frame after 2 ct of idle; a false start is ignored (R140, R143). -/
def Receiver.seekStart (r : Receiver) (t : Triple) : Receiver :=
  if majority t then r
  else
    { r with
      shift := [t], idle := 0, heard := true
      buffer := if 0 < r.buffer.count ∨ Config.frameEnd ≤ r.idle then r.buffer.next else r.buffer }

/-- A bit while the line has not come back to mark after a stop bit at space: no start bit is looked for. Space lengthens
the space run, which at 12 bit times is an abort mark, and the frame in progress is discarded (R141); a run past 64 ct
stays until the lane goes DOWN (R142). -/
def Receiver.awaitMark (r : Receiver) (t : Triple) : Receiver :=
  if Config.stuckRun < r.spaceRun then { r with idle := 0, heard := true }
  else if t.isSpace then
    { r with
      spaceRun := r.spaceRun + 1
      buffer := if Config.abortRun ≤ r.spaceRun + 1 then FrameBuffer.empty else r.buffer }
  else { r with spaceRun := 0 }

/-- The stop bit of a character has come (R140, R141); one outside a frame is ignored (R143). -/
def Receiver.endChar (r : Receiver) (c : RxChar) : Receiver :=
  { r with
    shift := []
    spaceRun := if c.framing then c.trailing else 0
    buffer := if 0 < r.buffer.count then r.buffer.fill c else r.buffer }

/-- One bit comes in. -/
def Receiver.hearBit (r : Receiver) (t : Triple) : Receiver :=
  match r.shift with
  | [] => if r.spaceRun = 0 then r.seekStart t else (r.hearSpace t).awaitMark t
  | start :: data =>
    if data.length < 8 then { r.hearSpace t with shift := start :: data ++ [t] }
    else (r.hearSpace t).endChar { start := start, data := data, stop := t }

def Receiver.hear (r : Receiver) (bits : List Triple) : Receiver := bits.foldl Receiver.hearBit r

/-- Characters with the 2 ct of idle after them. -/
def withIdle (cs : List RxChar) : List Triple := cs.flatMap RxChar.bits ++ List.replicate 20 (Triple.all true)

/-- The ten bits of one character time. -/
def LineCell.bits : LineCell → List Triple
  | .mark => List.replicate 10 (Triple.all true)
  | .char c => c.bits
  | .space => List.replicate 10 (Triple.all false)

/-- How the fault of a bad frame is classed (R144). -/
inductive FrameFault | framing | length | crc
  deriving DecidableEq, Repr

/-- The check at a frame's end: none when the frame is good. The fault mark of a framing error is a framing fault, that
of an overlength a length fault (R144). -/
def FrameBuffer.verdict (f : FrameBuffer) : Option FrameFault :=
  if f.framing then some .framing
  else if f.fault = true ∨ f.count > Config.frameMax ∨ f.count < Config.frameMin ∨ f.count ≠ (f.chars.getD 3 0).toNat + 6 then some .length
  else if wordOf (f.chars.getD (f.count - 2) 0) (f.chars.getD (f.count - 1) 0) ≠ crc (f.chars.take (f.count - 2)) then some .crc
  else none

/-- The header and payload bytes of a good frame (Table 10-1). -/
structure RawFrame where
  kind : Byte
  sender : Station
  target : Station
  seq : SeqNo
  payload : List Byte
  deriving DecidableEq, Repr

/-- The fields of a good frame's characters. -/
def rawFrame (chars : List Byte) : RawFrame :=
  { kind := chars.getD 0 0
    sender := Fin.ofNat 16 ((chars.getD 1 0).toNat / 16)
    target := Fin.ofNat 16 ((chars.getD 1 0).toNat % 16)
    seq := chars.getD 2 0
    payload := (chars.drop 4).take (chars.getD 3 0).toNat }

/-- What a frame row's characters and the 2 ct of idle after them leave in the buffer of a lane that awaits a frame. -/
def RxFrame.buffer (rx : RxFrame) : FrameBuffer := (Receiver.awaiting.hear (withIdle rx.chars)).buffer

/-- What a run of characters carries as a frame: the Lane Interface's check, then kind, target class and payload
(R144, R161, R162), whoever sent it and to whomever. -/
def readFrame (chars : List Byte) : Option Frame :=
  let r := rawFrame chars
  let buffer : FrameBuffer := { FrameBuffer.empty with chars := chars, count := chars.length }
  if buffer.verdict = none then
    match Kind.ofCode r.kind with
    | some k =>
      if r.sender.val ≠ 0 ∧ k.toOne = decide (r.target.val ≠ 0) then
        (readPayload k r.sender r.payload).map (fun p => ⟨r.sender, r.target, r.seq, p⟩)
      else none
    | none => none
  else none

end Sys2Proof
end

