-- ==== Sys2Proof/WellFormed.lean ====
section
/-! DEFINITION. Which commands the outside world can give: an address in the range its row names, a command code the table lacks, a frame of the row's kind. exec is total and does not rest on these checks. -/

namespace Sys2Proof

/-- A window address (R1). -/
def inWindow (addr : BitVec 14) : Bool := decide (addr.toNat < 0x2000)

/-- A station-area word that a write changes, or that a write gives a command by (Table 11-5): COMMAND, INCIDENT ACK,
the unrecorded mask and the watch map. -/
def takesWrites (addr : BitVec 14) : Bool :=
  decide (addr.toNat = 0x2005) || decide (addr.toNat = 0x200F) || decide (addr.toNat = 0x2011)
    || (decide (0x2020 ≤ addr.toNat) && decide (addr.toNat ≤ 0x202F))

/-- Ten bits a character (R139). -/
def RxChar.tenBits (c : RxChar) : Bool := decide (c.data.length = 8)

/-- Every character a frame row brings has ten bits. -/
def RxFrame.tenBits (rx : RxFrame) : Bool :=
  rx.chars.all RxChar.tenBits && rx.line.all (fun x => match x with | .char c => c.tenBits | .mark | .space => true)

/-- A frame that can come in by the row of kind k: good (R144), and of kind k, or of a kind byte outside Table 10-2,
which no row names and any may bring (log entry 18); or no characters, for a frame that comes in at character times. -/
def RxFrame.goodOf (k : Kind) (rx : RxFrame) : Bool :=
  rx.tenBits && (rx.chars.isEmpty || (decide (rx.buffer.verdict = none)
    && (match Kind.ofCode (rx.buffer.chars.getD 0 0) with
        | some k' => decide (k' = k)
        | none => true)))

/-- The command is one the outside world can give. -/
def Instr.wellFormed : Instr → Bool
  | .localWrite addr _ => inWindow addr
  | .commandUnknown code _ => decide (code.toNat = 0) || decide (5 < code.toNat)
  | .stationAreaWriteIgnored addr _ => !inWindow addr && !takesWrites addr
  | .statusReceived rx => rx.goodOf .status
  | .joinReceived rx => rx.goodOf .join
  | .admitReceived rx => rx.goodOf .admission
  | .updateReceived rx => rx.goodOf .update
  | .claimReceived rx => rx.goodOf .claim
  | .handoverReceived rx => rx.goodOf .handover
  | .excludeReceived rx => rx.goodOf .exclude
  | .fetchReceived rx => rx.goodOf .fetch
  | .copyReceived rx => rx.goodOf .copy
  | .snapqReceived rx => rx.goodOf .snapq
  | .snapReceived rx => rx.goodOf .snap
  | .queryReceived rx => rx.goodOf .query
  | .versionsReceived rx => rx.goodOf .versions
  | .settleReceived rx => rx.goodOf .settle
  | .digestReceived rx => rx.goodOf .digest
  | .badFrameReceived rx => rx.tenBits && (rx.chars.isEmpty || decide (rx.buffer.verdict ≠ none))
  | .probationFrameReceived rx => rx.tenBits && (rx.chars.isEmpty || decide (rx.buffer.verdict = none))
  | .collision _ (some c) => c.tenBits
  | .waitingExcludeEnqueue p => decide (p.val ≠ 0)
  | .silenceTimeout p => decide (p.val ≠ 0)
  | .collision _ none | .waitingWriteJudged | .waitLimit | .batchHold | .dueBatchClose | .heldWriteCommit _ | .commit _
  | .claim _ | .refresh _ | .leave _ | .rejoin _ | .incidentAck _ | .unrecordedMaskWrite _ | .noticeRead
  | .watchMapWrite _ _ | .resetAssert | .resetRelease _ _ _ | .abortMarkReceived _ | .stuckLine _ | .laneRestEnd _
  | .attemptStart _ | .abortMarkEnd _ | .frameSent _ | .claimTimeout _ | .claimSlotGrant | .handoverServe
  | .replayTimeout | .receiptAgeLimit | .listenTimeout | .joinTimeout | .heirHandover | .leaveExcludeRequest
  | .departureEnd | .snapqTimeout | .fetchSlotOpen | .fetchTimeout _ | .holdEnd _ | .settleJobStart | .queryTimeout
  | .settleEnqueue | .deferenceEnd | .digestTimeout | .heartbeatTimeout => true

end Sys2Proof
end

