-- ==== Sys2Proof/Machine/State.lean ====
section
/-! DEFINITION. The state of an HM4160: every register, list, queue, timer and mode the data book gives its units, as plain data, and the state after reset. A timer that can be stopped is none while it is. -/

namespace Sys2Proof.Machine

/-! ## The Directory (chapter 1) -/

/-- Copy states (Table 1-2). -/
inductive CopyState | unknown | stale | fetching | current
  deriving DecidableEq, Repr

/-- A directory entry (Table 1-1). Owner 0 is unknown. -/
structure DirEntry where
  owner : Station
  epoch : Epoch
  version : Version
  copy : CopyState
  seen : Option Version
  donor : Option Station
  yielding : Bool
  deriving DecidableEq, Repr

/-- The entry at RESET (Table 1-5). -/
def DirEntry.reset : DirEntry :=
  { owner := 0, epoch := 0, version := 0, copy := .unknown, seen := none, donor := none, yielding := false }

/-- Window Memory: (window word, value) pairs, words strictly rising, no value 0; an unlisted word reads 0 (R1, R22). -/
abbrev Window := List (Nat × Word)

/-! ## The Write Unit (chapter 2) -/

/-- The open batch (Table 2-1). -/
structure OpenBatch where
  block : Block
  entries : List WordWrite
  age : Nat
  due : Bool
  deriving DecidableEq, Repr

/-- A held-write entry (Table 2-1). -/
structure HeldWrite where
  addr : WindowAddr
  value : Word
  deriving DecidableEq, Repr

/-- The write kept waiting under WAIT (Table 2-1). -/
structure WaitingWrite where
  addr : WindowAddr
  value : Word
  waited : Nat
  deriving DecidableEq, Repr

structure WriteUnit where
  batch : Option OpenBatch
  held : List HeldWrite
  waiting : Option WaitingWrite
  deriving DecidableEq, Repr

def WriteUnit.reset : WriteUnit := { batch := none, held := [], waiting := none }

/-! ## The Claim Unit (chapter 3) -/

/-- A claim slot (Table 3-1). -/
structure ClaimSlot where
  block : Block
  target : Station
  attempt : Nat
  timer : Option Nat
  held : Bool
  deriving DecidableEq, Repr

structure ClaimUnit where
  slots : List ClaimSlot
  /-- The claim list: (block, claimant), oldest first. -/
  list : List (Block × Station)
  deriving DecidableEq, Repr

def ClaimUnit.reset : ClaimUnit := { slots := [], list := [] }

/-! ## The Sequencing Unit (chapter 4) -/

/-- A replay-queue entry (R59). -/
structure ReplayEntry where
  seq : SeqNo
  frame : Frame
  sent : Bool
  marked : Bool
  count : Nat
  timer : Option Nat
  deriving DecidableEq, Repr

structure SeqUnit where
  next : SeqNo
  queue : List ReplayEntry
  owed : Bool
  urgent : Bool
  accepted : Nat
  age : Option Nat
  deriving DecidableEq, Repr

def SeqUnit.reset : SeqUnit := { next := 0, queue := [], owed := false, urgent := false, accepted := 0, age := none }

/-! ## The Membership Unit (chapter 5) -/

/-- Station states (Table 5-1). -/
inductive StationState
  | offline | listening | joining | catchup | live | leaving | departed | isolated | halted
  deriving DecidableEq, Repr

/-- The codes of Table 5-1. -/
def StationState.code : StationState → Word
  | .offline => 0 | .listening => 1 | .joining => 2 | .catchup => 3 | .live => 4 | .leaving => 5 | .departed => 6
  | .isolated => 7 | .halted => 8

/-- States of a peer-table entry (Table 5-4). -/
inductive PeerState | absent | catchup | live | leaving | excluded
  deriving DecidableEq, Repr

/-- A peer-table entry (Table 5-4). -/
structure Peer where
  state : PeerState
  silence : Option Nat
  expect : Option SeqNo
  receipt : Option SeqNo
  base : Option SeqNo
  welcome : Bool
  includesUs : Bool
  deriving DecidableEq, Repr

/-- An entry that RESET or teardown has left ABSENT (R77, R84). -/
def Peer.empty : Peer :=
  { state := .absent, silence := none, expect := none, receipt := none, base := none, welcome := false
    includesUs := false }

structure MemberUnit where
  state : StationState
  own : Station
  /-- One entry per station number; those of 0 and of the own number are never used and stay ABSENT. -/
  peers : Vector Peer 16
  registrar : Station
  listen : Option Nat
  join : Option Nat
  urgentStatus : Bool
  leavePending : Bool
  waitingExcludes : List (Station × Cause)
  deriving DecidableEq, Repr

/-! ## The Copy Unit (chapter 6) -/

/-- A fetch slot (Table 6-1); source 0 is none. -/
structure FetchSlot where
  block : Block
  source : Station
  attempt : Nat
  timer : Nat
  deriving DecidableEq, Repr

/-- An answer-queue entry: its kind, requester and item (Table 6-1, R121). -/
inductive Answer
  | copy (requester : Station) (b : Block)
  | snap (requester : Station) (p : Part)
  | versions (requester : Station) (r : Round)
  deriving DecidableEq, Repr

structure CopyUnit where
  slots : List FetchSlot
  holds : List (Block × Nat)
  missing : Word
  snapq : Option Nat
  answers : List Answer
  deriving DecidableEq, Repr

def CopyUnit.reset : CopyUnit := { slots := [], holds := [], missing := 0, snapq := none, answers := [] }

/-! ## The Settle Unit (chapter 7) -/

inductive JobState | idle | querying | announcing
  deriving DecidableEq, Repr

/-- A required answerer: its answered flag and next expected block, none after the last of the set (Table 7-1). -/
structure Answerer where
  station : Station
  answered : Bool
  next : Option Block
  deriving DecidableEq, Repr

/-- A settle-table record (Table 7-1, R123). -/
structure SettleRecord where
  block : Block
  epoch : Option Epoch
  version : Option Version
  holder : Option Station
  currentHolder : Option Station
  flaggers : List Station
  deriving DecidableEq, Repr

/-- The reply record (Table 7-1); next is none once no flagged block remains. -/
structure Reply where
  requester : Station
  round : Round
  bitmap : List Byte
  next : Option Block
  finished : Bool
  deriving DecidableEq, Repr

structure SettleUnit where
  job : JobState
  round : Round
  orphans : List Block
  answerers : List Answerer
  queries : Nat
  queryTimer : Option Nat
  table : List SettleRecord
  announce : List SettleEntry
  announced : Nat
  deference : Option Nat
  reply : Option Reply
  deriving DecidableEq, Repr

def SettleUnit.reset : SettleUnit :=
  { job := .idle, round := 0, orphans := [], answerers := [], queries := 0, queryTimer := none, table := []
    announce := [], announced := 0, deference := none, reply := none }

/-! ## The Audit Unit (chapter 8) -/

structure AuditUnit where
  pointer : Block
  timer : Option Nat
  due : Bool
  deriving DecidableEq, Repr

def AuditUnit.reset : AuditUnit := { pointer := 255, timer := none, due := false }

/-! ## Lanes and the Transmit Selector (chapter 9) -/

/-- Lane states (Table 9-2). -/
inductive LaneState | off | up | down | probation
  deriving DecidableEq, Repr

/-- The codes of Table 9-2. -/
def LaneState.code : LaneState → Word
  | .off => 0 | .up => 1 | .down => 2 | .probation => 3

/-- Access Controller states (Table 9-4). -/
inductive AccessState | idle | deferring | sending | aborting
  deriving DecidableEq, Repr

/-- One lane: its Lane Interface and its Access Controller (Table 9-1). The frame a controller holds is the Transmit
Selector's current frame. -/
structure Lane where
  state : LaneState
  score : Nat
  rest : Option Nat
  good : Nat
  idle : Nat
  spaceRun : Nat
  /-- The bits of the character coming in, start bit first; none outside a character (R138, R140). -/
  shift : List Triple
  buffer : FrameBuffer
  access : AccessState
  attempt : Nat
  required : Nat
  /-- Characters sent so far in SENDING. -/
  progress : Nat
  /-- Abort mark driven so far in ABORTING, in ct. -/
  abortTime : Nat
  /-- The last character read back in SENDING, none where none was read (R150). -/
  readback : Option RxChar
  /-- What RX is to carry in the character times to come, as rows have told; past its end the line is at mark, or
  carries this station's own transmission (log entry 7). -/
  line : List LineCell
  deriving DecidableEq, Repr

/-- A lane at RESET, in the given state (R138). -/
def Lane.reset (st : LaneState) : Lane :=
  { state := st, score := 0, rest := none, good := 0, idle := 0, spaceRun := 0, shift := []
    buffer := FrameBuffer.empty
    access := .idle, attempt := 0, required := Config.accessGap, progress := 0, abortTime := 0
    readback := none, line := [] }

/-- A request waiting in the Transmit Selector, with the number of the event in which it fell due (R153). -/
structure Request where
  payload : Payload
  target : Station
  stamp : Nat
  deriving DecidableEq, Repr

structure Selector where
  current : Option Frame
  doneA : Bool
  doneB : Bool
  requests : List Request
  heartbeat : Option Nat
  deriving DecidableEq, Repr

def Selector.reset : Selector := { current := none, doneA := true, doneB := true, requests := [], heartbeat := none }

/-! ## Incidents and the local port (chapter 11) -/

/-- Incident classes (Table 11-3). -/
inductive IncidentClass
  | laneDown | laneUp | peerExcluded | selfExcluded | groupDissolved | numberClash | founded | joined | departed
  | writeRefused | writeDropped | writesDiscarded | fetchFailed | auditMismatch | settled | malformedFrame
  deriving DecidableEq, Repr

/-- The class codes of Table 11-3. -/
def IncidentClass.code : IncidentClass → Nat
  | .laneDown => 1 | .laneUp => 2 | .peerExcluded => 3 | .selfExcluded => 4 | .groupDissolved => 5 | .numberClash => 6
  | .founded => 7 | .joined => 8 | .departed => 9 | .writeRefused => 10 | .writeDropped => 11 | .writesDiscarded => 12
  | .fetchFailed => 13 | .auditMismatch => 14 | .settled => 15 | .malformedFrame => 16

/-- What a unit offers: the fields its rule gives, the others absent (R167). -/
structure Offer where
  cls : IncidentClass
  peer : Option Station := none
  block : Option Block := none
  lane : Option LaneId := none
  detail : Word := 0
  deriving DecidableEq, Repr

/-- The units that offer incidents (Table 11-3). -/
inductive IncidentUnit
  | laneA | laneB | membership | write | copy | directory | settle | audit | decoder
  deriving DecidableEq, Repr

/-- The unit that offers an incident of a class; for AUDIT_MISMATCH the Directory (R11 to R13, R16, R17), and `offerBy`
names the others. -/
def Offer.unit (o : Offer) : IncidentUnit :=
  match o.cls with
  | .laneDown | .laneUp => match o.lane with | some .B => .laneB | _ => .laneA
  | .peerExcluded | .selfExcluded | .groupDissolved | .numberClash | .founded | .joined | .departed => .membership
  | .writeRefused | .writeDropped | .writesDiscarded => .write
  | .fetchFailed => .copy
  | .auditMismatch => .directory
  | .settled => .settle
  | .malformedFrame => .decoder

/-- An incident record (Table 11-2). -/
structure Incident where
  number : Word
  time : Clock
  what : Offer
  deriving DecidableEq, Repr

structure IncidentLog where
  records : List Incident
  counter : Word
  mask : Word
  /-- The model's own: the incidents offered in the event in hand, each with its unit, not yet numbered; empty between
  events. -/
  offered : List (IncidentUnit × Offer)
  deriving DecidableEq, Repr

def IncidentLog.reset : IncidentLog := { records := [], counter := 0, mask := 0, offered := [] }

structure LocalPort where
  watch : BitVec 256
  notices : List Block
  overflow : Bool
  command : Word
  result : Word
  /-- The word last driven on D15-D0 by a read of NOTICE. -/
  dataOut : Word
  deriving DecidableEq, Repr

def LocalPort.reset : LocalPort :=
  { watch := 0, notices := [], overflow := false, command := 0, result := 0, dataOut := 0 }

/-! ## The station -/

structure State where
  /-- RESET is held low (R175). -/
  resetLow : Bool
  /-- The DUAL and RATE straps as sampled at RESET release (R138, Table 0-4). -/
  dual : Bool
  rate : BitVec 2
  clock : Clock
  window : Window
  dir : Vector DirEntry 256
  write : WriteUnit
  claim : ClaimUnit
  seq : SeqUnit
  member : MemberUnit
  copy : CopyUnit
  settle : SettleUnit
  audit : AuditUnit
  laneA : Lane
  laneB : Lane
  select : Selector
  log : IncidentLog
  port : LocalPort
  /-- The model's own: the number of the event in hand, by which requests are ordered (R153). -/
  stamp : Nat
  /-- The model's own: how many free choices have been taken (Config.freeChoice). -/
  freeCount : Nat
  /-- The commands that are waiting, first in first out. -/
  pending : List Instr
  deriving DecidableEq, Repr

/-- No command stops the machine: the data book gives every event an effect, and what goes wrong is an incident, a lane
state or a station state. The type has no constructor, so that no step can answer a fault. -/
inductive Fault
  deriving DecidableEq, Repr

/-- What a step can be refused for. -/
inductive Refusal
  /-- Raised by exec for a row that has no meaning in the model yet; no row is left so. Safe. -/
  | notModelled (mnemonic : String)
  deriving DecidableEq, Repr

/-- The Membership Unit at RESET release with number n (R77, R78): OFFLINE for 0, else LISTENING with the listen timer
at 0 ct; Lane A is UP after every RESET (R138), so the timer runs. -/
def MemberUnit.reset (n : Station) : MemberUnit :=
  { state := if n = 0 then .offline else .listening
    own := n
    peers := Vector.replicate 16 Peer.empty
    registrar := 0
    listen := if n = 0 then none else some 0
    join := none
    urgentStatus := false
    leavePending := false
    waitingExcludes := [] }

/-- Every unit at its reset value, with the straps as sampled at the rising edge of RESET (R175): number, DUAL, RATE. -/
def State.released (stn : Station) (dual : Bool) (rate : BitVec 2) : State :=
  { resetLow := false
    dual := dual
    rate := rate
    clock := 0
    window := []
    dir := Vector.replicate 256 DirEntry.reset
    write := WriteUnit.reset
    claim := ClaimUnit.reset
    seq := SeqUnit.reset
    member := MemberUnit.reset stn
    copy := CopyUnit.reset
    settle := SettleUnit.reset
    audit := AuditUnit.reset
    laneA := Lane.reset .up
    laneB := Lane.reset (if dual then .up else .off)
    select := Selector.reset
    log := IncidentLog.reset
    port := LocalPort.reset
    stamp := 0
    freeCount := 0
    pending := [] }

/-- The machine right after RESET release. DESIGN CHOICE (log entry 1): the straps are the board's, and the model takes
station number 1, DUAL high, rate 00. RESET_RELEASE gives any others. -/
def State.reset : State := State.released 1 true 0

end Sys2Proof.Machine
end

