-- ==== Sys2Proof/Machine/Ops.lean ====
section
/-! DEFINITION. The operations every unit shares: serial comparison, tables, updates of one unit, Window Memory, the directory entry, peers and masks, lanes, incidents offered, notices, requests, and the free choice. -/

namespace Sys2Proof.Machine

/-! ## Serial comparison (R9) -/

/-- An 8-bit value a is later than b (R9). -/
def later8 (a b : BitVec 8) : Bool := decide (1 ≤ (a - b).toNat) && decide ((a - b).toNat ≤ 127)

/-- A version a is later than b (R9). -/
def later16 (a b : BitVec 16) : Bool := decide (1 ≤ (a - b).toNat) && decide ((a - b).toNat ≤ 32767)

/-- How a local version stands to another. -/
inductive VersionOrder | earlier | equal | later
  deriving DecidableEq, Repr

/-- The local version against v (R9), for Tables 1-4 and 8-2 on a CURRENT copy: two versions 32,768 apart are none of
the three by R9, and which of the outer two columns they fall under is free (log entry 4). -/
def orderVersion (own v : Version) : VersionOrder :=
  if own = v then .equal
  else if later16 own v then .later
  else if later16 v own then .earlier
  else if Config.antipodalEarlier own v then .earlier else .later

/-! ## Tables -/

/-- A table's entry. -/
def look {α : Type} {n : Nat} (t : Vector α n) (i : Fin n) : α := t[i.val]

/-- A table with one entry replaced. -/
def put {α : Type} {n : Nat} (t : Vector α n) (i : Fin n) (x : α) : Vector α n := t.set i.val x i.isLt

/-- A table with every entry changed. -/
def mapTable {α : Type} {n : Nat} (f : α → α) (t : Vector α n) : Vector α n := ⟨⟨t.toList.map f⟩, by simp⟩

/-- The stations 1 to 15, lowest first. -/
def stations : List Station := [1, 2, 3, 4, 5, 6, 7, 8, 9, 10, 11, 12, 13, 14, 15]

/-- The blocks 0 to 255, lowest first. -/
def blocks : List Block := List.finRange 256

/-! ## Updates of one unit -/

def State.setWindow (s : State) (x : Window) : State := { s with window := x }
def State.setDir (s : State) (x : Vector DirEntry 256) : State := { s with dir := x }
def State.setWrite (s : State) (x : WriteUnit) : State := { s with write := x }
def State.setClaim (s : State) (x : ClaimUnit) : State := { s with claim := x }
def State.setSeq (s : State) (x : SeqUnit) : State := { s with seq := x }
def State.setMember (s : State) (x : MemberUnit) : State := { s with member := x }
def State.setCopyUnit (s : State) (x : CopyUnit) : State := { s with copy := x }
def State.setSettle (s : State) (x : SettleUnit) : State := { s with settle := x }
def State.setAudit (s : State) (x : AuditUnit) : State := { s with audit := x }
def State.setSelect (s : State) (x : Selector) : State := { s with select := x }
def State.setLog (s : State) (x : IncidentLog) : State := { s with log := x }
def State.setPort (s : State) (x : LocalPort) : State := { s with port := x }
def State.setPending (s : State) (x : List Instr) : State := { s with pending := x }

/-- One lane. -/
def State.lane (s : State) : LaneId → Lane
  | .A => s.laneA
  | .B => s.laneB

def State.setLane (s : State) (l : LaneId) (x : Lane) : State :=
  match l with
  | .A => { s with laneA := x }
  | .B => { s with laneB := x }

/-! ## The free choice -/

/-- The number of one of k candidates, the next free choice where there is more than one (log entry 3). -/
def State.choose (s : State) (k : Nat) : Nat × State :=
  if k ≤ 1 then (0, s) else (Config.freeChoice s.freeCount % k, { s with freeCount := s.freeCount + 1 })

/-- A list put in a free order, from a count of free choices taken so far; fuel is its length. -/
def arrange {α : Type} : Nat → Nat → List α → List α × Nat
  | 0, n, xs => (xs, n)
  | fuel + 1, n, xs =>
    if xs.length ≤ 1 then (xs, n)
    else
      match xs[Config.freeChoice n % xs.length]? with
      | none => (xs, n)
      | some x =>
        let rest := arrange fuel (n + 1) (xs.eraseIdx (Config.freeChoice n % xs.length))
        (x :: rest.1, rest.2)

/-! ## Window Memory (R1) -/

/-- The block of a window word (R1). -/
def blockOf (a : WindowAddr) : Block := ⟨a.val / 32, by omega⟩

/-- The offset of a window word in its block (R1). -/
def offsetOf (a : WindowAddr) : Offset := ⟨a.val % 32, by omega⟩

/-- Word 32b + f (R1). -/
def addrOf (b : Block) (f : Offset) : WindowAddr := ⟨32 * b.val + f.val, by omega⟩

/-- The word at a window address; an unlisted word reads 0 (R22). -/
def Window.read : Window → Nat → Word
  | [], _ => 0
  | (k, v) :: rest, a => if a = k then v else if a < k then 0 else Window.read rest a

/-- The window with one word written, in canonical form. -/
def Window.store : Window → Nat → Word → Window
  | [], a, x => if x = 0 then [] else [(a, x)]
  | (k, v) :: rest, a, x =>
    if a = k then (if x = 0 then rest else (a, x) :: rest)
    else if a < k then (if x = 0 then (k, v) :: rest else (a, x) :: (k, v) :: rest)
    else (k, v) :: Window.store rest a x

/-- The canonical form: words strictly rising from lo on, none 0, all inside the window. -/
def Window.wfFrom : Nat → Window → Bool
  | _, [] => true
  | lo, (k, v) :: rest => decide (lo ≤ k) && decide (k < 8192) && decide (v ≠ 0) && Window.wfFrom (k + 1) rest

/-- The canonical form of Window Memory. -/
def Window.wf (w : Window) : Bool := Window.wfFrom 0 w

/-- Words of block b written in list order, so that a repeated offset takes its last value (R13). -/
def Window.storeBlock (w : Window) (b : Block) (es : List WordWrite) : Window :=
  es.foldl (fun w e => w.store (addrOf b e.offset).val e.value) w

/-- The 32 words of a block, word 0 first. -/
def Window.blockWords (w : Window) (b : Block) : List Word :=
  (List.finRange 32).map (fun f => w.read (addrOf b f).val)

/-- The writes that set a block's words to those of a list. -/
def writesOf (ws : List Word) : List WordWrite :=
  ((List.finRange 32).zip ws).map (fun p => ⟨p.1, p.2⟩)

/-- The check of a block: the CRC of its 32 words, each high byte first (R134). -/
def State.blockCheck (s : State) (b : Block) : Word := crc (bytesOfWords (s.window.blockWords b))

/-! ## Stations and masks -/

def State.state (s : State) : StationState := s.member.state
def State.own (s : State) : Station := s.member.own
def State.peer (s : State) (p : Station) : Peer := look s.member.peers p
def State.setPeer (s : State) (p : Station) (x : Peer) : State :=
  s.setMember { s.member with peers := put s.member.peers p x }

/-- CATCHUP, LIVE or LEAVING: the states in which the station is of a group (R83). -/
def State.active (s : State) : Bool := s.state = .catchup || s.state = .live || s.state = .leaving

/-- The entry is a member's: CATCHUP, LIVE or LEAVING (R87). -/
def PeerState.member : PeerState → Bool
  | .catchup | .live | .leaving => true
  | .absent | .excluded => false

def State.isMember (s : State) (p : Station) : Bool := (s.peer p).state.member

/-- This station's membership mask (R95). -/
def State.membershipMask (s : State) : StationMask := maskOf (fun p => p = s.own || s.isMember p)

/-- The registrar as the tables give it: the lowest-numbered station held LIVE, this one only while it is LIVE; 0 when
there is none (R91). -/
def State.computeRegistrar (s : State) : Station :=
  (stations.find? (fun p => if p = s.own then s.state = .live else (s.peer p).state = .live)).getD 0

/-- This station is registrar (R91). -/
def State.isRegistrar (s : State) : Bool := s.own ≠ 0 && s.member.registrar = s.own

/-! ## The directory entry -/

def State.entry (s : State) (b : Block) : DirEntry := look s.dir b
def State.setEntry (s : State) (b : Block) (e : DirEntry) : State := s.setDir (put s.dir b e)

/-- The block is owned by this station (R4). -/
def State.owned (s : State) (b : Block) : Bool := s.own ≠ 0 && (s.entry b).owner = s.own

/-- An entry's owner is EXCLUDED in the peer table (R4). -/
def State.orphaned (s : State) (e : DirEntry) : Bool :=
  e.owner ≠ 0 && e.owner ≠ s.own && (s.peer e.owner).state = .excluded

/-- The block is an orphan: its owner is EXCLUDED in the peer table (R4). -/
def State.orphan (s : State) (b : Block) : Bool := s.orphaned (s.entry b)

/-- An entry of the directory has property f. -/
def State.anyEntry (s : State) (f : DirEntry → Bool) : Bool := s.dir.toList.any f

/-- The orphans of the directory, ascending. -/
def State.orphans (s : State) : List Block := if s.anyEntry s.orphaned then blocks.filter s.orphan else []

/-- The copy of the block is CURRENT. -/
def State.isCurrent (s : State) (b : Block) : Bool := (s.entry b).copy = .current

/-- Held-write entries stand for the block. -/
def State.hasHeld (s : State) (b : Block) : Bool := s.write.held.any (fun h => blockOf h.addr = b)

/-- The block is awaiting commit (R24). -/
def State.awaitingCommit (s : State) (b : Block) : Bool :=
  s.owned b && s.isCurrent b && !(s.entry b).yielding && s.hasHeld b

/-- A batch is open for the block, due or not. -/
def State.batchFor (s : State) (b : Block) : Bool := s.write.batch.any (fun x => x.block = b)

/-- The claim list holds an entry for the block. -/
def State.claimed (s : State) (b : Block) : Bool := s.claim.list.any (fun c => c.1 = b)

/-- An UPDATE for the block stands in the replay queue (R50). -/
def State.updateQueued (s : State) (b : Block) : Bool :=
  s.seq.queue.any (fun e => match e.frame.payload with | .update b' _ _ _ => b' = b | _ => false)

/-! ## Lanes -/

def State.laneUp (s : State) (l : LaneId) : Bool := (s.lane l).state = .up
def State.anyLaneUp (s : State) : Bool := s.laneUp .A || s.laneUp .B

/-! ## Sending, and what is read back (R149, R150) -/

/-- The characters of the current frame, none held. -/
def State.currentBytes (s : State) : List Byte := (s.select.current.map Frame.bytes).getD []

/-- What is read back where character b was sent shows a collision: another value, a framing error, or no character
(R150). -/
def collides (b : Byte) : Option RxChar → Bool
  | none => true
  | some c => c.falseStart || c.framing || decide (c.value ≠ b)

/-- The character whose stop bit is sampled now: the last one sent (log entry 24). -/
def State.lastSent (s : State) (l : LaneId) : Byte := s.currentBytes.getD ((s.lane l).progress - 1) 0

/-- How many characters the current frame has (Table 10-1). -/
def State.currentLength (s : State) : Nat :=
  match s.select.current with
  | none => 0
  | some f => f.payload.bytes.length + 6

/-- The last character sent has been read back equal (R149, R150). -/
def State.readsBackEqual (s : State) (l : LaneId) : Bool := !collides (s.lastSent l) (s.lane l).readback

/-- The current frame has been sent whole on the lane and read back equal (R144, R149). -/
def State.sentWhole (s : State) (l : LaneId) : Bool :=
  (s.lane l).access = .sending && decide (s.currentLength ≤ (s.lane l).progress) && s.readsBackEqual l

/-- An Access Controller with no frame (R138, R149). -/
def Lane.release (l : Lane) : Lane :=
  { l with
    access := .idle, attempt := 0, required := Config.accessGap, progress := 0, abortTime := 0, readback := none }

/-- A lane whose controller stops, done with its frame: what it has read back stays with the Lane Interface until the line
has been idle for 2 ct, marked as this station's own where the frame was sent whole (R143, R144, R151). -/
def State.quit (s : State) (l : LaneId) : Lane :=
  let lane := (s.lane l).release
  if s.sentWhole l then { lane with buffer := { lane.buffer with own := lane.buffer.count } } else lane

/-! ## Incidents, notices, requests -/

/-- A unit offers an incident; it is numbered and recorded at the end of the event (R167). -/
def State.offerBy (s : State) (u : IncidentUnit) (o : Offer) : State :=
  s.setLog { s.log with offered := s.log.offered ++ [(u, o)] }

/-- The unit of its class offers an incident. -/
def State.offer (s : State) (o : Offer) : State := s.offerBy o.unit o

/-- The Incident Log takes one offer: it takes the counter's number, and is recorded where fewer than 8 records stand,
else its class is marked (R167). -/
def IncidentLog.record (g : IncidentLog) (clock : Clock) (o : Offer) : IncidentLog :=
  if g.records.length < Config.incidentPlaces then
    { g with records := g.records ++ [{ number := g.counter, time := clock, what := o }], counter := g.counter + 1 }
  else { g with mask := g.mask ||| (1#16 <<< (o.cls.code - 1)), counter := g.counter + 1 }

/-- Offers of several units in one order: each unit's in the order in which it made them, the units' among each other
free (R167, log entry 3), from a count of free choices taken so far; fuel is the list's length. -/
def interleave : Nat → Nat → List (IncidentUnit × Offer) → List Offer × Nat
  | 0, n, xs => (xs.map Prod.snd, n)
  | fuel + 1, n, xs =>
    let units := (xs.map Prod.fst).eraseDups
    if units.length ≤ 1 then (xs.map Prod.snd, n)
    else
      match units[Config.freeChoice n % units.length]? with
      | none => (xs.map Prod.snd, n)
      | some u =>
        let rest := interleave fuel (n + 1) (xs.eraseP (fun x => x.1 = u))
        (((xs.find? (fun x => x.1 = u)).map Prod.snd).toList ++ rest.1, rest.2)

/-- The incidents offered in the event are taken one after another; the order among those of different units is free
(R167). -/
def State.recordOffers (s : State) : State :=
  let order := interleave s.log.offered.length s.freeCount s.log.offered
  { s with
    log := order.1.foldl (fun g o => g.record s.clock o) { s.log with offered := [] }
    freeCount := order.2 }

/-- The block's watch flag is set (R23). -/
def State.watched (s : State) (b : Block) : Bool := s.port.watch.getLsbD b.val

/-- The Directory offers a watched block to the notice queue; an unwatched one is left (R23). -/
def State.notice (s : State) (b : Block) : State :=
  if s.watched b then
    if b ∈ s.port.notices then s
    else if s.port.notices.length < Config.noticePlaces then
      s.setPort { s.port with notices := s.port.notices ++ [b] }
    else s.setPort { s.port with overflow := true }
  else s

/-- What a waiting request is for: at most one waits for each (R57, R80, R115, R120). -/
inductive RequestKey
  | claim (b : Block) | fetch (b : Block) | snapq | query | join | other
  deriving DecidableEq, Repr

def Payload.key : Payload → RequestKey
  | .claim b _ => .claim b
  | .fetch b => .fetch b
  | .snapq _ => .snapq
  | .query _ _ => .query
  | .join => .join
  | .status .. | .admission .. | .update .. | .handover .. | .exclude .. | .copyOk .. | .copyNotCurrent .. | .snap ..
  | .versions .. | .settle .. | .digest .. => .other

/-- A request still waiting is withdrawn (R57, R115). -/
def State.withdraw (s : State) (k : RequestKey) : State :=
  s.setSelect { s.select with requests := s.select.requests.filter (fun r => Payload.key r.payload ≠ k) }

/-- A request is made due, in place of one that waits for the same thing, and counts as due in this event (R153). -/
def State.makeDue (s : State) (p : Payload) (target : Station) : State :=
  let s := s.withdraw (Payload.key p)
  s.setSelect { s.select with requests := s.select.requests ++ [{ payload := p, target := target, stamp := s.stamp }] }

/-! ## Receipts owed (R74) -/

/-- A receipt becomes owed; its age starts where none was owed. -/
def SeqUnit.owe (q : SeqUnit) : SeqUnit := if q.owed then q else { q with owed := true, age := some 0 }

/-- A receipt is owed and urgent. -/
def SeqUnit.oweUrgent (q : SeqUnit) : SeqUnit := { q.owe with urgent := true }

/-- An acceptance: a receipt is owed, one more is unreported, and at the eighth it is urgent. -/
def SeqUnit.oweAccepted (q : SeqUnit) : SeqUnit :=
  let q := q.owe
  { q with
    accepted := min (q.accepted + 1) Config.receiptCount
    urgent := q.urgent || decide (Config.receiptCount ≤ q.accepted + 1) }

end Sys2Proof.Machine
end

