-- ==== Sys2Proof/Machine/Sequencing.lean ====
section
/-! DEFINITION. The Sequencing Unit: the places of the replay queue and enqueueing (R58 to R60), required receivers and retirement (R62, R65, R66), replay (R67), and the judgement of sequenced arrivals (R71). -/

namespace Sys2Proof.Machine

/-- UPDATE and HANDOVER take a general slot (R59). -/
def ReplayEntry.general (e : ReplayEntry) : Bool :=
  match e.frame.payload with
  | .update .. | .handover .. => true
  | .status .. | .join | .admission .. | .claim .. | .exclude .. | .fetch .. | .copyOk .. | .copyNotCurrent .. | .snapq ..
  | .snap .. | .query .. | .versions .. | .settle .. | .digest .. => false

/-- A free entry exists (R59). -/
def State.freeEntry (s : State) : Bool := decide (s.seq.queue.length < Config.replayPlaces)

/-- A free general slot exists (R59). -/
def State.freeGeneral (s : State) : Bool :=
  s.freeEntry && decide ((s.seq.queue.filter ReplayEntry.general).length < Config.generalPlaces)

/-- A frame takes next seq and joins the tail of the replay queue (R58, R59). The place is the caller's to find. -/
def State.enqueue (s : State) (p : Payload) : State :=
  s.setSeq { s.seq with
    next := s.seq.next + 1
    queue := s.seq.queue ++
      [{ seq := s.seq.next
         frame := { sender := s.own, target := 0, seq := s.seq.next, payload := p }
         sent := false, marked := false, count := 0, timer := none }] }

/-- Station p is a required receiver of the entry with seq q: a member whose admission base is not later than q (R62). -/
def State.requires (s : State) (p : Station) (q : SeqNo) : Bool :=
  s.isMember p && (match (s.peer p).base with | some b => !later8 b q | none => true)

/-- Station p has receipted the entry with seq q: its receipt of us is known and later than q (R65). -/
def State.receipted (s : State) (p : Station) (q : SeqNo) : Bool :=
  match (s.peer p).receipt with | some r => later8 r q | none => false

/-- The required receivers of an entry that have not receipted it. -/
def State.laggards (s : State) (q : SeqNo) : List Station :=
  stations.filter (fun p => s.requires p q && !s.receipted p q)

/-- The head of the replay queue is receipted by every required receiver (R66). -/
def State.headReceipted (s : State) : Bool :=
  match s.seq.queue with
  | [] => false
  | e :: _ => (s.laggards e.seq).isEmpty

/-- The entry is this station's own EXCLUDE (this station, LEAVE). -/
def State.ownExclude (s : State) (e : ReplayEntry) : Bool :=
  match e.frame.payload with | .exclude p _ => p = s.own | _ => false

/-- This station's own EXCLUDE (this station, LEAVE) stands in the replay queue. -/
def State.leaving (s : State) : Option ReplayEntry := s.seq.queue.find? s.ownExclude

/-- An entry becomes head: its timer restarts from 0 if it has been sent, and is stopped if not (R64). -/
def ReplayEntry.becomeHead (e : ReplayEntry) : ReplayEntry := { e with timer := if e.sent then some 0 else none }

/-- The head leaves the queue and the next entry becomes head (R66). -/
def State.dropHead (s : State) : State :=
  s.setSeq { s.seq with
    queue := match s.seq.queue with
      | _ :: e :: rest => e.becomeHead :: rest
      | _ => [] }

/-- A replay: every sent entry is given a retransmit mark, and the head's replay count advances (R67). The head's timer has
run out and falls no second time: it stands stopped until the head is taken (R64, log entry 5). -/
def replayMarks (q : List ReplayEntry) : List ReplayEntry :=
  match q.map (fun e => { e with marked := e.marked || e.sent }) with
  | e :: rest => { e with count := e.count + 1, timer := none } :: rest
  | [] => []

/-- How a sequenced arrival is judged (Table 4-3). -/
inductive Judgement | accepted | gap | duplicate | refused
  deriving DecidableEq, Repr

/-- The judgement of a sequenced arrival with seq q from station p (Table 4-3). -/
def State.judgeSeq (s : State) (p : Station) (q : SeqNo) : Judgement :=
  if s.active && s.isMember p then
    match (s.peer p).expect with
    | none => .refused
    | some e => if q = e then .accepted else if later8 q e then .gap else .duplicate
  else .refused

/-- What the judgement leaves: the expectation and the receipt owed (Table 4-3, R74). -/
def State.noteJudgement (s : State) (p : Station) (q : SeqNo) (j : Judgement) : State :=
  match j with
  | .accepted => (s.setPeer p { s.peer p with expect := some (q + 1) }).setSeq s.seq.oweAccepted
  | .gap => s.setSeq s.seq.oweUrgent
  | .duplicate => s.setSeq s.seq.owe
  | .refused => s

end Sys2Proof.Machine
end

