-- ==== Sys2Proof/Machine/ClaimUnit.lean ====
section
/-! DEFINITION. The Claim Unit: claim slots, their targets, sending, retargeting and closing (R41 to R45, R57), and the claim list (R47 to R49). -/

namespace Sys2Proof.Machine

/-- The claim slot open for a block. -/
def State.claimSlot (s : State) (b : Block) : Option ClaimSlot := s.claim.slots.find? (fun c => c.block = b)

/-- The slot of a block replaced. -/
def State.setClaimSlot (s : State) (b : Block) (c : ClaimSlot) : State :=
  s.setClaim { s.claim with slots := s.claim.slots.map (fun x => if x.block = b then c else x) }

/-- The target of a slot: the registrar for an orphan, else the block's owner (R42). -/
def State.claimTarget (s : State) (b : Block) : Station :=
  if s.orphan b then s.member.registrar else (s.entry b).owner

/-- A CLAIM is sent for a block's slot, with its attempt as it stands and its timer restarted; where the target is this
station none is sent and the timer stops (R42, R44). -/
def State.sendClaim (s : State) (b : Block) : State :=
  match s.claimSlot b with
  | none => s
  | some c =>
    let t := s.claimTarget b
    if t = s.own ∨ t = 0 then (s.setClaimSlot b { c with target := t, timer := none }).withdraw (.claim b)
    else (s.setClaimSlot b { c with target := t, timer := some 0 }).makeDue (.claim b c.attempt) t

/-- A slot opens for a block: attempt 1, timer 0, a CLAIM sent (R41). -/
def State.openClaim (s : State) (b : Block) (held : Bool) : State :=
  (s.setClaim { s.claim with
    slots := s.claim.slots ++ [{ block := b, target := s.claimTarget b, attempt := 1, timer := some 0, held := held }] }).sendClaim b

/-- The slot of a block closes, and its CLAIM is withdrawn if it waits (R45, R57). -/
def State.closeClaim (s : State) (b : Block) : State :=
  (s.setClaim { s.claim with slots := s.claim.slots.filter (fun c => c.block ≠ b) }).withdraw (.claim b)

/-- The slots of these blocks are retargeted: targets computed afresh, CLAIMs sent (R44). -/
def State.retargetClaims (s : State) (bs : List Block) : State := bs.foldl State.sendClaim s

/-- The blocks that want a slot: held, owned elsewhere, none open; in the order of their earliest held entry, which is
the order R41 gives where a slot closes. Where one HANDOVER of this station gives several held blocks up (R52), the book
gives their requests no order, and the model takes this one too (DESIGN CHOICE, log entry 26). A write that waits for room
in the held-write list asks for no slot until its entry is appended (DESIGN CHOICE, log entry 31). -/
def State.wanting (s : State) : List Block :=
  ((s.write.held.map (fun h => blockOf h.addr)).filter (fun b =>
    (s.claimSlot b).isNone && !s.owned b && (s.entry b).owner ≠ 0)).eraseDups

/-- A free claim slot goes to the first block that wants one (R41). -/
def State.grantSlot (s : State) : State :=
  if s.state = .live ∧ s.claim.slots.length < Config.claimSlots then
    match s.wanting with | [] => s | b :: _ => s.openClaim b true
  else s

/-- Every claim-list entry of a block leaves (R49). -/
def State.dropClaims (s : State) (b : Block) : State :=
  s.setClaim { s.claim with list := s.claim.list.filter (fun c => c.1 ≠ b) }

/-- Yielding is cleared for a block that no claim-list entry names any more (R49). -/
def State.endYield (s : State) (b : Block) : State :=
  if (s.entry b).yielding && !s.claimed b then s.setEntry b { s.entry b with yielding := false } else s

/-- Every claim-list entry naming a claimant leaves, and blocks left without entries stop yielding (R49). -/
def State.dropClaimant (s : State) (p : Station) : State :=
  let gone := (s.claim.list.filter (fun c => c.2 = p)).map Prod.fst
  let s := s.setClaim { s.claim with list := s.claim.list.filter (fun c => c.2 ≠ p) }
  gone.foldl State.endYield s

/-- Every claim-list entry for an orphan leaves: this station has ceased to be registrar (R49). -/
def State.dropOrphanClaims (s : State) : State :=
  s.setClaim { s.claim with list := s.claim.list.filter (fun c => !s.orphan c.1) }

/-- A CLAIM from a claimant is entered in the claim list (R47). -/
def State.claimEntered (s : State) (b : Block) (p : Station) : Bool :=
  s.state = .live && (s.owned b || (s.isRegistrar && s.orphan b)) && (s.peer p).state = .live
    && !decide ((b, p) ∈ s.claim.list) && decide (s.claim.list.length < Config.claimPlaces)

/-- A block in the claim list is ready (R50), but for the free general slot. -/
def State.servable (s : State) (b : Block) : Bool :=
  s.owned b && s.isCurrent b && (s.entry b).yielding && !s.updateQueued b

/-- The claimant of a block's oldest claim-list entry. -/
def State.firstClaimant (s : State) (b : Block) : Option Station :=
  (s.claim.list.find? (fun c => c.1 = b)).map Prod.snd

end Sys2Proof.Machine
end

