-- ==== Sys2Proof/Machine/CopyUnit.lean ====
section
/-! DEFINITION. The Copy Unit: fetch slots, their sources, attempts and failures (R108 to R112), copy-state changes with the slot and the hold they close (R7, R110), SNAPQ (R104, R105) and the answer queue (R116). -/

namespace Sys2Proof.Machine

/-- A station is usable as a fetch source: held LIVE or LEAVING, and not this one (R109). -/
def State.usable (s : State) (p : Station) : Bool :=
  p ≠ 0 && p ≠ s.own && ((s.peer p).state = .live || (s.peer p).state = .leaving)

/-- The lowest-numbered peer held LIVE other than a block's owner, 0 for none (Table 6-2). -/
def State.lowestLive (s : State) (owner : Station) : Station :=
  (stations.find? (fun p => p ≠ s.own && p ≠ owner && (s.peer p).state = .live)).getD 0

/-- The source of a fetch at an attempt, 0 for none (Table 6-2). -/
def State.fetchSource (s : State) (b : Block) (attempt : Nat) : Station :=
  let owner := (s.entry b).owner
  let ownerElse := if s.usable owner then owner else s.lowestLive owner
  match (s.entry b).donor with
  | some d =>
    if s.usable d then (if attempt ≤ 2 then d else ownerElse)
    else if attempt ≤ 2 then ownerElse
    else if s.lowestLive owner ≠ 0 then s.lowestLive owner
    else if s.usable owner then owner else 0
  | none =>
    if attempt ≤ 2 then ownerElse
    else if s.lowestLive owner ≠ 0 then s.lowestLive owner
    else if s.usable owner then owner else 0

/-- The fetch slot open for a block. -/
def State.fetchSlot (s : State) (b : Block) : Option FetchSlot := s.copy.slots.find? (fun c => c.block = b)

/-- The slot of a block starts an attempt at a source: timer 0, FETCH made due unless the source is 0 (R108, R110). -/
def State.startAttempt (s : State) (b : Block) (attempt : Nat) (source : Station) : State :=
  let s := s.setCopyUnit { s.copy with
    slots := s.copy.slots.map (fun c => if c.block = b then ⟨b, source, attempt, 0⟩ else c) }
  if source = 0 then s.withdraw (.fetch b) else s.makeDue (.fetch b) source

/-- The slot of a block starts an attempt, its source computed afresh (R109, R110). -/
def State.nextAttempt (s : State) (b : Block) (attempt : Nat) : State :=
  s.startAttempt b attempt (s.fetchSource b attempt)

/-- A fetch slot opens for a block, which becomes FETCHING in the same event (R7, R108). -/
def State.openFetch (s : State) (b : Block) : State :=
  let s := s.setEntry b { s.entry b with copy := .fetching }
  let s := s.setCopyUnit { s.copy with slots := s.copy.slots ++ [⟨b, 0, 1, 0⟩] }
  s.nextAttempt b 1

/-- The slot of a block closes, and its FETCH is withdrawn if it waits (R7, R115). -/
def State.closeFetch (s : State) (b : Block) : State :=
  (s.setCopyUnit { s.copy with slots := s.copy.slots.filter (fun c => c.block ≠ b) }).withdraw (.fetch b)

/-- A hold of the block ends (R110). -/
def State.endHold (s : State) (b : Block) : State :=
  s.setCopyUnit { s.copy with holds := s.copy.holds.filter (fun h => h.1 ≠ b) }

/-- The block's copy becomes STALE; a FETCHING block's slot closes in the same event (R7). -/
def State.makeStale (s : State) (b : Block) : State :=
  let fetching := (s.entry b).copy = .fetching
  let s := s.setEntry b { s.entry b with copy := .stale }
  if fetching then s.closeFetch b else s

/-- The seen version of a block is raised to v (R14). -/
def State.raiseSeen (s : State) (b : Block) (v : Version) : State :=
  match (s.entry b).seen with
  | none => s.setEntry b { s.entry b with seen := some v }
  | some w => if later16 v w then s.setEntry b { s.entry b with seen := some v } else s

/-- A fetch fails: the slot closes, the block is STALE under a hold, its one hold, FETCH_FAILED is offered (R110). -/
def State.failFetch (s : State) (b : Block) (source : Station) : State :=
  let s := (s.makeStale b).endHold b
  let s := s.setCopyUnit { s.copy with holds := s.copy.holds ++ [(b, 0)] }
  s.offer { cls := .fetchFailed, peer := if source = 0 then none else some source, block := some b
            detail := (s.entry b).version }

/-- An attempt is at an end: the next one starts, or after the fourth the fetch fails (R110, R111). -/
def State.endAttempt (s : State) (c : FetchSlot) : State :=
  if c.attempt < Config.fetchAttempts then s.nextAttempt c.block (c.attempt + 1) else s.failFetch c.block c.source

/-- A slot whose source has ceased to be usable is retargeted at its attempt, and a slot without one is where the station
that has become usable in this event, gained, is its source now (R112). Where the computation would now give another
station than gained, which the book leaves open, the slot is left as it is (DESIGN CHOICE, log entry 30). -/
def State.retargetFetch (gained : Option Station) (s : State) (c : FetchSlot) : State :=
  let new := s.fetchSource c.block c.attempt
  if (c.source ≠ 0 ∧ s.usable c.source = false ∨ c.source = 0 ∧ gained = some new) ∧ new ≠ c.source then
    s.startAttempt c.block c.attempt new
  else s

/-- Every open slot is put to R112; called in every event that changes a peer's entry. -/
def State.retargetFetches (s : State) (gained : Option Station) : State :=
  s.copy.slots.foldl (State.retargetFetch gained) s

/-- The states in which the Copy Unit fetches (R108). -/
def State.eligible (s : State) (b : Block) : Bool :=
  (s.entry b).copy = .stale && !s.copy.holds.any (fun h => h.1 = b)
    && ((s.entry b).owner ≠ 0 || (s.entry b).donor.isSome)

/-- The block a free slot is opened for: the lowest eligible (R108). -/
def State.nextFetch (s : State) : Option Block :=
  if s.active && decide (s.copy.slots.length < Config.fetchSlots) && s.anyEntry (fun e => e.copy = .stale) then
    blocks.find? s.eligible
  else none

/-- A SNAPQ with the missing parts is made due to the registrar and its timer restarts (R104, R105). -/
def State.sendSnapq (s : State) : State :=
  let s := s.setCopyUnit { s.copy with snapq := some 0 }
  s.makeDue (.snapq s.copy.missing) s.member.registrar

/-- No part is missing any more: the mask is clear, the timer stops, a waiting SNAPQ is withdrawn (R105). -/
def State.endSnapq (s : State) : State :=
  (s.setCopyUnit { s.copy with missing := 0, snapq := none }).withdraw .snapq

/-- The requester of an answer. -/
def Answer.requester : Answer → Station
  | .copy q _ => q
  | .snap q _ => q
  | .versions q _ => q

/-- The entry is a VERSIONS entry (R121). -/
def Answer.isVersions : Answer → Bool
  | .versions .. => true
  | .copy .. | .snap .. => false

/-- An entry is appended to the answer queue when it is not there yet and fewer than 4 stand, and is dropped otherwise
(R116). -/
def State.queueAnswer (s : State) (a : Answer) : State :=
  if a ∈ s.copy.answers ∨ Config.answerPlaces ≤ s.copy.answers.length then s
  else s.setCopyUnit { s.copy with answers := s.copy.answers ++ [a] }

end Sys2Proof.Machine
end

