-- ==== Sys2Proof/Machine/SettleUnit.lean ====
section
/-! DEFINITION. The Settle Unit: starting a round (R119, R120), folding answers (R123), the decision (R125), abandonment (R129), and the reply to a QUERY (R121, R122). -/

namespace Sys2Proof.Machine

/-- An empty settle-table record. -/
def SettleRecord.empty (b : Block) : SettleRecord :=
  { block := b, epoch := none, version := none, holder := none, currentHolder := none, flaggers := [] }

/-- The lower of a station and one recorded. -/
def lowerOf (p : Station) : Option Station → Option Station
  | none => some p
  | some q => if p.val < q.val then some p else some q

/-- One entry of station p's answer folded into its block's record (R123). -/
def SettleRecord.fold (r : SettleRecord) (p : Station) (e : VersionsEntry) : SettleRecord :=
  let epoch := match r.epoch with
    | none => some e.epoch
    | some x => if later8 e.epoch x then some e.epoch else some x
  let newer := match r.version with
    | none => true
    | some x => later16 e.version x
  let equal := r.version = some e.version
  { block := r.block
    epoch := epoch
    version := if newer then some e.version else r.version
    holder := if newer then some p else if equal then lowerOf p r.holder else r.holder
    currentHolder :=
      if newer then (if e.current then some p else none)
      else if equal && e.current then lowerOf p r.currentHolder
      else r.currentHolder
    flaggers := if e.owned then stations.filter (fun q => q = p || r.flaggers.contains q) else r.flaggers }

/-- An entry folded into the table. -/
def foldEntry (p : Station) (table : List SettleRecord) (e : VersionsEntry) : List SettleRecord :=
  table.map (fun r => if r.block = e.block then r.fold p e else r)

/-- The registrar's own values for a block of the set, with the owned flag clear (R125). -/
def State.ownAnswer (s : State) (b : Block) : VersionsEntry :=
  { block := b, epoch := (s.entry b).epoch, version := (s.entry b).version, owned := false, current := s.isCurrent b }

/-- The owner flaggers of a record that the registrar holds LIVE, lowest first. -/
def State.liveFlaggers (s : State) (r : SettleRecord) : List Station :=
  stations.filter (fun p => r.flaggers.contains p && (s.peer p).state = .live)

/-- The settlement of one orphan (Table 7-3). -/
def State.settlement (s : State) (r : SettleRecord) : SettleEntry :=
  { block := r.block
    owner := (s.liveFlaggers r).headD s.own
    epoch := r.epoch.getD 0 + 1
    version := r.version.getD 0
    donor := (r.currentHolder.orElse (fun _ => r.holder)).getD s.own }

/-- A job that is over: IDLE, its sets and lists cleared, its timer stopped, a waiting QUERY withdrawn; the round, the
deference timer and the reply record are kept (R129). -/
def State.clearJob (s : State) : State :=
  (s.setSettle { s.settle with
    job := .idle, orphans := [], answerers := [], queries := 0, queryTimer := none, table := [], announce := []
    announced := 0 }).withdraw .query

/-- AUDIT_MISMATCH for every record with two or more LIVE flaggers (R125). -/
def State.offerFlaggers (s : State) (rs : List SettleRecord) : State :=
  rs.foldl (fun s r =>
    match s.liveFlaggers r with
    | _ :: p :: rest =>
      s.offerBy .settle { cls := .auditMismatch, peer := some p, block := some r.block, detail := BitVec.ofNat 16 (rest.length + 2) }
    | _ => s) s

/-- The job decides: the registrar's own values are folded, each block of the set that is still an orphan gets its
entry, and the job enters ANNOUNCING, or IDLE with nothing to announce (R125). -/
def State.decideJob (s : State) : State :=
  let table := s.settle.orphans.foldl (fun t b => foldEntry s.own t (s.ownAnswer b)) s.settle.table
  let still := table.filter (fun r => s.orphan r.block)
  if still = [] then s.clearJob
  else
    let s := s.offerFlaggers still
    (s.setSettle { s.settle with
      job := .announcing, queryTimer := none, table := table, announce := still.map s.settlement, announced := 0 }).withdraw .query

/-- A QUERY of the round is made due to all and its timer restarts (R120). -/
def State.sendQuery (s : State) : State :=
  let s := s.setSettle { s.settle with queryTimer := some 0 }
  s.makeDue (.query s.settle.round (bitmapOf (fun b => decide (b ∈ s.settle.orphans)))) 0

/-- A round starts (R119). -/
def State.startJob (s : State) : State :=
  let orphans := s.orphans
  let answerers := (stations.filter (fun p => (s.peer p).state = .live || (s.peer p).state = .leaving)).map
    (fun p => { station := p, answered := false, next := orphans.head? : Answerer })
  let s := s.setSettle { s.settle with
    job := .querying, round := s.settle.round + 1, orphans := orphans, answerers := answerers, queries := 1
    queryTimer := none, table := orphans.map SettleRecord.empty, announce := [], announced := 0 }
  if answerers = [] then s.decideJob else s.sendQuery

/-- The conditions under which the job leaves IDLE (R119). -/
def State.jobWanted (s : State) : Bool :=
  s.state = .live && s.isRegistrar && s.settle.job = .idle && s.settle.deference.isNone && !s.orphans.isEmpty

/-- A job in QUERYING is restarted with a new round; with no orphan left it returns to IDLE (R128, log entry 15). -/
def State.restartJob (s : State) : State :=
  if s.settle.job = .querying then (if s.orphans.isEmpty then s.clearJob else s.startJob) else s

/-- The station may not hold a job any more (R129): it is abandoned. -/
def State.checkJob (s : State) : State :=
  if s.settle.job ≠ .idle ∧ ¬(s.state = .live ∧ s.isRegistrar = true) then s.clearJob else s

/-! ## Collecting the answers (R123) -/

/-- The entries of a VERSIONS frame name consecutive blocks of the orphan set (R123). -/
def consecutive : List Block → List Block → Bool
  | _, [] => true
  | [], _ :: _ => false
  | o :: os, b :: bs => o = b && consecutive os bs

/-- The blocks of the orphan set from b on. -/
def State.setFrom (s : State) (b : Block) : List Block := s.settle.orphans.dropWhile (fun o => o ≠ b)

/-- A VERSIONS frame from station p is taken (R123). -/
def State.takesVersions (s : State) (p : Station) (r : Round) (es : List VersionsEntry) : Bool :=
  s.settle.job = .querying && r = s.settle.round &&
    (match s.settle.answerers.find? (fun a => a.station = p), es with
     | some a, e :: _ =>
       !a.answered && (s.settle.orphans.head? = some e.block || a.next = some e.block)
         && consecutive (s.setFrom e.block) (es.map VersionsEntry.block)
     | _, _ => false)

/-- A taken VERSIONS frame: its entries are folded, the sender's next block moves past the last, and the last part sets
its answered flag (R123). -/
def State.foldVersions (s : State) (p : Station) (last : Bool) (es : List VersionsEntry) : State :=
  let next := (es.getLast?).bind (fun e => ((s.setFrom e.block).drop 1).head?)
  s.setSettle { s.settle with
    table := es.foldl (foldEntry p) s.settle.table
    answerers := s.settle.answerers.map (fun a =>
      if a.station = p then { a with next := next, answered := a.answered || last } else a) }

/-- Every required answerer has answered, or none is left. -/
def State.allAnswered (s : State) : Bool := s.settle.answerers.all Answerer.answered

/-! ## Answering a QUERY (R121, R122) -/

/-- A taken QUERY at the reply record and the answer queue (Table 7-2). -/
def State.replyToQuery (s : State) (q : Station) (r : Round) (bitmap : List Byte) : State :=
  let fresh : Reply :=
    { requester := q, round := r, bitmap := bitmap, next := (bitmapBlocks bitmap).head?, finished := false }
  let same := s.settle.reply.any (fun x => x.requester = q && x.round = r)
  if s.copy.answers.any Answer.isVersions then
    if same then s
    else
      (s.setSettle { s.settle with reply := some fresh }).setCopyUnit { s.copy with
        answers := s.copy.answers.map (fun a => if a.isVersions then .versions q r else a) }
  else if s.copy.answers.length < Config.answerPlaces then
    (s.setSettle { s.settle with
      reply := some (match same, s.settle.reply with
        | true, some x => { x with next := (bitmapBlocks x.bitmap).head?, finished := false }
        | _, _ => fresh) }).setCopyUnit { s.copy with answers := s.copy.answers ++ [.versions q r] }
  else s

/-- The blocks a VERSIONS frame built now covers: up to 20 flagged ones from the record's next block on (R122). -/
def Reply.covered (r : Reply) : List Block :=
  match r.next with
  | none => []
  | some b => ((bitmapBlocks r.bitmap).filter (fun x => b.val ≤ x.val)).take Config.versionsEntries

/-- The first flagged block after those a frame covers. -/
def Reply.after (r : Reply) : Option Block :=
  match r.next with
  | none => none
  | some b => (((bitmapBlocks r.bitmap).filter (fun x => b.val ≤ x.val)).drop Config.versionsEntries).head?

/-- One entry of this station's answer (R122). -/
def State.versionsEntry (s : State) (b : Block) : VersionsEntry :=
  { block := b, epoch := (s.entry b).epoch, version := (s.entry b).version, owned := s.owned b, current := s.isCurrent b }

end Sys2Proof.Machine
end

