-- ==== Sys2Proof/Machine/WriteUnit.lean ====
section
/-! DEFINITION. The Write Unit: closing a batch or making it due (R29, R30), the fate of a local write (R25 to R28, R33, R36), held-write commit (R34) and discard (R35). -/

namespace Sys2Proof.Machine

/-! ## Closing (R29, R30) -/

/-- The open batch closes: the version advances, an UPDATE is enqueued, the batch is absent (R29). -/
def State.closeBatch (s : State) : State :=
  match s.write.batch with
  | none => s
  | some b =>
    let v := (s.entry b.block).version + 1
    let s := s.setEntry b.block { s.entry b.block with version := v }
    (s.setWrite { s.write with batch := none }).enqueue (.update b.block (s.entry b.block).epoch v b.entries)

/-- The open batch is made due (R30). -/
def State.makeBatchDue (s : State) : State :=
  s.setWrite { s.write with batch := s.write.batch.map (fun b => { b with due := true }) }

/-- A cause to close arises: the batch closes where a general slot is free, and is due otherwise (R29, R30). -/
def State.closeOrDue (s : State) : State :=
  if s.write.batch.isSome then (if s.freeGeneral then s.closeBatch else s.makeBatchDue) else s

/-! ## The judgement of a write (R25, R26, R36) -/

/-- Where a local write goes at its judgement. -/
inductive WriteFate
  /-- Outside LIVE: refused (R25). -/
  | refused
  /-- A batch is opened with it (R27). -/
  | opens
  /-- Its entry in the open batch is replaced (R27). -/
  | replaces
  /-- It is appended to the open batch (R27). -/
  | appends
  /-- The batch of another block closes first, and it is judged again (R28). -/
  | closesFirst
  /-- Its held entry is replaced (R33). -/
  | replacesHeld
  /-- It is appended to the held-write list (R33). -/
  | appendsHeld
  /-- It waits; the open batch is in its way and is made due (R27, R28, R36). -/
  | waitsForBatch
  /-- It waits for room in the held-write list (R33, R36). -/
  | waitsForRoom
  deriving DecidableEq, Repr

/-- The distinct held blocks (R24). -/
def State.heldBlocks (s : State) : List Block := (s.write.held.map (fun h => blockOf h.addr)).eraseDups

/-- The write is routed to the open-batch path: owned, CURRENT, not yielding, nothing held for the block (Table 2-2). -/
def State.batchPath (s : State) (b : Block) : Bool :=
  s.owned b && s.isCurrent b && !(s.entry b).yielding && !s.hasHeld b

/-- The fate of a write on the open-batch path (R27, R28). -/
def State.batchFate (s : State) (a : WindowAddr) : WriteFate :=
  match s.write.batch with
  | none => .opens
  | some t =>
    if t.block = blockOf a then
      if t.entries.any (fun e => e.offset = offsetOf a) then .replaces
      else if t.entries.length < Config.batchEntries then .appends
      else .waitsForBatch
    else if s.freeGeneral then .closesFirst
    else .waitsForBatch

/-- The fate of a write on the held-write path (R33). -/
def State.heldFate (s : State) (a : WindowAddr) : WriteFate :=
  if s.write.held.any (fun h => h.addr = a) then .replacesHeld
  else if s.write.held.length < Config.heldPlaces
      ∧ (s.hasHeld (blockOf a) = true ∨ s.heldBlocks.length < Config.heldBlocks) then .appendsHeld
  else .waitsForRoom

/-- The fate of a local write to word a (R25, Table 2-2). -/
def State.writeFate (s : State) (a : WindowAddr) : WriteFate :=
  if s.state ≠ .live then .refused
  else if s.batchPath (blockOf a) then s.batchFate a
  else s.heldFate a

/-- The value of a word enters Window Memory with its batch entry (R27). -/
def State.storeWord (s : State) (a : WindowAddr) (x : Word) : State := s.setWindow (s.window.store a.val x)

/-- The refusal of a write, with the code of the station state (R25). -/
def State.offerRefused (s : State) (a : WindowAddr) : State :=
  s.offer { cls := .writeRefused, block := some (blockOf a), detail := s.state.code }

/-- The open batch with the entry of a write replaced or appended. -/
def OpenBatch.take (t : OpenBatch) (a : WindowAddr) (x : Word) : OpenBatch :=
  if t.entries.any (fun e => e.offset = offsetOf a) then
    { t with entries := t.entries.map (fun e => if e.offset = offsetOf a then ⟨e.offset, x⟩ else e) }
  else { t with entries := t.entries ++ [⟨offsetOf a, x⟩] }

/-- The write joins the open batch and Window Memory in one event (R27). -/
def State.joinBatch (s : State) (a : WindowAddr) (x : Word) : State :=
  (s.setWrite { s.write with batch := s.write.batch.map (fun t => t.take a x) }).storeWord a x

/-- The write joins the held-write list; a claim slot open for its block is now for held writes (R33, R40). -/
def State.holdWrite (s : State) (a : WindowAddr) (x : Word) : State :=
  let s := s.setWrite { s.write with held := s.write.held ++ [{ addr := a, value := x }] }
  match s.claimSlot (blockOf a) with
  | none => s
  | some c => s.setClaimSlot (blockOf a) { c with held := true }

/-- A batch of 16 entries closes, or is due (R27, R29). -/
def State.closeIfFull (s : State) : State :=
  if s.write.batch.any (fun t => decide (t.entries.length = Config.batchEntries)) then s.closeOrDue else s

/-- What the fate of a write of x to word a does; a write that is taken or refused waits no more (R25, R27, R28, R33). -/
def State.applyFate (s : State) (a : WindowAddr) (x : Word) : WriteFate → State
  | .refused => (s.offerRefused a).setWrite { s.write with waiting := none }
  | .opens =>
    (s.setWrite { s.write with
      batch := some { block := blockOf a, entries := [⟨offsetOf a, x⟩], age := 0, due := false }
      waiting := none }).storeWord a x
  | .replaces => (s.setWrite { s.write with waiting := none }).joinBatch a x
  | .appends => ((s.setWrite { s.write with waiting := none }).joinBatch a x).closeIfFull
  | .closesFirst => s.closeBatch
  | .replacesHeld =>
    s.setWrite { s.write with
      held := s.write.held.map (fun h => if h.addr = a then { h with value := x } else h)
      waiting := none }
  | .appendsHeld => (s.setWrite { s.write with waiting := none }).holdWrite a x
  | .waitsForBatch => s.makeBatchDue
  | .waitsForRoom => s

/-- The waiting write is judged afresh (R36). -/
def State.judgeWaiting (s : State) : State :=
  match s.write.waiting with
  | none => s
  | some w => s.applyFate w.addr w.value (s.writeFate w.addr)

/-- The judgement of the waiting write would change something. -/
def State.judgeChanges (s : State) : Bool :=
  match s.write.waiting with
  | none => false
  | some w =>
    match s.writeFate w.addr with
    | .waitsForRoom => false
    | .waitsForBatch => s.write.batch.any (fun t => !t.due)
    | .refused | .opens | .replaces | .appends | .closesFirst | .replacesHeld | .appendsHeld => true

/-! ## Commit and discard of held writes (R34, R35) -/

/-- The held entries of a block, in list order. -/
def State.heldFor (s : State) (b : Block) : List HeldWrite := s.write.held.filter (fun h => blockOf h.addr = b)

/-- The held writes of a block are committed: they leave the list, enter Window Memory and form the open batch, which
closes at once or is due (R34). -/
def State.commitHeld (s : State) (b : Block) : State :=
  let es := (s.heldFor b).map (fun h => (⟨offsetOf h.addr, h.value⟩ : WordWrite))
  let s := s.setWindow (s.window.storeBlock b es)
  let s := s.setWrite { s.write with
    batch := some { block := b, entries := es, age := 0, due := false }
    held := s.write.held.filter (fun h => blockOf h.addr ≠ b) }
  s.closeOrDue

/-- The blocks that can commit now: awaiting commit, and no batch open (R34, log entry 22). -/
def State.commitReady (s : State) : List Block :=
  if s.write.batch.isSome then [] else (s.heldBlocks).filter s.awaitingCommit

/-- Every held entry of a block is discarded (R35). -/
def State.discardHeld (s : State) (b : Block) : State :=
  let n := (s.heldFor b).length
  let s := s.setWrite { s.write with held := s.write.held.filter (fun h => blockOf h.addr ≠ b) }
  if n = 0 then s else s.offer { cls := .writesDiscarded, block := some b, detail := BitVec.ofNat 16 n }

/-- The one block of a list, where all of it is one block (R38, R39). -/
def theBlock (bs : List Block) : Option Block :=
  match bs.eraseDups with
  | [b] => some b
  | _ => none

/-- One WRITES_DISCARDED for discarded entries of these blocks, one a list item (R38, R39). -/
def State.offerDiscarded (s : State) (bs : List Block) : State :=
  if bs = [] then s
  else s.offer { cls := .writesDiscarded, block := theBlock bs, detail := BitVec.ofNat 16 bs.length }

/-- The open batch of a block this station has lost is discarded: its words stay, the copy is STALE (R11). -/
def State.discardBatch (s : State) (b : Block) : State :=
  match s.write.batch with
  | none => s
  | some t =>
    if t.block = b then
      let s := s.setWrite { s.write with batch := none }
      let s := s.setEntry b { s.entry b with copy := .stale }
      s.offer { cls := .writesDiscarded, block := some b, detail := BitVec.ofNat 16 t.entries.length }
    else s

end Sys2Proof.Machine
end

