-- ==== Sys2Proof/Machine/Membership.lean ====
section
/-! DEFINITION. The Membership Unit: teardown and the silent states (R83, R84, R154), entering LISTENING and JOINING (R79, R80), founding (R81), the registrar (R91), exclusion (R96, R98), and entry to LIVE and LEAVING (R82, R101). -/

namespace Sys2Proof.Machine

/-! ## Teardown (R84) -/

/-- The station enters a state that may send nothing: the current frame is abandoned on every lane (R151, R154). -/
def State.silence (s : State) : State :=
  ((s.setLane .A (s.quit .A)).setLane .B (s.quit .B)).setSelect { s.select with current := none, doneA := true, doneB := true }

/-- The waiting write is refused, with the code of the state the station is in (R25). -/
def State.refuseWaiting (s : State) : State :=
  match s.write.waiting with
  | none => s
  | some w => (s.offerRefused w.addr).setWrite { s.write with waiting := none }

/-- The blocks of the entries that a discard of batch and held list takes, one a list item (R39). -/
def WriteUnit.discarded (w : WriteUnit) : List Block :=
  (match w.batch with | none => [] | some t => t.entries.map (fun _ => t.block))
    ++ w.held.map (fun h => blockOf h.addr)

/-- A directory entry after teardown (R21). -/
def DirEntry.tornDown (e : DirEntry) : DirEntry :=
  { e with owner := 0, copy := .unknown, seen := none, donor := none, yielding := false }

/-- Teardown in every unit, on entry to ISOLATED, HALTED or DEPARTED (R84, Table 5-3; R21, R39, R45, R49, R76, R103,
R129, R132, R155). Of the Write Unit's two incidents WRITE_REFUSED is offered first (DESIGN CHOICE, log entry 32). -/
def State.teardown (s : State) (new : StationState) : State :=
  let s := s.setMember { s.member with state := new }
  let s := s.refuseWaiting
  let s := s.offerDiscarded s.write.discarded
  let s := s.setWrite WriteUnit.reset
  let s := s.setClaim ClaimUnit.reset
  let s := s.setSeq { SeqUnit.reset with next := s.seq.next }
  let s := s.setMember { s.member with
    peers := Vector.replicate 16 Peer.empty, registrar := 0, listen := none, join := none, urgentStatus := false
    leavePending := false, waitingExcludes := [] }
  let s := s.setCopyUnit CopyUnit.reset
  let s := s.setSettle { SettleUnit.reset with round := s.settle.round }
  let s := s.setAudit { s.audit with timer := none, due := false }
  let s := s.setDir (mapTable DirEntry.tornDown s.dir)
  let s := s.setSelect { s.select with requests := [], heartbeat := none }
  s.silence

/-! ## Finding a group (R79, R80, R81) -/

/-- Entry to LISTENING: the listen timer starts where a lane is UP, next seq becomes 0 (R79). -/
def State.enterListening (s : State) : State :=
  (s.setMember { s.member with
    state := .listening, listen := if s.anyLaneUp then some 0 else none, join := none }).setSeq { s.seq with next := 0 }

/-- A JOIN is made due, and both timers start at 0 ct (R80). -/
def State.sendJoin (s : State) : State :=
  (s.setMember { s.member with listen := some 0, join := some 0 }).makeDue .join 0

/-- Entry to JOINING (R80). -/
def State.enterJoining (s : State) : State :=
  (s.setMember { s.member with state := .joining }).sendJoin

/-- The entry of every block at founding (R20). -/
def DirEntry.founded (own : Station) : DirEntry :=
  { owner := own, epoch := 0, version := 0, copy := .current, seen := none, donor := none, yielding := false }

/-- The station founds a group (R81, R20, R132, R155). -/
def State.found (s : State) : State :=
  let s := s.setMember { s.member with
    state := .live, registrar := s.own, urgentStatus := true, listen := none, join := none }
  let s := s.setDir (Vector.replicate 256 (DirEntry.founded s.own))
  let s := s.setWindow []
  let s := s.setAudit { s.audit with timer := some 0, due := false }
  let s := s.setSelect { s.select with heartbeat := some 0 }
  (s.withdraw .join).offer { cls := .founded }

/-! ## Isolation and departure (R83, R102) -/

/-- The station enters DEPARTED and is torn down; detail 0 is orderly, 1 by isolation (R83, R100, R102). -/
def State.depart (s : State) (detail : Word) : State :=
  (s.offer { cls := .departed, detail := detail }).teardown .departed

/-- The station isolates: DEPARTED where it was leaving, else ISOLATED, and LISTENING at once where a lane is UP (R83).
The trigger's incidents (PEER_EXCLUDED, then SELF_EXCLUDED or GROUP_DISSOLVED) are offered before DEPARTED with detail 1
(DESIGN CHOICE, log entry 36). -/
def State.isolate (s : State) : State :=
  if s.state = .leaving ∨ (s.state = .catchup ∧ s.member.leavePending = true) then s.depart 1
  else
    let s := s.teardown .isolated
    if s.anyLaneUp then s.enterListening else s

/-- A number clash halts the station (R85). -/
def State.clash (s : State) (l : LaneId) (kind : Byte) : State :=
  (s.offer { cls := .numberClash, peer := some s.own, lane := some l, detail := kind.setWidth 16 }).teardown .halted

/-! ## The registrar (R91) -/

/-- The registrar is computed afresh; a change is passed to the Claim Unit and the Copy Unit: slots for orphans are
retargeted, and where this station has lost the role every slot whose timer is stopped is too (R91, R42, R44, R49,
R105). -/
def State.takeRegistrar (s : State) : State :=
  let new := s.computeRegistrar
  if new = s.member.registrar then s
  else
    let was := s.isRegistrar
    let s := s.setMember { s.member with registrar := new }
    let lost := was && !s.isRegistrar
    let s := s.retargetClaims ((s.claim.slots.filter (fun c => s.orphan c.block || lost && c.timer.isNone)).map ClaimSlot.block)
    let s := if lost then s.dropOrphanClaims else s
    if s.state = .catchup ∧ s.copy.missing ≠ 0 ∧ new ≠ 0 then s.sendSnapq else s

/-- What follows every change of this station's state or of a peer entry's: the registrar (R91), the settle job (R129),
the fetch sources (R112), and the isolation of a CATCHUP station with no registrar (R83). `gained` is the station that
has become usable as a source in the event, if one has. GROUP_DISSOLVED follows the PEER_EXCLUDED of the exclusion that
brings it (DESIGN CHOICE, log entry 36). -/
def State.peersChanged (s : State) (gained : Option Station) : State :=
  let s := (s.takeRegistrar.checkJob).retargetFetches gained
  if s.state = .catchup ∧ s.member.registrar = 0 then (s.offer { cls := .groupDissolved }).isolate else s

/-! ## Exclusion (R96, R98) -/

/-- An entry that has just become a member's, with its expectation, base and welcome mark (R87, R63, R70, R93). -/
def Peer.admitted (state : PeerState) (expect : Option SeqNo) (base : SeqNo) (welcome : Bool) : Peer :=
  { state := state, silence := some 0, expect := expect, receipt := none, base := some base, welcome := welcome
    includesUs := false }

/-- Every answer naming an excluded requester leaves, and its reply record (R116, R122). -/
def State.dropAnswers (s : State) (p : Station) : State :=
  (s.setCopyUnit { s.copy with answers := s.copy.answers.filter (fun a => a.requester ≠ p) }).setSettle { s.settle with
    reply := s.settle.reply.filter (fun r => r.requester ≠ p) }

/-- The claim slots aimed at an excluded peer, and those for its blocks, are retargeted (R96, R44). -/
def State.retargetFrom (s : State) (p : Station) : State :=
  s.retargetClaims ((s.claim.slots.filter (fun c => c.target = p || (s.entry c.block).owner = p)).map ClaimSlot.block)

/-- What the exclusion of peer p leaves in its entry, the claim list and the answers, with its incident (R96). -/
def State.excludeEntry (cause : Cause) (s : State) (p : Station) : State :=
  let absent := (s.peer p).state = .absent
  let s := s.setPeer p { Peer.empty with state := .excluded }
  let s := (s.dropClaimant p).dropAnswers p
  if absent then s else s.offer { cls := .peerExcluded, peer := some p, detail := cause.code.setWidth 16 }

/-- Peers are excluded in one event (R96, R68): first each one's entry, then what follows from the changes; restart says
whether a job in QUERYING is restarted, once in the event (R124, R128, log entry 27). -/
def State.excludeAll (s : State) (ps : List Station) (cause : Cause) (restart : Bool) : State :=
  let ps := ps.filter (fun p => (s.peer p).state ≠ .excluded)
  if ps = [] then s
  else
    let s := (ps.foldl (State.excludeEntry cause) s).peersChanged none
    if s.active then
      let s := ps.foldl State.retargetFrom s
      if restart then s.restartJob else s
    else s

/-- Peer p is excluded (R96). -/
def State.exclude (s : State) (p : Station) (cause : Cause) (restart : Bool) : State := s.excludeAll [p] cause restart

/-- An EXCLUDE is asked for: enqueued, or listed where no entry is free and the station is not listed yet (R98). -/
def State.askExclude (s : State) (p : Station) (cause : Cause) : State :=
  if s.freeEntry then s.enqueue (.exclude p cause)
  else if s.member.waitingExcludes.any (fun w => w.1 = p) then s
  else s.setMember { s.member with waitingExcludes := s.member.waitingExcludes ++ [(p, cause)] }

/-- This station decides the exclusion of members: every one takes effect in the event, and its EXCLUDE is enqueued or
waits (R61, R68, R98), in the order of the list (log entry 27); a station that the exclusions have put out of its group
asks for no frame (R60). -/
def State.decideExcludes (s : State) (ps : List Station) (cause : Cause) (restart : Bool) : State :=
  let ps := ps.filter s.isMember
  if s.active then
    let s := s.excludeAll ps cause restart
    if s.active then ps.foldl (fun s p => s.askExclude p cause) s else s
  else s

/-- This station decides the exclusion of a member (R61, R98). -/
def State.decideExclude (s : State) (p : Station) (cause : Cause) (restart : Bool) : State :=
  s.decideExcludes [p] cause restart

/-! ## Entry to LIVE and to LEAVING (R82, R101) -/

/-- Every block is CURRENT (R6). -/
def State.allCurrent (s : State) : Bool := !s.anyEntry (fun e => e.copy ≠ .current)

/-- Catch-up is complete: the station enters LIVE (R82, R105, R132). -/
def State.enterLive (s : State) : State :=
  let former := s.member.registrar
  let s := s.setMember { s.member with state := .live, urgentStatus := true }
  let s := s.endSnapq
  let s := s.setAudit { s.audit with timer := some 0, due := false }
  (s.offer { cls := .joined, peer := if former = 0 then none else some former }).peersChanged none

/-- The test made in every event that makes a block CURRENT (R6, R82). -/
def State.testLive (s : State) : State :=
  if s.state = .catchup ∧ s.member.leavePending = false ∧ s.allCurrent = true then s.enterLive else s

/-- Every claim slot closes, its CLAIM withdrawn (R45). -/
def State.closeClaims (s : State) : State := (s.claim.slots.map ClaimSlot.block).foldl State.closeClaim s

/-- The claim list is emptied, and its blocks yield no more (R49). -/
def State.emptyClaimList (s : State) : State :=
  let gone := s.claim.list.map Prod.fst
  gone.foldl State.endYield (s.setClaim { s.claim with list := [] })

/-- A LIVE station enters LEAVING (R101, R38, R45, R49); WRITE_REFUSED is offered before WRITES_DISCARDED (DESIGN CHOICE,
log entry 32). -/
def State.enterLeaving (s : State) : State :=
  let s := s.setMember { s.member with state := .leaving, urgentStatus := true }
  let s := s.refuseWaiting.closeOrDue
  let s := s.offerDiscarded (s.write.held.map (fun h => blockOf h.addr))
  let s := s.setWrite { s.write with held := [] }
  s.closeClaims.emptyClaimList.peersChanged none

end Sys2Proof.Machine
end

