-- ==== Sys2Proof/Machine/Directory.lean ====
section
/-! DEFINITION. The Directory's judgements of arrivals: the epoch test and loss of a block (R10, R11), UPDATE (R13, R14), COPY (R15), HANDOVER and SETTLE entries (R12, R16 to R18, R131), SNAP entries (R19) and DIGEST entries (R135, R136). -/

namespace Sys2Proof.Machine

/-- AUDIT_MISMATCH for a block (R11 to R13, R16, R17, R136). -/
def State.mismatch (s : State) (b : Block) (sender : Station) (detail : Word) : State :=
  s.offer { cls := .auditMismatch, peer := some sender, block := some b, detail := detail }

/-- The epoch test (R10). -/
def State.passes (s : State) (b : Block) (e : Epoch) : Bool := later8 e (s.entry b).epoch

/-- This station loses a block it owns to an arrival (R11). Its held writes' claim slot is asked for once the arrival's
owner is in the entry (`grantSlot` in `ownershipEntry` and `updateArrive`). -/
def State.loseBlock (s : State) (b : Block) (sender : Station) (e : Epoch) : State :=
  let s := s.setEntry b { s.entry b with yielding := false }
  ((s.discardBatch b).dropClaims b).mismatch b sender (e.setWidth 16)

/-- An arrival that passed the epoch test and names another station takes owner and epoch into the entry, with the donor
it sets, if any (R10, R11, R49). -/
def State.takeOwner (s : State) (b : Block) (sender owner : Station) (e : Epoch) (donor : Option Station) : State :=
  let wasOrphan := s.orphan b
  let s := if s.owned b then s.loseBlock b sender e else s
  let s := s.setEntry b { s.entry b with owner := owner, epoch := e, donor := donor }
  if wasOrphan ∧ (s.peer owner).state ≠ .excluded then s.dropClaims b else s

/-! ## UPDATE (R13, R14) -/

/-- The batch of an UPDATE is applied (R13). -/
def State.applyBatch (s : State) (b : Block) (v : Version) (es : List WordWrite) : State :=
  ((s.setWindow (s.window.storeBlock b es)).setEntry b { s.entry b with version := v }).notice b

/-- The content step of an UPDATE whose sender is the recorded owner; passed says whether it passed the epoch test (R13,
R14). -/
def State.updateContent (s : State) (b : Block) (v : Version) (es : List WordWrite) (passed : Bool) : State :=
  match (s.entry b).copy with
  | .current =>
    if v = (s.entry b).version + 1 then s.applyBatch b v es
    else if later16 v ((s.entry b).version + 1) then
      s.setEntry b { s.entry b with copy := .stale, seen := some v }
    else s
  | .stale | .fetching => s.raiseSeen b v
  | .unknown => if passed then s.setEntry b { s.entry b with copy := .stale, seen := some v } else s

/-- An accepted UPDATE: ownership step, claim slot, content step (R10, R13, R14, R44). -/
def State.updateArrive (s : State) (sender : Station) (b : Block) (e : Epoch) (v : Version) (es : List WordWrite) :
    State :=
  let passed := s.passes b e
  let s := if passed then ((s.takeOwner b sender sender e none).sendClaim b).grantSlot else s
  if (s.entry b).owner = sender then s.updateContent b v es passed
  else if s.owned b then s.mismatch b sender v
  else s

/-! ## HANDOVER and SETTLE entries (R12, R16 to R18, R131) -/

/-- The copy state of an entry not gained, by Table 1-4: a FETCHING block whose version is not earlier keeps its slot
(R16). -/
def State.copyNotGained (s : State) (b : Block) (sender : Station) (v : Version) : State :=
  match (s.entry b).copy with
  | .unknown => s.makeStale b
  | .stale => s
  | .fetching => if later16 v (s.entry b).version then s.makeStale b else s
  | .current =>
    match orderVersion (s.entry b).version v with
    | .earlier => s.makeStale b
    | .equal => s
    | .later => s.mismatch b sender v

/-- The copy state of an entry naming this station (R17): CURRENT at v or later stays, all else is STALE, with an open
batch for the block discarded (R131). -/
def State.copyGained (s : State) (b : Block) (sender : Station) (v : Version) : State :=
  match (s.entry b).copy with
  | .current =>
    if (s.entry b).version = v then s
    else if later16 (s.entry b).version v then s.mismatch b sender v
    else (s.makeStale b).discardBatch b
  | .unknown | .stale | .fetching => s.makeStale b

/-- A CURRENT copy has no donor (R18, R17). -/
def State.dropDonorIfCurrent (s : State) (b : Block) : State :=
  if s.isCurrent b then s.setEntry b { s.entry b with donor := none } else s

/-- One entry of a HANDOVER or SETTLE, with the donor its rule sets (R12, R16 to R18, R44, R45). A slot it closes, or a
slot for a block it loses, goes to the block that wants it before the next entry is judged (R10, R11, R41). -/
def State.ownershipEntry (s : State) (sender : Station) (b : Block) (owner : Station) (e : Epoch) (v : Version)
    (donor : Option Station) : State :=
  if !s.passes b e then s
  else if owner = s.own then
    if s.state = .live ∨ s.state = .leaving then
      let s := s.setEntry b { s.entry b with owner := s.own, epoch := e, donor := donor }
      (((s.closeClaim b).copyGained b sender v).dropDonorIfCurrent b).grantSlot
    else s.mismatch b sender (e.setWidth 16)
  else
    let s := s.takeOwner b sender owner e donor
    (((s.copyNotGained b sender v).dropDonorIfCurrent b).sendClaim b).grantSlot

/-- One entry of an accepted HANDOVER: the donor is the giver where it names this station (R16, R17). -/
def State.handoverEntry (s : State) (sender owner : Station) (h : HandoverEntry) : State :=
  s.ownershipEntry sender h.block owner h.epoch h.version (if owner = s.own then some sender else none)

/-- One entry of a SETTLE: the donor is the entry's, unless that is this station (R18). -/
def State.settleEntry (s : State) (sender : Station) (t : SettleEntry) : State :=
  s.ownershipEntry sender t.block t.owner t.epoch t.version (if t.donor = s.own then none else some t.donor)

/-! ## SNAP, COPY and DIGEST -/

/-- One entry of a taken SNAP part (R19, R12). -/
def State.snapEntry (s : State) (b : Block) (t : SnapEntry) : State :=
  if (s.entry b).copy = .unknown ∨ s.passes b t.epoch = true then
    let s := s.setEntry b { s.entry b with
      owner := if t.owner = s.own then 0 else t.owner, epoch := t.epoch, donor := none }
    s.makeStale b
  else s

/-- Block i of SNAP part p (section 6.2). -/
def partBlock (p : Part) (i : Nat) : Block := Fin.ofNat 256 (16 * p.val + i)

/-- The entries of a taken part, in block order (R106). -/
def State.snapEntries (s : State) (p : Part) (es : List SnapEntry) : State :=
  es.zipIdx.foldl (fun s t => s.snapEntry (partBlock p t.2) t.1) s

/-- A COPY with status OK on a FETCHING block (R15, R111). -/
def State.copyArrive (s : State) (b : Block) (v : Version) (ws : List Word) : State :=
  if later16 (s.entry b).version v then s
  else
    let changed := decide (s.window.blockWords b ≠ ws) || decide ((s.entry b).version ≠ v)
    let behind := (s.entry b).seen.any (fun w => later16 w v)
    let s := s.setWindow (s.window.storeBlock b (writesOf ws))
    let s := s.setEntry b { s.entry b with version := v }
    let s := if changed then s.notice b else s
    if behind then s.nextAttempt b 1
    else
      let s := s.setEntry b { s.entry b with copy := .current, seen := none, donor := none }
      (s.closeFetch b).testLive

/-- AUDIT_MISMATCH of the Audit Unit (R136). -/
def State.digestMismatch (s : State) (b : Block) (sender : Station) (v : Version) : State :=
  s.offerBy .audit { cls := .auditMismatch, peer := some sender, block := some b, detail := v }

/-- One entry of a taken DIGEST (R135, R136). -/
def State.digestEntry (s : State) (sender : Station) (d : DigestEntry) : State :=
  let e := s.entry d.block
  if e.owner ≠ sender then s
  else
    match e.copy with
    | .unknown => s
    | .stale | .fetching => s.raiseSeen d.block d.version
    | .current =>
      match orderVersion e.version d.version with
      | .earlier => s.setEntry d.block { e with copy := .stale, seen := some d.version }
      | .equal =>
        if s.blockCheck d.block = d.check then s
        else (s.setEntry d.block { e with copy := .stale }).digestMismatch d.block sender d.version
      | .later => (s.setEntry d.block { e with copy := .stale }).digestMismatch d.block sender d.version

end Sys2Proof.Machine
end

