-- ==== Sys2Proof/Machine/Selector.lean ====
section
/-! DEFINITION. The Transmit Selector: building each frame at its take (R75, R95, R117, R122, R134), the order of the classes (R153, R154), giving a frame to the lanes, and release (R152). -/

namespace Sys2Proof.Machine

/-! ## STATUS (R75, R95) -/

/-- The state code a STATUS shows; the station sends one in CATCHUP, LIVE and LEAVING only (R154). -/
def StationState.shown : StationState → Option MemberState
  | .catchup => some .catchup
  | .live => some .live
  | .leaving => some .leaving
  | .offline | .listening | .joining | .departed | .isolated | .halted => none

/-- The known mask: every peer whose expectation is known (R75). -/
def State.knownMask (s : State) : StationMask := maskOf (fun p => p ≠ s.own && (s.peer p).expect.isSome)

/-- The receipt vector, for the stations 1 to 15 (R75). -/
def State.receiptVector (s : State) : List Byte :=
  stations.map (fun p => if p = s.own then 0 else (s.peer p).expect.getD 0)

/-- The welcome list: up to 4 members whose welcome-pending flag is set, lowest first (R95). -/
def State.welcomeList (s : State) : List (Station × SeqNo) :=
  ((stations.filter (fun p => s.isMember p && (s.peer p).welcome)).take 4).map (fun p => (p, (s.peer p).base.getD 0))

/-- The STATUS this station builds now (R75, R95). -/
def State.statusPayload (s : State) (shown : MemberState) : Payload :=
  .status shown s.membershipMask s.seq.next s.knownMask s.receiptVector s.welcomeList

/-- An unsequenced frame of this station: its seq field is 0 (R58). -/
def State.frameOf (s : State) (p : Payload) (target : Station) : Frame :=
  { sender := s.own, target := target, seq := 0, payload := p }

/-- A STATUS is taken: urgent request and owed receipt clear, the heartbeat timer restarts (R74, R95, R155). -/
def State.takeStatus (s : State) (shown : MemberState) : Frame × State :=
  let f := s.frameOf (s.statusPayload shown) 0
  let s := s.setMember { s.member with urgentStatus := false }
  let s := s.setSeq { s.seq with owed := false, urgent := false, accepted := 0, age := none }
  (f, s.setSelect { s.select with heartbeat := some 0 })

/-! ## Replay queue (R64) -/

/-- An entry is taken for transmission. -/
def ReplayEntry.take (e : ReplayEntry) : ReplayEntry := { e with sent := true, marked := false }

/-- A list with its first entry for which f holds taken. -/
def takeFirst (f : ReplayEntry → Bool) : List ReplayEntry → List ReplayEntry
  | [] => []
  | e :: rest => if f e then e.take :: rest else e :: takeFirst f rest

/-- The queue with its first entry for which f holds taken; where that is the head, its timer restarts from 0 (R64). -/
def takeFromQueue (f : ReplayEntry → Bool) : List ReplayEntry → List ReplayEntry
  | [] => []
  | e :: rest => if f e then { e.take with timer := some 0 } :: rest else e :: takeFirst f rest

/-- An entry has not been sent. -/
def ReplayEntry.unsent (e : ReplayEntry) : Bool := !e.sent

/-- Which entries may be sent next: the marked ones, or where there are none those never sent (R64, R153). -/
def State.replayable (s : State) : ReplayEntry → Bool :=
  if s.seq.queue.any ReplayEntry.marked then ReplayEntry.marked else ReplayEntry.unsent

/-- The entry to be sent next, the first that may be (R64, R153). -/
def State.nextReplay (s : State) : Option ReplayEntry := s.seq.queue.find? s.replayable

def State.takeReplay (s : State) (e : ReplayEntry) : Frame × State :=
  (e.frame, s.setSeq { s.seq with queue := takeFromQueue s.replayable s.seq.queue })

/-! ## Answers (R117, R122) -/

/-- An answer-queue entry can be built (R117). -/
def State.buildable (s : State) : Answer → Bool
  | .copy _ b => !s.batchFor b
  | .snap _ _ => true
  | .versions _ _ => s.settle.reply.isSome

/-- The SNAP of a part, as the directory stands (R117). -/
def State.snapPayload (s : State) (p : Part) : Payload :=
  .snap p ((List.range 16).map (fun i =>
    let e := s.entry (partBlock p i)
    { owner := e.owner, epoch := e.epoch, version := e.version }))

/-- The COPY of a block, as it stands (R117). -/
def State.copyPayload (s : State) (b : Block) : Payload :=
  if s.isCurrent b then .copyOk b (s.entry b).version (s.window.blockWords b)
  else .copyNotCurrent b (s.entry b).version

/-- The frame an answer gives now, and what building it leaves beside the entry's removal (R117, R122). -/
def State.buildAnswer (s : State) : Answer → Frame × State
  | .copy q b => (s.frameOf (s.copyPayload b) q, s)
  | .snap q p => (s.frameOf (s.snapPayload p) q, s)
  | .versions q r =>
    match s.settle.reply with
    | none => (s.frameOf (.versions r true []) q, s)
    | some x =>
      let f := s.frameOf (.versions x.round x.after.isNone (x.covered.map s.versionsEntry)) x.requester
      let s := s.setSettle { s.settle with reply := some { x with next := x.after, finished := x.after.isNone } }
      (f, if x.after.isNone then s
          else s.setCopyUnit { s.copy with answers := s.copy.answers ++ [.versions x.requester x.round] })

/-- An answer is taken: it leaves the queue and its frame is built (R117). -/
def State.takeAnswer (s : State) (a : Answer) : Frame × State :=
  (s.setCopyUnit { s.copy with answers := s.copy.answers.erase a }).buildAnswer a

/-! ## Requests (R153) -/

/-- The order of the request kinds that fell due in one event (R153). -/
def Request.rank (r : Request) : Nat :=
  match Payload.key r.payload with
  | .claim _ => 0 | .fetch _ => 1 | .snapq => 2 | .query => 3 | .join => 4 | .other => 5

/-- The block of a CLAIM or FETCH (R153). -/
def Request.block (r : Request) : Nat :=
  match Payload.key r.payload with
  | .claim b => b.val
  | .fetch b => b.val
  | .snapq | .query | .join | .other => 0

/-- Request r goes before q (R153). -/
def Request.before (r q : Request) : Bool :=
  decide (r.stamp < q.stamp) || (decide (r.stamp = q.stamp) &&
    (decide (r.rank < q.rank) || (decide (r.rank = q.rank) && decide (r.block < q.block))))

/-- The kinds a station state permits as requests (Table 9-6). -/
def StationState.permits : StationState → Payload → Bool
  | .joining, .join => true
  | .catchup, .fetch _ => true
  | .catchup, .snapq _ => true
  | .live, _ => true
  | .leaving, _ => true
  | _, _ => false

/-- The request that goes first among those permitted (R153, R154). -/
def State.nextRequest (s : State) : Option Request :=
  (s.select.requests.filter (fun r => s.state.permits r.payload)).foldl
    (fun best r => match best with
      | none => some r
      | some q => if r.before q then some r else some q) none

def State.takeRequest (s : State) (r : Request) : Frame × State :=
  (s.frameOf r.payload r.target,
    s.setSelect { s.select with requests := s.select.requests.filter (fun q => q ≠ r) })

/-! ## DIGEST (R133, R134) -/

/-- A block is digestible (R133). -/
def State.digestible (s : State) (b : Block) : Bool :=
  s.owned b && s.isCurrent b && !(s.entry b).yielding && !s.batchFor b

/-- The blocks in the order of the search: from the block after the pointer, wrapping, the pointer last (R134). -/
def searchOrder (pointer : Block) : List Block := (List.range 256).map (fun i => Fin.ofNat 256 (pointer.val + 1 + i))

/-- The first n items of a list that f holds for. -/
def firstWith {α : Type} (f : α → Bool) : Nat → List α → List α
  | 0, _ => []
  | _, [] => []
  | n + 1, x :: xs => if f x then x :: firstWith f n xs else firstWith f (n + 1) xs

/-- The blocks the next DIGEST covers (R134). -/
def State.digestBlocks (s : State) : List Block :=
  firstWith s.digestible Config.digestEntries (searchOrder s.audit.pointer)

def State.digestEntryOf (s : State) (b : Block) : DigestEntry :=
  { block := b, version := (s.entry b).version, check := s.blockCheck b }

/-- A DIGEST over these blocks is taken: the pointer moves to the last, the flag clears, the timer restarts (R133, R134). -/
def State.takeDigest (s : State) (bs : List Block) : Frame × State :=
  (s.frameOf (.digest (bs.map s.digestEntryOf)) 0,
    s.setAudit { pointer := bs.getLastD s.audit.pointer, timer := some 0, due := false })

/-! ## The take (R152, R153) -/

/-- An urgent STATUS is available (class 1). -/
def State.statusUrgent (s : State) : Bool := s.member.urgentStatus || s.seq.urgent

/-- A heartbeat STATUS is available (class 5). -/
def State.heartbeatDue (s : State) : Bool := s.select.heartbeat.any (fun t => decide (Config.heartbeat ≤ t))

/-- LIVE or LEAVING, the states in which every kind may be taken (Table 9-6). -/
def State.fullSender (s : State) : Bool := s.state = .live || s.state = .leaving

/-- Classes 2 and 3: a replay-queue entry, else an answer (Table 9-5). -/
def State.takeQueued (s : State) : Option (Frame × State) :=
  if s.active then
    match s.nextReplay with
    | some e => some (s.takeReplay e)
    | none => if s.fullSender then (s.copy.answers.find? s.buildable).map s.takeAnswer else none
  else none

/-- Classes 4 to 6: a request, else a heartbeat, else a DIGEST (Table 9-5). -/
def State.takeOther (s : State) : Option (Frame × State) :=
  match s.nextRequest with
  | some r => some (s.takeRequest r)
  | none =>
    match s.state.shown, s.heartbeatDue with
    | some shown, true => some (s.takeStatus shown)
    | _, _ =>
      if s.audit.due && s.fullSender then
        match s.digestBlocks with
        | [] => none
        | b :: bs => some (s.takeDigest (b :: bs))
      else none

/-- The first available frame the station state permits, built, with the changes its take makes (Table 9-5, R154). -/
def State.nextTake (s : State) : Option (Frame × State) :=
  match s.state.shown, s.statusUrgent with
  | some shown, true => some (s.takeStatus shown)
  | _, _ => (s.takeQueued).orElse (fun _ => s.takeOther)

/-- A frame is given to a lane's controller: the attempt starts at once where the lane is idle long enough (R149). -/
def Lane.give (l : Lane) : Lane :=
  { l with
    access := if Config.accessGap ≤ l.idle then .sending else .deferring
    attempt := 1, required := Config.accessGap, progress := 0, abortTime := 0, readback := none }

/-- A taken frame is current and given to every lane that is UP (R152). -/
def State.give (s : State) (f : Frame) : State :=
  let s := s.setSelect { s.select with
    current := some f, doneA := !s.laneUp .A, doneB := !s.laneUp .B }
  let s := if s.laneUp .A then s.setLane .A s.laneA.give else s
  if s.laneUp .B then s.setLane .B s.laneB.give else s

/-- The current frame is released once every done mark is set (R152). -/
def State.release (s : State) : State :=
  if s.select.doneA && s.select.doneB then s.setSelect { s.select with current := none } else s

/-- Release, then the take that falls in this event, if one does (R152). -/
def State.pump (s : State) : State :=
  let s := s.release
  if s.select.current.isNone && s.anyLaneUp then
    match s.nextTake with
    | none => s
    | some (f, s) => s.give f
  else s

end Sys2Proof.Machine
end

