-- ==== Sys2Proof/Machine/Lanes.lean ====
section
/-! DEFINITION. The Lane Interfaces and Access Controllers: the error score (R145), a lane going DOWN (R146), its rest and return (R147, R148), sending, collision and abandonment (R149 to R151), and what a frame's end leaves (R143). -/

namespace Sys2Proof.Machine

/-! ## Lane states -/

/-- The lane is in UP or PROBATION: it receives (Table 9-2). -/
def Lane.receives (l : Lane) : Bool := l.state = .up || l.state = .probation

/-- This station drives the lane (Table 9-4). -/
def Lane.driving (l : Lane) : Bool := l.access = .sending || l.access = .aborting

/-- The Lane Interface hears the line of others: it receives, and this station does not drive (R139, R141, R142). -/
def Lane.hears (l : Lane) : Bool := l.receives && !l.driving

/-- A lane at its entry to DOWN: the score is kept, nothing else of the receiver (R146, R147). -/
def Lane.fall (l : Lane) : Lane :=
  { l.release with
    state := .down, rest := some 0, good := 0, idle := 0, spaceRun := 0, shift := [], buffer := FrameBuffer.empty }

/-- A lane's done mark is set (R152). -/
def State.markDone (s : State) : LaneId → State
  | .A => s.setSelect { s.select with doneA := true }
  | .B => s.setSelect { s.select with doneB := true }

/-- The last lane has left UP: the Membership Unit is told (R146, R79, R80, R83). -/
def State.lostLanes (s : State) : State :=
  if s.active then s.isolate
  else if s.state = .listening ∨ s.state = .joining then s.setMember { s.member with listen := none, join := none }
  else s

/-- A lane is UP where none was: the Membership Unit is told (R148, R79, R80, R83). -/
def State.gainedLane (s : State) : State :=
  match s.state with
  | .isolated => s.enterListening
  | .listening => s.setMember { s.member with listen := some 0 }
  | .joining => s.sendJoin
  | .offline | .catchup | .live | .leaving | .departed | .halted => s

/-- A lane enters DOWN, from UP or PROBATION; detail is 1 SCORE or 2 STUCK (R146, R148, R151). -/
def State.laneDown (s : State) (l : LaneId) (detail : Word) : State :=
  let wasUp := s.laneUp l
  let s := ((s.setLane l (s.lane l).fall).markDone l).offer { cls := .laneDown, lane := some l, detail := detail }
  if wasUp && !s.anyLaneUp then s.lostLanes else s

/-- A PROBATION lane returns to UP (R148). -/
def State.laneReturn (s : State) (l : LaneId) : State :=
  let alone := !s.anyLaneUp
  let s := (s.setLane l { s.lane l with state := .up, good := 0 }).offer { cls := .laneUp, lane := some l }
  if alone then s.gainedLane else s

/-- A lane's rest is over: PROBATION, with a fresh receiver (R147). -/
def Lane.probation (l : Lane) : Lane :=
  { l with
    state := .probation, score := 0, good := 0, rest := none, idle := 0, spaceRun := 0, shift := []
    buffer := FrameBuffer.empty }

/-! ## The error score (R145) -/

/-- A net change of the score, held between 0 and 64 (R145). -/
def addScore (score up down : Nat) : Nat := min Config.scoreLimit (score + up - down)

/-- The score of a lane after a change; at 64 the lane enters DOWN (R145, R146, R148). -/
def State.weigh (s : State) (l : LaneId) (up down : Nat) : State :=
  let score := addScore (s.lane l).score up down
  let s := s.setLane l { s.lane l with score := score }
  if (s.lane l).receives && decide (score = Config.scoreLimit) then s.laneDown l 1 else s

/-- The weight of one noisy character or more in a frame (Table 9-3). -/
def frameNoise (f : FrameBuffer) : Nat := if f.noisy then 1 else 0

/-! ## The line (R140, R141, R143) -/

/-- What the line will carry is told (log entry 7). -/
def State.bring (s : State) (l : LaneId) (cells : List LineCell) : State :=
  s.setLane l { s.lane l with line := (s.lane l).line ++ cells }

/-- The lane's receiver, at the start of a character time. -/
def Lane.receiver (l : Lane) : Receiver :=
  { buffer := l.buffer, shift := l.shift, spaceRun := l.spaceRun, idle := l.idle, heard := false }

/-- A lane that receives, over 1 ct: its receiver takes the ten bits; the idle time counts where the line has not read
space and no character is in progress (R140 to R143). -/
def Lane.sample (l : Lane) (cell : LineCell) : Lane :=
  let r := l.receiver.hear cell.bits
  { l with
    buffer := r.buffer, shift := r.shift, spaceRun := r.spaceRun
    idle := if r.heard || !r.shift.isEmpty then 0 else l.idle + 1 }

/-- Characters have come in with the 2 ct of idle after them (R143); where none had a start bit nothing has changed. -/
def Lane.hearAll (l : Lane) (cs : List RxChar) : Lane :=
  let r := l.receiver.hear (withIdle cs)
  if cs ≠ [] ∧ r.heard = true then { l with buffer := r.buffer, shift := [], spaceRun := 0, idle := Config.frameEnd } else l

/-- What is read back where this station sends a character: what the line is told to carry, else the character itself
(R139, R150). -/
def Lane.readsBack (l : Lane) (sent : Byte) : Option RxChar :=
  match l.line with
  | [] => some (cleanChar sent)
  | .mark :: _ => none
  | .char c :: _ => some c
  | .space :: _ => some heldChar

/-! ## A frame's end (R143, R144) -/

/-- The receiver once a frame has ended: the buffer is empty again (R143). -/
def State.frameEnds (s : State) (l : LaneId) : State := s.setLane l { s.lane l with buffer := FrameBuffer.empty }

/-- A bad frame: discarded, and weighed (R144, R145). -/
def State.badFrame (s : State) (l : LaneId) (f : FrameBuffer) : State := s.weigh l (4 + frameNoise f) 0

/-- A good frame on a PROBATION lane: counted, then weighed (R148, R145). -/
def State.probationFrame (s : State) (l : LaneId) (f : FrameBuffer) : State :=
  let s := s.setLane l { s.lane l with good := (s.lane l).good + 1 }
  let s := if (s.lane l).good = Config.goodFrames then s.laneReturn l else s
  s.weigh l (frameNoise f) 1

/-! ## Sending (R149 to R151) -/

/-- A controller is done with its frame, sent or abandoned: IDLE, and the lane's done mark set (R149, R151). -/
def State.laneDone (s : State) (l : LaneId) : State := (s.setLane l (s.quit l)).markDone l

/-- A deferring controller starts its attempt (R149). -/
def Lane.startSending (l : Lane) : Lane := { l with access := .sending, progress := 0, readback := none }

/-- A controller that has found a collision stops sending and drives an abort mark; what it has read back is no frame
(R150, Table 9-3). -/
def Lane.abort (l : Lane) : Lane :=
  { l with access := .aborting, abortTime := 0, progress := 0, readback := none, buffer := FrameBuffer.empty }

/-- The required idle after attempt k collided at station n (R150). -/
def backoff (n : Station) (k : Nat) : Nat := Config.accessGap + (n.val + 7 * k) % 16

/-- The next attempt after an abort mark (R150). -/
def Lane.retry (l : Lane) (n : Station) : Lane :=
  { l with access := .deferring, attempt := l.attempt + 1, required := backoff n l.attempt, abortTime := 0, idle := 0 }

/-- The character being sent in this character time, in SENDING. -/
def State.sending (s : State) (l : LaneId) : Byte := s.currentBytes.getD (s.lane l).progress 0

end Sys2Proof.Machine
end

