-- ==== Sys2Proof/Machine/Events.lean ====
section
/-! DEFINITION. What one event brings about beyond its own effect: the acts the units do in the same event (R30, R32, R34, R36, R41, R48, R50, R66, R69, R101, R102, R108, R119, R126), the take (R152) and the incidents (R167). -/

namespace Sys2Proof.Machine

/-! ## Handovers (R51, R52, R101) -/

/-- A HANDOVER of these blocks to a station is enqueued, and each block is the new owner's (R52). -/
def State.passOn (s : State) (c : Station) (bs : List Block) : State :=
  let es := bs.map (fun b => ({ block := b, epoch := (s.entry b).epoch + 1, version := (s.entry b).version } : HandoverEntry))
  let s := s.enqueue (.handover c es)
  es.foldl (fun s h =>
    (s.setEntry h.block { s.entry h.block with owner := c, epoch := h.epoch, yielding := false }).dropClaims h.block) s

/-- A HANDOVER with all its effects: each of its blocks with held writes asks for a claim slot in its turn, before another
HANDOVER of the event is enqueued (R51, R52, R41); their order among each other is log entry 26. -/
def State.handOver (s : State) (c : Station) (bs : List Block) : State :=
  bs.foldl (fun s _ => s.grantSlot) (s.passOn c bs)

/-- The claimant served next: of the oldest claim-list entry whose block is ready (R50, R51). -/
def State.servedClaimant (s : State) : Option Station :=
  (s.claim.list.find? (fun c => s.servable c.1)).map Prod.snd

/-- The blocks one HANDOVER to a claimant carries: ready, their oldest entry naming it, ascending (R51). -/
def State.servedBlocks (s : State) (c : Station) : List Block :=
  blocks.filter (fun b => s.firstClaimant b = some c && s.servable b)

/-- Claims are served once (R51). -/
def State.serve (s : State) : State :=
  match s.servedClaimant with
  | none => s
  | some c => s.handOver c (s.servedBlocks c)

/-- A block is handable to the heir (R101). -/
def State.handable (s : State) (b : Block) : Bool :=
  s.owned b && s.isCurrent b && !s.batchFor b && !s.updateQueued b

/-- The blocks the next HANDOVER to the heir carries (R101). -/
def State.handableBlocks (s : State) : List Block := firstWith s.handable Config.frameEntries blocks

/-- A handable block stands and an heir is there; after the own EXCLUDE nothing is handed any more (R101, R102). -/
def State.heirReady (s : State) : Bool :=
  s.state = .leaving && s.member.registrar ≠ 0 && s.leaving.isNone && blocks.any s.handable

/-! ## Departure (R66, R102) -/

/-- The head retires; where it is this station's own EXCLUDE the station enters DEPARTED (R66, R100, R102). -/
def State.retireHead (s : State) : State :=
  let own := match s.seq.queue with | [] => false | e :: _ => s.ownExclude e
  let s := s.dropHead
  if own then s.depart 0 else s

/-- LEAVING, the queue empty, no heir (R102). -/
def State.departsAlone (s : State) : Bool := s.state = .leaving && s.seq.queue.isEmpty && s.member.registrar = 0

/-- LEAVING, the queue empty, no block owned, an heir there: the own EXCLUDE is asked for (R102; log entry 17). -/
def State.asksLeave (s : State) : Bool :=
  s.state = .leaving && s.seq.queue.isEmpty && s.member.registrar ≠ 0 && blocks.all (fun b => !s.owned b)

/-! ## Release of claimed blocks (R32, R48) -/

/-- A release asked for can be answered now: the batch for the block is closed or made due, or the block yields. -/
def State.releasable (s : State) (b : Block) : Bool :=
  s.owned b && s.isCurrent b && !(s.entry b).yielding && !s.awaitingCommit b
    && !s.write.batch.any (fun t => t.block = b && t.due)

/-- The claimed blocks whose release can be answered, oldest claim first. -/
def State.releases (s : State) : List Block := (s.claim.list.map Prod.fst).filter s.releasable

/-- A release is answered (R32). -/
def State.releaseBlock (s : State) (b : Block) : State :=
  if s.batchFor b then s.closeOrDue else s.setEntry b { s.entry b with yielding := true }

/-! ## SETTLE (R126, R127) -/

/-- The next SETTLE is enqueued and applied here; after the last the job is over (R126, R127). -/
def State.announceNext (s : State) : State :=
  let es := s.settle.announce.take Config.frameEntries
  let s := s.enqueue (.settle s.settle.round es)
  let s := s.setSettle { s.settle with
    announce := s.settle.announce.drop Config.frameEntries, announced := s.settle.announced + es.length }
  let s := es.foldl (fun s t => s.settleEntry s.own t) s
  if s.settle.announce = [] then
    s.clearJob.offer { cls := .settled, detail := BitVec.ofNat 16 s.settle.announced }
  else s

/-- A SETTLE waits for a free entry (R126). -/
def State.settleWaits (s : State) : Bool := s.settle.job = .announcing && !s.settle.announce.isEmpty

/-- A waiting EXCLUDE is enqueued and leaves the list (R98). -/
def State.enqueueWaiting (s : State) (p : Station) : State :=
  match s.member.waitingExcludes.find? (fun w => w.1 = p) with
  | none => s
  | some w =>
    (s.setMember { s.member with waitingExcludes := s.member.waitingExcludes.filter (fun x => x.1 ≠ p) }).enqueue
      (.exclude p w.2)

/-! ## Acts -/

/-- One thing a unit does in the event in which it becomes possible. -/
inductive Act
  | retire
  | departAlone
  | askLeave
  | commit (b : Block)
  | release (b : Block)
  | closeDue
  | serve
  | heir
  | exclude (p : Station)
  | settle
  | startJob
  | openFetch (b : Block)
  | grantSlot (b : Block)
  | judge
  deriving DecidableEq, Repr

/-- What an act does. -/
def State.perform (s : State) : Act → State
  | .retire => s.retireHead
  | .departAlone => s.depart 0
  | .askLeave => s.enqueue (.exclude s.own .leave)
  | .commit b => s.commitHeld b
  | .release b => s.releaseBlock b
  | .closeDue => s.closeBatch
  | .serve => s.serve
  | .heir => s.handOver s.member.registrar s.handableBlocks
  | .exclude p => s.enqueueWaiting p
  | .settle => s.announceNext
  | .startJob => s.startJob
  | .openFetch b => s.openFetch b
  | .grantSlot b => s.openClaim b true
  | .judge => s.judgeWaiting

/-- One act where a condition holds. -/
def actIf (c : Bool) (a : Act) : List Act := if c then [a] else []

/-- The acts that ask for a place of the replay queue and can have one now (R69). -/
def State.placeActs (s : State) : List Act :=
  if s.freeEntry then
    (if s.freeGeneral then
      actIf (s.write.batch.any OpenBatch.due) .closeDue ++ actIf s.servedClaimant.isSome .serve ++ actIf s.heirReady .heir
    else [])
      ++ s.member.waitingExcludes.map (fun w => .exclude w.1) ++ actIf s.settleWaits .settle
  else []

/-- A free claim slot goes to the first block that wants one (R41). -/
def State.grantActs (s : State) : List Act :=
  if s.state = .live ∧ s.claim.slots.length < Config.claimSlots then
    match s.wanting with | [] => [] | b :: _ => [.grantSlot b]
  else []

/-- The acts possible now, in groups: those of an earlier group come before those of a later one, and the order within a
group is free (log entries 3 and 6). A departure comes after the requesters of a freed place, so that a due batch closes
first (R30, R38, R66). -/
def State.actGroups (s : State) : List (List Act) :=
  [ actIf s.headReceipted .retire,
    s.commitReady.map Act.commit,
    (s.releases.take 1).map Act.release,
    s.placeActs,
    actIf s.departsAlone .departAlone ++ actIf s.asksLeave .askLeave,
    actIf s.jobWanted .startJob,
    (s.nextFetch).toList.map Act.openFetch,
    s.grantActs,
    actIf s.judgeChanges .judge ]

/-- The acts of the first group that has any. -/
def State.nextActs (s : State) : List Act := (s.actGroups.find? (fun g => !g.isEmpty)).getD []

/-- Nothing is left to do in this event. -/
def State.still (s : State) : Bool := s.nextActs.isEmpty

/-- The acts of one event, one after another, until none is possible; the fuel is far above what one event can bring
about (log entry 6). -/
def State.quiesceFor : Nat → State → State
  | 0, s => s
  | fuel + 1, s =>
    match s.nextActs with
    | [] => s
    | a :: as =>
      let c := s.choose (as.length + 1)
      State.quiesceFor fuel (c.2.perform ((a :: as).getD c.1 a))

/-- The most acts of one event the model follows (log entry 6). -/
def actLimit : Nat := 4096

def State.quiesce (s : State) : State := State.quiesceFor actLimit s

/-! ## One event -/

/-- What every event ends with: the units' acts, the take, the incidents. -/
def State.settleEvent (s : State) : State := s.quiesce.pump.recordOffers

/-- The next event's number. -/
def State.tickStamp (s : State) : State := { s with stamp := s.stamp + 1 }

/-- One event, with effect f; while RESET is low nothing happens (R175). -/
def State.event (s : State) (f : State → State) : State :=
  if s.resetLow then s else (f s.tickStamp).settleEvent

/-- The local port takes no access while RESET is low, nor while a write waits: the cycle is extended (R36, R175; log
entry 8). -/
def State.portFree (s : State) : Bool := !s.resetLow && s.write.waiting.isNone

/-- One event that a port access brings. -/
def State.portEvent (s : State) (f : State → State) : State := if s.portFree then s.event f else s

/-- A port access that changes the local port or the incident log alone. -/
def State.portAccess (s : State) (f : State → State) : State := if s.portFree then f s else s

end Sys2Proof.Machine
end

