-- ==== Sys2Proof/Machine/Decoder.lean ====
section
/-! DEFINITION. The Frame Decoder and the units' judgements of delivered frames: the steps of R161, delivery (R165, R89), and one definition per frame kind (R47, R71, R88, R92 to R94, R97, R99, R106, R111, R116, R121, R123, R135). -/

namespace Sys2Proof.Machine

/-! ## STATUS (R88, R65, R73, R99) -/

/-- The lowest-numbered station of a mask, 0 for none. -/
def maskLowest (m : StationMask) : Station := (stations.find? (maskHas m)).getD 0

/-- How many stations a mask holds. -/
def maskCount (m : StationMask) : Nat := (stations.filter (maskHas m)).length

/-- The side with the first mask dissolves when it meets the side with the second (R99). -/
def dissolves (mine theirs : StationMask) : Bool :=
  let a := (maskLowest mine).val
  let b := (maskLowest theirs).val
  decide (b < a) || (decide (a = b) && (decide (maskCount mine < maskCount theirs)
    || (decide (maskCount mine = maskCount theirs) && decide (mine.toNat < theirs.toNat))))

/-- A STATUS from a station that is no member: the group-collision test (R89, R99). -/
def State.foreignStatus (s : State) (shown : MemberState) (mask : StationMask) : State :=
  if shown = .live ∧ maskHas mask s.own = false ∧ dissolves s.membershipMask mask = true then
    (s.offer { cls := .groupDissolved, peer := some (maskLowest mask) }).isolate
  else s

/-- The state a peer's entry takes from a STATUS: LEAVING stays (R88). -/
def PeerState.shows (held : PeerState) (shown : MemberState) : PeerState :=
  if held = .leaving then .leaving
  else match shown with
    | .catchup => .catchup
    | .live => .live
    | .leaving => .leaving

/-- The receipt of us a STATUS gives: its receipt vector's entry for this station where its known mask holds it (R65). -/
def receiptFor (own : Station) (known : StationMask) (receipts : List Byte) : Option SeqNo :=
  if maskHas known own then some (receipts.getD (own.val - 1) 0) else none

/-- The base of the welcome pair naming a station (R73). -/
def welcomeFor (own : Station) (welcome : List (Station × SeqNo)) : Option SeqNo :=
  (welcome.find? (fun w => w.1 = own)).map Prod.snd

/-- A peer's entry after a STATUS that is used whole (R88). -/
def Peer.afterStatus (e : Peer) (own : Station) (shown : MemberState) (mask known : StationMask) (receipts : List Byte)
    (welcome : List (Station × SeqNo)) : Peer :=
  { e with
    state := e.state.shows shown
    includesUs := maskHas mask own
    receipt := receiptFor own known receipts
    expect := match e.expect with | none => welcomeFor own welcome | some q => some q
    welcome := e.welcome && !maskHas known own }

/-- An entry in this state is of a station usable as a fetch source (R109). -/
def PeerState.source : PeerState → Bool
  | .live | .leaving => true
  | .absent | .catchup | .excluded => false

/-- The STATUS of a member is used whole: state, includes-us, receipt, welcome, and what a change of state brings (R88,
R73, R87, R112). -/
def State.useStatus (s : State) (p : Station) (shown : MemberState) (mask known : StationMask) (receipts : List Byte)
    (welcome : List (Station × SeqNo)) : State :=
  let old := s.peer p
  let new := old.afterStatus s.own shown mask known receipts welcome
  let s := s.setPeer p new
  let s := if old.expect.isNone && new.expect.isSome then s.setSeq s.seq.oweUrgent else s
  if new.state = old.state then s
  else (if old.state = .live then s.dropClaimant p else s).peersChanged
    (if new.state.source && !old.state.source then some p else none)

/-- This station is on its way out: LEAVING, or CATCHUP with leave pending (R88). -/
def State.departing (s : State) : Bool := s.state = .leaving || (s.state = .catchup && s.member.leavePending)

/-- A STATUS from a member (R88). -/
def State.memberStatus (s : State) (p : Station) (shown : MemberState) (mask known : StationMask) (receipts : List Byte)
    (welcome : List (Station × SeqNo)) : State :=
  match !maskHas mask s.own && s.departing, s.leaving with
  | true, some e => s.setPeer p { s.peer p with receipt := some (e.seq + 1) }
  | _, _ =>
    if (s.peer p).includesUs && !maskHas mask s.own then
      (s.offer { cls := .selfExcluded, peer := some p }).isolate
    else s.useStatus p shown mask known receipts welcome

/-! ## JOIN and ADMIT (R92, R93, R94) -/

/-- An ADMIT for station j stands in the replay queue (Table 5-5). -/
def State.admitQueued (s : State) (j : Station) : Bool :=
  s.seq.queue.any (fun e => match e.frame.payload with | .admission k _ => k = j | _ => false)

/-- A directory entry names j as owner (Table 5-5). -/
def State.ownsAny (s : State) (j : Station) : Bool := s.anyEntry (fun e => e.owner = j)

/-- The registrar admits j: its ADMIT is enqueued and its entry is CATCHUP (R61, R63, R70, R92). -/
def State.admitJoiner (s : State) (j : Station) : State :=
  let s := s.setPeer j (Peer.admitted .catchup (some 0) s.seq.next false)
  (s.enqueue (.admission j s.membershipMask)).peersChanged none

/-- A JOIN from j at the registrar (Table 5-5); elsewhere it is discarded (R92). -/
def State.joinArrive (s : State) (j : Station) : State :=
  if !s.isRegistrar then s
  else if s.admitQueued j then s
  else if s.isMember j then s.decideExclude j .rejoin true
  else if s.ownsAny j then s
  else if !s.freeEntry then s
  else s.admitJoiner j

/-- An accepted ADMIT for another station (R93); one that names this station outside JOINING does nothing (log entry
11). Where it excludes a member and admits it again in the one event, an IDLE settle job is tested for a start only once
the entry is CATCHUP again, and its new base is set before the head of the replay queue is tested (DESIGN CHOICE, log
entry 29). Where the blocks of an EXCLUDED station cease to be orphans by its admission, a claim slot for one that waits
with its timer stopped goes on waiting (DESIGN CHOICE, log entry 33), and the claim-list entries for them stay (DESIGN
CHOICE, log entry 34). -/
def State.admitArrive (s : State) (j : Station) : State :=
  if j = s.own then s
  else
    let s := s.decideExclude j .rejoin true
    if s.active then
      let s := s.setPeer j (Peer.admitted .catchup (some 0) s.seq.next true)
      (s.setMember { s.member with urgentStatus := true }).peersChanged none
    else s

/-- The peer table a joiner builds from the ADMIT's mask (R94, R72, R63). -/
def State.peersOfMask (s : State) (sender : Station) (q : SeqNo) (mask : StationMask) : Vector Peer 16 :=
  stations.foldl (fun t p =>
    if p ≠ s.own ∧ maskHas mask p = true then
      put t p (Peer.admitted .live (if p = sender then some (q + 1) else none) s.seq.next false)
    else t) s.member.peers

/-- The ADMIT naming this station is accepted in JOINING: it enters CATCHUP (R72, R94, R104, R155). A receipt is owed and
urgent; the acceptance adds nothing to the unreported count, which R72 does not name (DESIGN CHOICE, log entry 28). -/
def State.admitted (s : State) (sender : Station) (q : SeqNo) (mask : StationMask) : State :=
  let s := s.setMember { s.member with
    state := .catchup, peers := s.peersOfMask sender q mask, listen := none, join := none, urgentStatus := true }
  let s := (s.withdraw .join).setSeq s.seq.oweUrgent
  let s := s.setSelect { s.select with heartbeat := some 0 }
  let s := s.peersChanged none
  let s := s.setCopyUnit { s.copy with missing := 0xFFFF }
  s.sendSnapq

/-! ## The other kinds -/

/-- An accepted EXCLUDE (R96, R97). -/
def State.excludeArrive (s : State) (sender p : Station) (cause : Cause) : State :=
  if p = s.own then
    (s.offer { cls := .selfExcluded, peer := some sender, detail := cause.code.setWidth 16 }).isolate
  else s.exclude p cause true

/-- A CLAIM is entered in the claim list or dropped (R47). -/
def State.claimArrive (s : State) (sender : Station) (b : Block) : State :=
  if s.claimEntered b sender then s.setClaim { s.claim with list := s.claim.list ++ [(b, sender)] } else s

/-- A FETCH is entered in the answer queue or dropped (R116). -/
def State.fetchArrive (s : State) (sender : Station) (b : Block) : State :=
  if s.fullSender then s.queueAnswer (.copy sender b) else s

/-- A SNAPQ at the registrar: its parts are entered in ascending order (R116). -/
def State.snapqArrive (s : State) (sender : Station) (parts : Word) : State :=
  if s.isRegistrar then
    ((List.finRange 16).filter (fun p => parts.getLsbD p.val)).foldl (fun s p => s.queueAnswer (.snap sender p)) s
  else s

/-- A COPY with status OK, matched to its slot (R111). -/
def State.copyOkArrive (s : State) (b : Block) (v : Version) (ws : List Word) : State :=
  if (s.fetchSlot b).isSome then s.copyArrive b v ws else s

/-- A COPY with status NOT-CURRENT (R111). -/
def State.copyNotCurrentArrive (s : State) (sender : Station) (b : Block) : State :=
  match s.fetchSlot b with
  | none => s
  | some c => if c.source = sender then s.endAttempt c else s

/-- A SNAP part is taken (R106). -/
def State.takesSnap (s : State) (sender : Station) (p : Part) : Bool :=
  s.state = .catchup && s.copy.missing.getLsbD p.val && s.usable sender

/-- A SNAP (R106, R105). -/
def State.snapArrive (s : State) (sender : Station) (p : Part) (es : List SnapEntry) : State :=
  if s.takesSnap sender p then
    let s := s.snapEntries p es
    let s := s.setCopyUnit { s.copy with missing := s.copy.missing &&& ~~~(1#16 <<< p.val) }
    if s.copy.missing = 0 then s.endSnapq else s.sendSnapq
  else s

/-- The station defers to a lower-numbered member's QUERY (R129). -/
def State.defer (s : State) : State :=
  let s := s.clearJob
  s.setSettle { s.settle with deference := some 0 }

/-- A QUERY (R121, R129). -/
def State.queryArrive (s : State) (sender : Station) (r : Round) (bitmap : List Byte) : State :=
  let taken := s.fullSender && s.isMember sender && !(bitmapBlocks bitmap).isEmpty
  let s := if s.isMember sender && decide (sender.val < s.own.val) then s.defer else s
  if taken then s.replyToQuery sender r bitmap else s

/-- A VERSIONS frame (R123, R125). -/
def State.versionsArrive (s : State) (sender : Station) (r : Round) (last : Bool) (es : List VersionsEntry) : State :=
  if s.takesVersions sender r es then
    let s := s.foldVersions sender last es
    if s.allAnswered then s.decideJob else s
  else s

/-- A DIGEST (R135). -/
def State.digestArrive (s : State) (sender : Station) (es : List DigestEntry) : State :=
  es.foldl (fun s d => s.digestEntry sender d) s

/-! ## Delivery (R165, R89, R71) -/

/-- An accepted sequenced frame at its handling unit (R71). -/
def State.accept (s : State) (f : Frame) : State :=
  match f.payload with
  | .admission j _ => s.admitArrive j
  | .exclude p c => s.excludeArrive f.sender p c
  | .update b e v es => s.updateArrive f.sender b e v es
  | .handover n es => es.foldl (fun s h => s.handoverEntry f.sender n h) s
  | .settle _ es => es.foldl (fun s t => s.settleEntry f.sender t) s
  | .status .. | .join | .claim .. | .fetch .. | .copyOk .. | .copyNotCurrent .. | .snapq .. | .snap .. | .query ..
  | .versions .. | .digest .. => s

/-- A sequenced frame at the Sequencing Unit (R71). -/
def State.sequenced (s : State) (f : Frame) : State :=
  let j := s.judgeSeq f.sender f.seq
  let s := s.noteJudgement f.sender f.seq j
  if j = .accepted then s.accept f else s

/-- A frame of the remaining kinds at its unit (Table 10-6). -/
def State.unsequenced (s : State) (f : Frame) : State :=
  match f.payload with
  | .claim b _ => s.claimArrive f.sender b
  | .fetch b => s.fetchArrive f.sender b
  | .copyOk b v ws => s.copyOkArrive b v ws
  | .copyNotCurrent b _ => s.copyNotCurrentArrive f.sender b
  | .snapq m => s.snapqArrive f.sender m
  | .snap p es => s.snapArrive f.sender p es
  | .query r bm => s.queryArrive f.sender r bm
  | .versions r last es => s.versionsArrive f.sender r last es
  | .digest es => s.digestArrive f.sender es
  | .status .. | .join | .admission .. | .update .. | .handover .. | .exclude .. | .settle .. => s

/-- A well-formed frame addressed here, in CATCHUP, LIVE or LEAVING (R165, R89). -/
def State.deliverActive (s : State) (f : Frame) : State :=
  match f.payload with
  | .status shown mask _ known receipts welcome =>
    if s.isMember f.sender then s.memberStatus f.sender shown mask known receipts welcome
    else s.foreignStatus shown mask
  | .join => s.joinArrive f.sender
  | p =>
    if p.kind.sequenced then s.sequenced f
    else if (s.peer f.sender).state = .excluded then s
    else s.unsequenced f

/-- A well-formed frame addressed here, in JOINING: the ADMIT of R72 (R165). -/
def State.deliverJoining (s : State) (f : Frame) : State :=
  match f.payload with
  | .admission j mask => if j = s.own then s.admitted f.sender f.seq mask else s
  | _ => s

/-- A good frame of kind k is heard: a JOIN does not count (R79, R80). -/
def State.heard (s : State) (k : Kind) : State :=
  if k = .join then s
  else match s.state with
    | .listening => s.enterJoining
    | .joining => s.setMember { s.member with listen := some 0 }
    | .offline | .catchup | .live | .leaving | .departed | .isolated | .halted => s

/-- A well-formed frame addressed here is delivered (R165). -/
def State.deliver (s : State) (f : Frame) : State :=
  if s.active then s.deliverActive f
  else if s.state = .joining then (s.heard f.payload.kind).deliverJoining f
  else s.heard f.payload.kind

/-! ## The steps of R161 -/

/-- A malformed frame (R163). -/
def State.malformed (s : State) (l : LaneId) (r : RawFrame) : State :=
  s.offer { cls := .malformedFrame, peer := if r.sender = 0 then none else some r.sender, lane := some l
            detail := r.kind.setWidth 16 }

/-- A member's silence timer restarts (R90). -/
def State.hear (s : State) (p : Station) : State :=
  if s.isMember p then s.setPeer p { s.peer p with silence := some 0 } else s

/-- The steps from the kind on, for a frame of kind k (R161, R164). -/
def State.judgeKind (s : State) (l : LaneId) (r : RawFrame) (k : Kind) : State :=
  if k.toOne ≠ decide (r.target ≠ 0) then s.malformed l r
  else if k.toOne = true ∧ r.target ≠ s.own then s.heard k
  else match readPayload k r.sender r.payload with
    | none => s.malformed l r
    | some p => s.deliver { sender := r.sender, target := r.target, seq := r.seq, payload := p }

/-- A good frame from an UP lane at the Frame Decoder (R161, R85). -/
def State.judgeFrame (s : State) (l : LaneId) (r : RawFrame) : State :=
  if r.sender = 0 then s.malformed l r
  else if r.sender = s.own then (if s.state = .halted then s else s.clash l r.kind)
  else
    let s := s.hear r.sender
    match Kind.ofCode r.kind with
    | none => s.malformed l r
    | some k => s.judgeKind l r k

/-! ## A frame's end on a lane (R143, R144) -/

/-- A good frame on an UP lane: weighed, then passed to the Frame Decoder (R144, R145). -/
def State.goodFrame (s : State) (l : LaneId) (f : FrameBuffer) : State :=
  let s := s.weigh l (frameNoise f) 1
  if s.state = .offline then s else s.judgeFrame l (rawFrame f.chars)

/-- The frame in a lane's buffer has ended, and is judged good or bad (R144). -/
def State.judgeBuffer (s : State) (l : LaneId) (f : FrameBuffer) : State :=
  match f.verdict with
  | some _ => s.badFrame l f
  | none => if s.laneUp l then s.goodFrame l f else s.probationFrame l f

/-- A frame row: the characters it brings have come in with the 2 ct of idle after them, and where a frame is in progress
and the line has been idle for 2 ct it ends and is judged (R140, R143, R144). An OFF or DOWN lane takes nothing, and a
lane this station drives carries its own readback (R139, R144). -/
def State.frameIn (s : State) (rx : RxFrame) : State :=
  let s := s.bring rx.lane rx.line
  if (s.lane rx.lane).hears then
    let l := (s.lane rx.lane).hearAll rx.chars
    let s := s.setLane rx.lane l
    if 0 < l.buffer.count ∧ Config.frameEnd ≤ l.idle then (s.frameEnds rx.lane).judgeBuffer rx.lane l.buffer else s
  else s

end Sys2Proof.Machine
end

