-- ==== Sys2Proof/Machine/Flags.lean ====
section
/-! DEFINITION. What the outside sees: the pins WAIT, ATTN, TXEN and TX, and the words the local port reads (R1, R168, R171, R172, R174, R175). -/

namespace Sys2Proof.Machine

/-! ## Pins -/

/-- WAIT (R36, R175). -/
def State.waitPin (s : State) : Bool := !s.resetLow && s.write.waiting.isSome

/-- ATTN (R172, R175). -/
def State.attnPin (s : State) : Bool :=
  !s.resetLow && (!s.log.records.isEmpty || s.log.mask ≠ 0 || !s.port.notices.isEmpty || s.port.overflow)

/-- TXENA and TXENB (R139, R175). -/
def State.txenPin (s : State) (l : LaneId) : Bool := !s.resetLow && (s.lane l).driving

/-- TXA and TXB over bit i of the character time in hand: the bits of the character being sent, space in an abort mark,
mark at all other times; true is mark (R139, R150, R175). -/
def State.txPin (s : State) (l : LaneId) (i : Fin 10) : Bool :=
  if s.resetLow then true
  else match (s.lane l).access with
    | .sending => i.val = 9 || (decide (1 ≤ i.val) && (s.sending l).getLsbD (i.val - 1))
    | .aborting => false
    | .idle | .deferring => true

/-! ## Station-area words (Table 11-5) -/

/-- A word of a value shifted to its place. -/
def at_ (n : Nat) (w : Word) : Word := w <<< n

/-- A station number as a word. -/
def stationWord (p : Station) : Word := BitVec.ofNat 16 p.val

/-- 0x2000: state, own number, registrar. -/
def State.stateWord (s : State) : Word :=
  s.state.code ||| at_ 4 (stationWord s.own) ||| at_ 8 (stationWord s.member.registrar)

/-- 0x2001 and 0x2002: lane state and error score. -/
def State.laneWord (s : State) (l : LaneId) : Word := (s.lane l).state.code ||| at_ 8 (BitVec.ofNat 16 (s.lane l).score)

/-- 0x2003: the members mask; this station in CATCHUP, LIVE and LEAVING (R77). -/
def State.membersWord (s : State) : Word := maskOf (fun p => if p = s.own then s.active else s.isMember p)

/-- 0x2004: the LIVE mask (R77). -/
def State.liveWord (s : State) : Word :=
  maskOf (fun p => if p = s.own then s.state = .live else (s.peer p).state = .live)

/-- The lane code of an incident: 0 none, 1 A, 2 B. -/
def laneCode : Option LaneId → Word
  | none => 0
  | some .A => 1
  | some .B => 2

/-- 0x2008 to 0x200D: the head words of a record (R168). -/
def Incident.flagsWord (i : Incident) : Word :=
  0x8000 ||| at_ 12 (laneCode i.what.lane) ||| at_ 8 (stationWord (i.what.peer.getD 0)) ||| BitVec.ofNat 16 i.what.cls.code

def Incident.blockWord (i : Incident) : Word :=
  match i.what.block with
  | none => 0
  | some b => 0x8000 ||| BitVec.ofNat 16 b.val

/-- A word of the head record, 0 while the list is empty (R168). -/
def State.headWord (s : State) (f : Incident → Word) : Word :=
  match s.log.records with
  | [] => 0
  | i :: _ => f i

/-- The copy-state codes (Table 1-2). -/
def CopyState.code : CopyState → Nat
  | .unknown => 0 | .stale => 1 | .fetching => 2 | .current => 3

/-- The held-or-claim mark (R24, R40). -/
def State.heldOrClaim (s : State) (b : Block) : Bool := s.hasHeld b || (s.claimSlot b).isSome

/-- A block's code in the block-state view (R174). -/
def State.blockCode (s : State) (b : Block) : Nat :=
  (s.entry b).copy.code + (if s.owned b then 4 else 0) + (if s.heldOrClaim b then 8 else 0)

/-- Word i of a view: blocks 4i to 4i + 3, block 4i in the low four bits (R174). -/
def viewWord (code : Block → Nat) (i : Nat) : Word :=
  BitVec.ofNat 16 (code (Fin.ofNat 256 (4 * i)) + 16 * code (Fin.ofNat 256 (4 * i + 1))
    + 256 * code (Fin.ofNat 256 (4 * i + 2)) + 4096 * code (Fin.ofNat 256 (4 * i + 3)))

/-- Word i of the watch map: blocks 16i to 16i + 15, block 16i in bit 0 (R174). -/
def State.watchWord (s : State) (i : Nat) : Word := s.port.watch.extractLsb' (16 * i) 16

/-- What a read of NOTICE returns (R171). -/
def LocalPort.noticeWord (p : LocalPort) : Word :=
  match p.notices with
  | b :: _ => BitVec.ofNat 16 b.val
  | [] => if p.overflow then 0xFFFE else 0xFFFF

/-- A word of the station area from 0x2000 on (Table 11-5); addresses the table does not name read 0. -/
def State.areaWord (s : State) (n : Nat) : Word :=
  if n = 0x2000 then s.stateWord
  else if n = 0x2001 then s.laneWord .A
  else if n = 0x2002 then s.laneWord .B
  else if n = 0x2003 then s.membersWord
  else if n = 0x2004 then s.liveWord
  else if n = 0x2005 then s.port.command
  else if n = 0x2006 then s.port.result
  else if n = 0x2008 then s.headWord Incident.flagsWord
  else if n = 0x2009 then s.headWord Incident.number
  else if n = 0x200A then s.headWord Incident.blockWord
  else if n = 0x200B then s.headWord (fun i => i.what.detail)
  else if n = 0x200C then s.headWord (fun i => i.time.extractLsb' 16 16)
  else if n = 0x200D then s.headWord (fun i => i.time.extractLsb' 0 16)
  else if n = 0x200E then s.log.counter
  else if n = 0x2010 then BitVec.ofNat 16 s.log.records.length
  else if n = 0x2011 then s.log.mask
  else if n = 0x2012 then s.port.noticeWord
  else if 0x2020 ≤ n ∧ n ≤ 0x202F then s.watchWord (n - 0x2020)
  else if 0x2040 ≤ n ∧ n ≤ 0x207F then viewWord s.blockCode (n - 0x2040)
  else if 0x2080 ≤ n ∧ n ≤ 0x20BF then viewWord (fun b => (s.entry b).owner.val) (n - 0x2080)
  else 0

/-- What a read at a local address returns; a read changes nothing but for NOTICE, whose pop is the row NOTICE_READ (R1,
R171, R174, R175). -/
def State.readPort (s : State) (addr : BitVec 14) : Word :=
  if s.resetLow then 0
  else if addr.toNat < 0x2000 then s.window.read addr.toNat
  else s.areaWord addr.toNat

end Sys2Proof.Machine
end

