-- ==== Sys2Proof/Machine/Clock.lean ====
section
/-! DEFINITION. One character time: every running timer counts, the lanes move one character on (R139, R140), and the timers that reach their limit put their rows into the queue (log entry 2). -/

namespace Sys2Proof.Machine

/-- A running timer counts 1 ct. -/
def bump (t : Option Nat) : Option Nat := t.map (· + 1)

def WriteUnit.tick (w : WriteUnit) : WriteUnit :=
  { w with
    batch := w.batch.map (fun t => { t with age := t.age + 1 })
    waiting := w.waiting.map (fun x => { x with waited := x.waited + 1 }) }

def ClaimUnit.tick (c : ClaimUnit) : ClaimUnit :=
  { c with slots := c.slots.map (fun x => { x with timer := bump x.timer }) }

/-- The receipt age counts up to 64 ct (Table 4-1). -/
def SeqUnit.tick (q : SeqUnit) : SeqUnit :=
  { q with
    queue := q.queue.map (fun e => { e with timer := bump e.timer })
    age := q.age.map (fun n => min (n + 1) Config.receiptAge) }

def MemberUnit.tick (m : MemberUnit) : MemberUnit :=
  { m with
    peers := mapTable (fun p => { p with silence := bump p.silence }) m.peers
    listen := bump m.listen, join := bump m.join }

def CopyUnit.tick (c : CopyUnit) : CopyUnit :=
  { c with
    slots := c.slots.map (fun x => { x with timer := x.timer + 1 })
    holds := c.holds.map (fun h => (h.1, h.2 + 1))
    snapq := bump c.snapq }

def SettleUnit.tick (t : SettleUnit) : SettleUnit :=
  { t with queryTimer := bump t.queryTimer, deference := bump t.deference }

def AuditUnit.tick (a : AuditUnit) : AuditUnit := { a with timer := bump a.timer }

/-- A sending lane over 1 ct: the controller moves one character on, and the Lane Interface samples what it reads back,
whose noise weighs nothing and whose space is no space run (R139, R142, R150, Table 9-3; log entry 35). -/
def Lane.sendOn (l : Lane) (sent : Byte) : Lane :=
  let r := l.sample (l.line.headD (.char (cleanChar sent)))
  { r with
    buffer := { r.buffer with noisy := l.buffer.noisy }, shift := [], spaceRun := 0
    progress := l.progress + 1, readback := l.readsBack sent, line := l.line.tail }

/-- A lane not driven over 1 ct: it samples its line, and its own frame, sent whole, ends at 2 ct of idle and is passed to
no unit (R140 to R144). -/
def Lane.listenOn (l : Lane) : Lane :=
  let r := l.sample (l.line.headD .mark)
  { r with
    buffer := if r.buffer.isReadback && decide (Config.frameEnd ≤ r.idle) then FrameBuffer.empty else r.buffer
    line := l.line.tail }

/-- A lane over 1 ct, `sent` the character it is sending if it sends: a DOWN lane rests, a driven one moves on, any other
samples its line (R139 to R144, R147, R149, R150). -/
def Lane.tick (l : Lane) (sent : Byte) : Lane :=
  match l.state, l.access with
  | .off, _ => { l with line := l.line.tail }
  | .down, _ => { l with rest := bump l.rest, line := l.line.tail }
  | _, .sending => l.sendOn sent
  | _, .aborting => { l with abortTime := l.abortTime + 1, idle := 0, spaceRun := 0, shift := [], line := l.line.tail }
  | _, .idle | _, .deferring => l.listenOn

/-- The state one character time on (R166). -/
def State.tick (s : State) : State :=
  { s with
    clock := s.clock + 1
    write := s.write.tick
    claim := s.claim.tick
    seq := s.seq.tick
    member := s.member.tick
    copy := s.copy.tick
    settle := s.settle.tick
    audit := s.audit.tick
    laneA := s.laneA.tick (s.sending .A)
    laneB := s.laneB.tick (s.sending .B)
    select := { s.select with heartbeat := bump s.select.heartbeat } }

/-- A row, where a timer stands at its limit. -/
def rowAt (t : Option Nat) (limit : Nat) (row : Instr) : List Instr := if t = some limit then [row] else []

/-- The row of a frame that has ended on lane l with this in its buffer, by Tables 9-2 and 10-2; a kind byte of no row comes
by STATUS_RECEIVED (log entry 18). -/
def State.frameRow (s : State) (l : LaneId) (f : FrameBuffer) : Instr :=
  let rx : RxFrame := { lane := l, chars := [], line := [] }
  if f.verdict ≠ none then .badFrameReceived rx
  else if (s.lane l).state = .probation then .probationFrameReceived rx
  else ((Kind.ofCode (f.chars.getD 0 0)).getD .status).row rx

/-- What the line of a lane brings about at this character time: a frame ends at 2 ct of idle (R143), or the space run
passes 64 ct (R142). -/
def State.lineRows (s : State) (l : LaneId) : List Instr :=
  if (s.lane l).hears then
    (if 0 < (s.lane l).buffer.count ∧ (s.lane l).idle = Config.frameEnd then [s.frameRow l (s.lane l).buffer] else [])
      ++ (if Config.stuckRun < (s.lane l).spaceRun then [.stuckLine l] else [])
  else []

/-- The rows of one lane that fall due now (R141 to R143, R147, R149, R150). -/
def State.laneRows (s : State) (l : LaneId) : List Instr :=
  rowAt (s.lane l).rest Config.laneRest (.laneRestEnd l)
    ++ (match (s.lane l).access with
        | .idle => []
        | .deferring => rowAt (some (s.lane l).idle) (s.lane l).required (.attemptStart l)
        | .sending =>
          if s.readsBackEqual l then rowAt (some (s.lane l).progress) s.currentLength (.frameSent l)
          else [.collision l (s.lane l).readback]
        | .aborting => rowAt (some (s.lane l).abortTime) Config.abortMark (.abortMarkEnd l))
    ++ s.lineRows l

/-- The timer of the head of the replay queue (R64). -/
def State.headTimer (s : State) : Option Nat :=
  match s.seq.queue with
  | [] => none
  | e :: _ => e.timer

/-- The rows that fall due at this character time. -/
def State.dueRows (s : State) : List Instr :=
  rowAt (s.write.batch.map OpenBatch.age) Config.batchHold .batchHold
    ++ rowAt (s.write.waiting.map WaitingWrite.waited) Config.waitLimit .waitLimit
    ++ s.claim.slots.flatMap (fun c => rowAt c.timer Config.claimTimeout (.claimTimeout c.block))
    ++ rowAt s.headTimer Config.replayTimeout .replayTimeout
    ++ (if s.seq.urgent then [] else rowAt s.seq.age Config.receiptAge .receiptAgeLimit)
    ++ rowAt s.member.listen Config.listenLimit .listenTimeout
    ++ rowAt s.member.join Config.heartbeat .joinTimeout
    ++ stations.flatMap (fun p => rowAt (s.peer p).silence Config.silenceLimit (.silenceTimeout p))
    ++ rowAt s.copy.snapq Config.snapqTimeout .snapqTimeout
    ++ s.copy.slots.flatMap (fun c => rowAt (some c.timer) Config.fetchTimeout (.fetchTimeout c.block))
    ++ s.copy.holds.flatMap (fun h => rowAt (some h.2) Config.heartbeat (.holdEnd h.1))
    ++ rowAt s.settle.queryTimer Config.queryTimeout .queryTimeout
    ++ rowAt s.settle.deference Config.deference .deferenceEnd
    ++ rowAt s.audit.timer Config.digestInterval .digestTimeout
    ++ rowAt s.select.heartbeat Config.heartbeat .heartbeatTimeout
    ++ s.laneRows .A ++ s.laneRows .B

/-- The rows that fall due are put into the queue, in a free order (log entry 3). -/
def State.queueDue (s : State) : State :=
  let order := arrange s.dueRows.length s.freeCount s.dueRows
  { s with pending := s.pending ++ order.1, freeCount := order.2 }

/-- What happens when no command waits: one character time passes; none while RESET is low (R175). -/
def State.idle (s : State) : State := if s.resetLow then s else s.tick.queueDue

end Sys2Proof.Machine
end

