-- ==== Sys2Proof/Machine/Local.lean ====
section
/-! DEFINITION. The meanings of the local-write rows: LOCAL_WRITE, WAITING_WRITE_JUDGED, WAIT_LIMIT, BATCH_HOLD, DUE_BATCH_CLOSE, HELD_WRITE_COMMIT (chapter 2). -/

namespace Sys2Proof.Machine

open Host (Outcome)

/-- A window write is latched and judged (R25, R26, R36). -/
def State.writeLatched (s : State) (a : WindowAddr) (x : Word) : State :=
  (s.setWrite { s.write with waiting := some { addr := a, value := x, waited := 0 } }).judgeWaiting

/-- LOCAL_WRITE (R26). An address outside the window is not a window write and changes nothing here. -/
def execLocalWrite (addr : BitVec 14) (x : Word) (s : State) : Outcome State Fault Refusal :=
  .next (if h : addr.toNat < 8192 then s.portEvent (fun s => s.writeLatched ⟨addr.toNat, h⟩ x) else s)

/-- WAITING_WRITE_JUDGED (R36). -/
def execWaitingWriteJudged (s : State) : Outcome State Fault Refusal := .next (s.event State.judgeWaiting)

/-- The waiting write is dropped at the WAIT limit (R37); before it, nothing (log entry 5). -/
def State.dropWaiting (s : State) : State :=
  match s.write.waiting with
  | none => s
  | some w =>
    if Config.waitLimit ≤ w.waited then
      (s.setWrite { s.write with waiting := none }).offer
        { cls := .writeDropped, block := some (blockOf w.addr), detail := BitVec.ofNat 16 (offsetOf w.addr).val }
    else s

/-- WAIT_LIMIT (R37). -/
def execWaitLimit (s : State) : Outcome State Fault Refusal := .next (s.event State.dropWaiting)

/-- The batch hold: the batch closes or is due (R29, R30). -/
def State.holdReached (s : State) : State :=
  if s.write.batch.any (fun t => decide (Config.batchHold ≤ t.age) && !t.due) then s.closeOrDue else s

/-- BATCH_HOLD (R29). -/
def execBatchHold (s : State) : Outcome State Fault Refusal := .next (s.event State.holdReached)

/-- A due batch closes where a general slot is free (R30). -/
def State.closeDueBatch (s : State) : State :=
  if s.freeGeneral && s.write.batch.any OpenBatch.due then s.closeBatch else s

/-- DUE_BATCH_CLOSE (R30). -/
def execDueBatchClose (s : State) : Outcome State Fault Refusal := .next (s.event State.closeDueBatch)

/-- A block that can commit commits (R34). -/
def State.commitIfReady (s : State) (b : Block) : State := if s.commitReady.contains b then s.commitHeld b else s

/-- HELD_WRITE_COMMIT b (R34). -/
def execHeldWriteCommit (b : Block) (s : State) : Outcome State Fault Refusal := .next (s.event (·.commitIfReady b))

end Sys2Proof.Machine
end

