-- ==== Sys2Proof/Machine/Commands.lean ====
section
/-! DEFINITION. The meanings of the COMMAND rows: COMMIT, CLAIM, REFRESH, LEAVE, REJOIN and an unknown code (R31, R46, R86, R100, R114, R173). -/

namespace Sys2Proof.Machine

open Host (Outcome)

/-- The result codes (section 11.4). -/
inductive CommandResult | accepted | refusedState | refusedBusy | refusedArg
  deriving DecidableEq, Repr

def CommandResult.code : CommandResult → Byte
  | .accepted => 1 | .refusedState => 2 | .refusedBusy => 3 | .refusedArg => 4

/-- The command word is kept and the result placed beside its code, then the command has its effect (R173, R78). -/
def State.commandWith (s : State) (code low : Byte) (r : CommandResult) (f : State → State) : State :=
  f (s.setPort { s.port with command := wordOf code low, result := wordOf code r.code })

/-- COMMIT (R31). -/
def judgeCommit (s : State) : CommandResult × (State → State) :=
  if s.state ≠ .live then (.refusedState, id) else (.accepted, State.closeOrDue)

/-- COMMAND CLAIM b (Table 3-2). -/
def judgeClaim (b : Block) (s : State) : CommandResult × (State → State) :=
  if s.state ≠ .live then (.refusedState, id)
  else if s.owned b then (.refusedArg, id)
  else if (s.claimSlot b).isSome then (.accepted, id)
  else if Config.claimSlots ≤ s.claim.slots.length then (.refusedBusy, id)
  else (.accepted, (·.openClaim b false))

/-- COMMAND REFRESH b (Table 6-3); an UNKNOWN block, which a LIVE station does not hold, is refused (log entry 16). -/
def judgeRefresh (b : Block) (s : State) : CommandResult × (State → State) :=
  if s.state ≠ .live then (.refusedState, id)
  else if s.owned b then (.refusedArg, id)
  else match (s.entry b).copy with
    | .fetching => (.refusedBusy, id)
    | .current => (.accepted, (·.makeStale b))
    | .stale => (.accepted, (·.endHold b))
    | .unknown => (.refusedArg, id)

/-- A CATCHUP station asks to leave: leave pending, and its own EXCLUDE is asked for (R100). -/
def State.leavePending (s : State) : State :=
  (s.setMember { s.member with leavePending := true }).askExclude s.own .leave

/-- COMMAND LEAVE (Table 5-9). -/
def judgeLeave (s : State) : CommandResult × (State → State) :=
  match s.state with
  | .listening | .joining => (.accepted, (·.depart 0))
  | .catchup => if s.member.leavePending then (.refusedBusy, id) else (.accepted, State.leavePending)
  | .live => (.accepted, State.enterLeaving)
  | .leaving => (.refusedBusy, id)
  | .offline | .departed | .isolated | .halted => (.refusedState, id)

/-- COMMAND REJOIN (R86). -/
def judgeRejoin (s : State) : CommandResult × (State → State) :=
  if s.state = .departed ∨ s.state = .halted then (.accepted, State.enterListening) else (.refusedState, id)

/-- A code outside Table 11-4 (R173). -/
def judgeUnknown (_ : State) : CommandResult × (State → State) := (.refusedArg, id)

/-! ## The COMMAND word (R173, Table 11-4) -/

/-- The table that decides a command, by the code in the word's high byte; the low byte is the block where the command
takes one. -/
def judgeWord (code low : Byte) : State → CommandResult × (State → State) :=
  match code.toNat with
  | 1 => judgeCommit
  | 2 => judgeClaim (blockAt low)
  | 3 => judgeRefresh (blockAt low)
  | 4 => judgeLeave
  | 5 => judgeRejoin
  | _ => judgeUnknown

/-- A write of a word to COMMAND: REFUSED-STATE in OFFLINE whatever its code, else decided by its code's table (R78,
R173). -/
def State.command (s : State) (w : Word) : State :=
  let judge := judgeWord (hiByte w) (loByte w)
  if s.state = .offline then s.commandWith (hiByte w) (loByte w) .refusedState id
  else s.commandWith (hiByte w) (loByte w) (judge s).1 (judge s).2

/-- COMMIT (R31). -/
def execCommit (low : Byte) (s : State) : Outcome State Fault Refusal := .next (s.portEvent (·.command (wordOf 1 low)))

/-- CLAIM (R46). -/
def execClaim (b : Block) (s : State) : Outcome State Fault Refusal :=
  .next (s.portEvent (·.command (wordOf 2 (byteOf b.val))))

/-- REFRESH (R114). -/
def execRefresh (b : Block) (s : State) : Outcome State Fault Refusal :=
  .next (s.portEvent (·.command (wordOf 3 (byteOf b.val))))

/-- LEAVE (R100). -/
def execLeave (low : Byte) (s : State) : Outcome State Fault Refusal := .next (s.portEvent (·.command (wordOf 4 low)))

/-- REJOIN (R86). -/
def execRejoin (low : Byte) (s : State) : Outcome State Fault Refusal := .next (s.portEvent (·.command (wordOf 5 low)))

/-- COMMAND_UNKNOWN (R173). -/
def execCommandUnknown (code low : Byte) (s : State) : Outcome State Fault Refusal :=
  .next (s.portEvent (·.command (wordOf code low)))

/-- The command a word written to COMMAND gives (R173, Table 11-4). -/
def commandOfWord (w : Word) : Instr :=
  match (hiByte w).toNat with
  | 1 => .commit (loByte w)
  | 2 => .claim (blockAt (loByte w))
  | 3 => .refresh (blockAt (loByte w))
  | 4 => .leave (loByte w)
  | 5 => .rejoin (loByte w)
  | _ => .commandUnknown (hiByte w) (loByte w)

/-- The command a write cycle of a word to a local address is (R1, R174, Table 11-5). -/
def commandOfWrite (addr : BitVec 14) (w : Word) : Instr :=
  if addr.toNat < 0x2000 then .localWrite addr w
  else if addr.toNat = 0x2005 then commandOfWord w
  else if addr.toNat = 0x200F then .incidentAck w
  else if addr.toNat = 0x2011 then .unrecordedMaskWrite w
  else if 0x2020 ≤ addr.toNat ∧ addr.toNat ≤ 0x202F then .watchMapWrite (Fin.ofNat 16 (addr.toNat - 0x2020)) w
  else .stationAreaWriteIgnored addr w

end Sys2Proof.Machine
end

