-- ==== Sys2Proof/Machine/Port.lean ====
section
/-! DEFINITION. The meanings of the station-area rows: INCIDENT_ACK, UNRECORDED_MASK_WRITE, NOTICE_READ, WATCH_MAP_WRITE, STATION_AREA_WRITE_IGNORED (R23, R169 to R171, R174). -/

namespace Sys2Proof.Machine

open Host (Outcome)

/-- The head leaves where the word is its number (R169). -/
def IncidentLog.ack (g : IncidentLog) (w : Word) : IncidentLog :=
  match g.records with
  | i :: rest => if i.number = w then { g with records := rest } else g
  | [] => g

/-- INCIDENT_ACK (R169). -/
def execIncidentAck (w : Word) (s : State) : Outcome State Fault Refusal :=
  .next (s.portAccess (fun s => s.setLog (s.log.ack w)))

/-- UNRECORDED_MASK_WRITE: ones clear (R170). -/
def execUnrecordedMaskWrite (w : Word) (s : State) : Outcome State Fault Refusal :=
  .next (s.portAccess (fun s => s.setLog { s.log with mask := s.log.mask &&& ~~~w }))

/-- A read of NOTICE: the word driven, and the pop or the clearing of the overflow flag (R171). -/
def LocalPort.readNotice (p : LocalPort) : LocalPort :=
  match p.notices with
  | _ :: rest => { p with notices := rest, dataOut := p.noticeWord }
  | [] => { p with overflow := false, dataOut := p.noticeWord }

/-- NOTICE_READ (R171). -/
def execNoticeRead (s : State) : Outcome State Fault Refusal :=
  .next (s.portAccess (fun s => s.setPort s.port.readNotice))

/-- The watch map with word i replaced (R174). -/
def watchWith (map : BitVec 256) (i : Nat) (w : Word) : BitVec 256 :=
  (map &&& ~~~((0xFFFF#256) <<< (16 * i))) ||| (w.setWidth 256 <<< (16 * i))

/-- WATCH_MAP_WRITE (R23, R174). -/
def execWatchMapWrite (i : Fin 16) (w : Word) (s : State) : Outcome State Fault Refusal :=
  .next (s.portAccess (fun s => s.setPort { s.port with watch := watchWith s.port.watch i.val w }))

/-- STATION_AREA_WRITE_IGNORED (R174). -/
def execStationAreaWriteIgnored (_addr : BitVec 14) (_w : Word) (s : State) : Outcome State Fault Refusal := .next s

end Sys2Proof.Machine
end

