-- ==== Sys2Proof/Machine/Reset.lean ====
section
/-! DEFINITION. The meanings of RESET_ASSERT and RESET_RELEASE (R175, R78, R138). -/

namespace Sys2Proof.Machine

open Host (Outcome)

/-- RESET goes low: sending stops, a waiting write is discarded, the incident list is cleared (R175). The rest is set at
the rising edge (log entry 10). -/
def State.resetFalls (s : State) : State :=
  let s := (s.silence.setWrite { s.write with waiting := none }).setLog IncidentLog.reset
  { s with resetLow := true }

/-- RESET_ASSERT (R175). -/
def execResetAssert (s : State) : Outcome State Fault Refusal := .next s.resetFalls

/-- RESET_RELEASE: the straps are sampled and every unit takes its reset values (R175, R78, R138). The queue is the
model's, and stays. -/
def execResetRelease (stn : Station) (dual : Bool) (rate : BitVec 2) (s : State) : Outcome State Fault Refusal :=
  .next ((State.released stn dual rate).setPending s.pending)

end Sys2Proof.Machine
end

