-- ==== Sys2Proof/Machine/Frames.lean ====
section
/-! DEFINITION. The meanings of the frame rows: a frame of each kind comes in on a lane, or a bad one, or one on a PROBATION lane (R144, R148, R161, R165). What a frame is stands in its characters; the row names it (log entry 18). -/

namespace Sys2Proof.Machine

open Host (Outcome)

/-- STATUS_RECEIVED (R88). -/
def execStatusReceived (rx : RxFrame) (s : State) : Outcome State Fault Refusal := .next (s.event (·.frameIn rx))

/-- JOIN_RECEIVED (R92). -/
def execJoinReceived (rx : RxFrame) (s : State) : Outcome State Fault Refusal := .next (s.event (·.frameIn rx))

/-- ADMIT_RECEIVED (R72, R93). -/
def execAdmitReceived (rx : RxFrame) (s : State) : Outcome State Fault Refusal := .next (s.event (·.frameIn rx))

/-- UPDATE_RECEIVED (R13, R14). -/
def execUpdateReceived (rx : RxFrame) (s : State) : Outcome State Fault Refusal := .next (s.event (·.frameIn rx))

/-- CLAIM_RECEIVED (R47). -/
def execClaimReceived (rx : RxFrame) (s : State) : Outcome State Fault Refusal := .next (s.event (·.frameIn rx))

/-- HANDOVER_RECEIVED (R16, R17, R54). -/
def execHandoverReceived (rx : RxFrame) (s : State) : Outcome State Fault Refusal := .next (s.event (·.frameIn rx))

/-- EXCLUDE_RECEIVED (R96, R97). -/
def execExcludeReceived (rx : RxFrame) (s : State) : Outcome State Fault Refusal := .next (s.event (·.frameIn rx))

/-- FETCH_RECEIVED (R116). -/
def execFetchReceived (rx : RxFrame) (s : State) : Outcome State Fault Refusal := .next (s.event (·.frameIn rx))

/-- COPY_RECEIVED (R111, R15). -/
def execCopyReceived (rx : RxFrame) (s : State) : Outcome State Fault Refusal := .next (s.event (·.frameIn rx))

/-- SNAPQ_RECEIVED (R116). -/
def execSnapqReceived (rx : RxFrame) (s : State) : Outcome State Fault Refusal := .next (s.event (·.frameIn rx))

/-- SNAP_RECEIVED (R106, R19). -/
def execSnapReceived (rx : RxFrame) (s : State) : Outcome State Fault Refusal := .next (s.event (·.frameIn rx))

/-- QUERY_RECEIVED (R121, R129). -/
def execQueryReceived (rx : RxFrame) (s : State) : Outcome State Fault Refusal := .next (s.event (·.frameIn rx))

/-- VERSIONS_RECEIVED (R123). -/
def execVersionsReceived (rx : RxFrame) (s : State) : Outcome State Fault Refusal := .next (s.event (·.frameIn rx))

/-- SETTLE_RECEIVED (R131, R18). -/
def execSettleReceived (rx : RxFrame) (s : State) : Outcome State Fault Refusal := .next (s.event (·.frameIn rx))

/-- DIGEST_RECEIVED (R135, R136). -/
def execDigestReceived (rx : RxFrame) (s : State) : Outcome State Fault Refusal := .next (s.event (·.frameIn rx))

/-- BAD_FRAME_RECEIVED (R144, R145). -/
def execBadFrameReceived (rx : RxFrame) (s : State) : Outcome State Fault Refusal := .next (s.event (·.frameIn rx))

/-- PROBATION_FRAME_RECEIVED (R148). -/
def execProbationFrameReceived (rx : RxFrame) (s : State) : Outcome State Fault Refusal :=
  .next (s.event (·.frameIn rx))

end Sys2Proof.Machine
end

