-- ==== Sys2Proof/Machine/Medium.lean ====
section
/-! DEFINITION. The meanings of the lane rows: ABORT_MARK_RECEIVED, STUCK_LINE, LANE_REST_END, ATTEMPT_START, COLLISION, ABORT_MARK_END, FRAME_SENT (R141, R142, R147, R149 to R152). -/

namespace Sys2Proof.Machine

open Host (Outcome)

/-- The space run reaches 12 bit times: the frame in progress is discarded (R141). A mark that the line has not carried
cell by cell comes with this row alone; it is 2 ct long (R150), so the line is at space for the character time to come
(log entry 24). -/
def State.abortMark (s : State) (l : LaneId) : State :=
  let lane := s.lane l
  if lane.hears then
    s.setLane l { lane with
      buffer := FrameBuffer.empty, shift := [], spaceRun := max Config.abortRun lane.spaceRun, idle := 0
      line := if lane.spaceRun < Config.abortRun then .space :: lane.line else lane.line }
  else s

/-- ABORT_MARK_RECEIVED (R141). -/
def execAbortMarkReceived (l : LaneId) (s : State) : Outcome State Fault Refusal :=
  .next (s.event (·.abortMark l))

/-- A stuck line: the space run exceeds 64 ct, and the lane enters DOWN (R142). -/
def State.stuckLine (s : State) (l : LaneId) : State :=
  if (s.lane l).hears ∧ Config.stuckRun < (s.lane l).spaceRun then s.laneDown l 2 else s

/-- STUCK_LINE (R142). -/
def execStuckLine (l : LaneId) (s : State) : Outcome State Fault Refusal := .next (s.event (·.stuckLine l))

/-- A DOWN lane whose rest is over enters PROBATION (R147). -/
def State.restEnd (s : State) (l : LaneId) : State :=
  if (s.lane l).state = .down ∧ (s.lane l).rest.any (fun t => decide (Config.laneRest ≤ t)) = true then
    s.setLane l (s.lane l).probation
  else s

/-- LANE_REST_END (R147). -/
def execLaneRestEnd (l : LaneId) (s : State) : Outcome State Fault Refusal := .next (s.event (·.restEnd l))

/-- A deferring controller whose idle time has come starts its attempt (R149). -/
def State.attemptStart (s : State) (l : LaneId) : State :=
  if (s.lane l).access = .deferring ∧ (s.lane l).required ≤ (s.lane l).idle then s.setLane l (s.lane l).startSending else s

/-- ATTEMPT_START (R149). -/
def execAttemptStart (l : LaneId) (s : State) : Outcome State Fault Refusal := .next (s.event (·.attemptStart l))

/-- A readback that differs from the character sent, has a framing error or is no character is a collision (R150). -/
def State.collision (s : State) (l : LaneId) (readback : Option RxChar) : State :=
  if (s.lane l).access = .sending ∧ collides (s.lastSent l) readback = true then s.setLane l (s.lane l).abort else s

/-- COLLISION (R150). -/
def execCollision (l : LaneId) (readback : Option RxChar) (s : State) : Outcome State Fault Refusal :=
  .next (s.event (·.collision l readback))

/-- The abort mark ends: backoff, or after the 16th attempt abandonment with its weight of 8 (R150, R151). -/
def State.abortMarkEnd (s : State) (l : LaneId) : State :=
  if (s.lane l).access = .aborting ∧ Config.abortMark ≤ (s.lane l).abortTime then
    if (s.lane l).attempt < Config.laneAttempts then s.setLane l ((s.lane l).retry s.own)
    else (s.laneDone l).weigh l 8 0
  else s

/-- ABORT_MARK_END (R150). -/
def execAbortMarkEnd (l : LaneId) (s : State) : Outcome State Fault Refusal := .next (s.event (·.abortMarkEnd l))

/-- The last character has been read back equal: the frame is sent on the lane (R149, R152). -/
def State.frameSent (s : State) (l : LaneId) : State :=
  if s.sentWhole l then s.laneDone l else s

/-- FRAME_SENT (R149). -/
def execFrameSent (l : LaneId) (s : State) : Outcome State Fault Refusal := .next (s.event (·.frameSent l))

end Sys2Proof.Machine
end

