-- ==== Sys2Proof/Machine/Sequence.lean ====
section
/-! DEFINITION. The meanings of the claim and replay rows: CLAIM_TIMEOUT, CLAIM_SLOT_GRANT, HANDOVER_SERVE, REPLAY_TIMEOUT, RECEIPT_AGE_LIMIT, WAITING_EXCLUDE_ENQUEUE (chapters 3 and 4). -/

namespace Sys2Proof.Machine

open Host (Outcome)

/-- A running timer has reached a limit. -/
def reached (t : Option Nat) (limit : Nat) : Bool := t.any (fun n => decide (limit ≤ n))

/-- A claim slot's timer has run out: the next attempt, or abandonment with its held writes (R43, R35). -/
def State.claimExpires (s : State) (b : Block) : State :=
  match s.claimSlot b with
  | none => s
  | some c =>
    if reached c.timer Config.claimTimeout then
      if c.attempt < Config.claimAttempts then (s.setClaimSlot b { c with attempt := c.attempt + 1 }).sendClaim b
      else if c.held then (s.closeClaim b).discardHeld b
      else s.closeClaim b
    else s

/-- CLAIM_TIMEOUT b (R43). -/
def execClaimTimeout (b : Block) (s : State) : Outcome State Fault Refusal := .next (s.event (·.claimExpires b))

/-- CLAIM_SLOT_GRANT (R41). -/
def execClaimSlotGrant (s : State) : Outcome State Fault Refusal := .next (s.event State.grantSlot)

/-- The oldest ready claimant is served where a general slot is free (R50, R51). -/
def State.serveIfFree (s : State) : State := if s.freeGeneral then s.serve else s

/-- HANDOVER_SERVE (R51). -/
def execHandoverServe (s : State) : Outcome State Fault Refusal := .next (s.event State.serveIfFree)

/-- The head's timer has run out: replay, or at the limit the exclusion of every laggard, or departure where the head is
this station's own EXCLUDE (R67, R68). The EXCLUDEs of several laggards take their seqs in ascending station order
(DESIGN CHOICE, log entry 27). -/
def State.replayExpires (s : State) : State :=
  match s.seq.queue with
  | [] => s
  | e :: _ =>
    if reached e.timer Config.replayTimeout then
      if e.count < Config.replayLimit then s.setSeq { s.seq with queue := replayMarks s.seq.queue }
      else if s.ownExclude e then s.depart 0
      else s.decideExcludes (s.laggards e.seq) .replay true
    else s

/-- REPLAY_TIMEOUT (R67, R68). -/
def execReplayTimeout (s : State) : Outcome State Fault Refusal := .next (s.event State.replayExpires)

/-- An owed receipt of 64 ct is urgent (R74). -/
def State.receiptAges (s : State) : State :=
  if s.seq.owed && reached s.seq.age Config.receiptAge then s.setSeq { s.seq with urgent := true } else s

/-- RECEIPT_AGE_LIMIT (R74). -/
def execReceiptAgeLimit (s : State) : Outcome State Fault Refusal := .next (s.event State.receiptAges)

/-- A waiting EXCLUDE is enqueued where an entry is free (R98, R69). -/
def State.enqueueIfFree (s : State) (p : Station) : State := if s.freeEntry then s.enqueueWaiting p else s

/-- WAITING_EXCLUDE_ENQUEUE p (R98). -/
def execWaitingExcludeEnqueue (p : Station) (s : State) : Outcome State Fault Refusal :=
  .next (s.event (·.enqueueIfFree p))

end Sys2Proof.Machine
end

