-- ==== Sys2Proof/Machine/Membering.lean ====
section
/-! DEFINITION. The meanings of the membership rows: LISTEN_TIMEOUT, JOIN_TIMEOUT, SILENCE_TIMEOUT, HEIR_HANDOVER, LEAVE_EXCLUDE_REQUEST, DEPARTURE_END (chapter 5). -/

namespace Sys2Proof.Machine

open Host (Outcome)

/-- The listen timer has run out: the station founds a group (R79, R80, R81). -/
def State.listenExpires (s : State) : State :=
  if (s.state = .listening ∨ s.state = .joining) ∧ reached s.member.listen Config.listenLimit = true then s.found else s

/-- LISTEN_TIMEOUT (R79, R81). -/
def execListenTimeout (s : State) : Outcome State Fault Refusal := .next (s.event State.listenExpires)

/-- The JOIN timer has run out: a new JOIN is due (R80). -/
def State.joinExpires (s : State) : State :=
  if s.state = .joining ∧ reached s.member.join Config.heartbeat = true then
    (s.setMember { s.member with join := some 0 }).makeDue .join 0
  else s

/-- JOIN_TIMEOUT (R80). -/
def execJoinTimeout (s : State) : Outcome State Fault Refusal := .next (s.event State.joinExpires)

/-- A member has been silent for 3H: it is excluded (R90). -/
def State.silenceExpires (s : State) (p : Station) : State :=
  if reached (s.peer p).silence Config.silenceLimit then s.decideExclude p .silence true else s

/-- SILENCE_TIMEOUT p (R90). -/
def execSilenceTimeout (p : Station) (s : State) : Outcome State Fault Refusal := .next (s.event (·.silenceExpires p))

/-- Handable blocks go to the heir where a general slot is free (R101). -/
def State.handToHeir (s : State) : State :=
  if s.heirReady && s.freeGeneral then s.handOver s.member.registrar s.handableBlocks else s

/-- HEIR_HANDOVER (R101). -/
def execHeirHandover (s : State) : Outcome State Fault Refusal := .next (s.event State.handToHeir)

/-- The own EXCLUDE is asked for (R102). -/
def State.askLeave (s : State) : State := if s.asksLeave then s.enqueue (.exclude s.own .leave) else s

/-- LEAVE_EXCLUDE_REQUEST (R102). -/
def execLeaveExcludeRequest (s : State) : Outcome State Fault Refusal := .next (s.event State.askLeave)

/-- The head of the queue is this station's own EXCLUDE, and every required receiver has receipted it. -/
def State.ownExcludeReceipted (s : State) : Bool :=
  s.headReceipted && (match s.seq.queue with | [] => false | e :: _ => s.ownExclude e)

/-- The departure ends (R100, R102). -/
def State.departureEnds (s : State) : State :=
  if s.departsAlone then s.depart 0 else if s.ownExcludeReceipted then s.retireHead else s

/-- DEPARTURE_END (R100, R102). -/
def execDepartureEnd (s : State) : Outcome State Fault Refusal := .next (s.event State.departureEnds)

end Sys2Proof.Machine
end

