-- ==== Sys2Proof/Machine/Copies.lean ====
section
/-! DEFINITION. The meanings of the copy rows: SNAPQ_TIMEOUT, FETCH_SLOT_OPEN, FETCH_TIMEOUT, HOLD_END (chapter 6). -/

namespace Sys2Proof.Machine

open Host (Outcome)

/-- The SNAPQ timer has run out with parts missing: a new SNAPQ (R105). -/
def State.snapqExpires (s : State) : State :=
  if s.copy.missing ≠ 0 ∧ reached s.copy.snapq Config.snapqTimeout = true then s.sendSnapq else s

/-- SNAPQ_TIMEOUT (R105). -/
def execSnapqTimeout (s : State) : Outcome State Fault Refusal := .next (s.event State.snapqExpires)

/-- A free fetch slot opens for the lowest eligible block (R108). -/
def State.openNextFetch (s : State) : State :=
  match s.nextFetch with
  | none => s
  | some b => s.openFetch b

/-- FETCH_SLOT_OPEN (R108). -/
def execFetchSlotOpen (s : State) : Outcome State Fault Refusal := .next (s.event State.openNextFetch)

/-- A fetch slot's timer has run out: the next attempt, or the fetch fails (R110). -/
def State.fetchExpires (s : State) (b : Block) : State :=
  match s.fetchSlot b with
  | none => s
  | some c => if Config.fetchTimeout ≤ c.timer then s.endAttempt c else s

/-- FETCH_TIMEOUT b (R110). -/
def execFetchTimeout (b : Block) (s : State) : Outcome State Fault Refusal := .next (s.event (·.fetchExpires b))

/-- A hold of H is over (R110). -/
def State.holdExpires (s : State) (b : Block) : State :=
  if s.copy.holds.any (fun h => decide (h.1 = b) && decide (Config.heartbeat ≤ h.2)) then s.endHold b else s

/-- HOLD_END b (R110). -/
def execHoldEnd (b : Block) (s : State) : Outcome State Fault Refusal := .next (s.event (·.holdExpires b))

end Sys2Proof.Machine
end

