-- ==== Sys2Proof/Machine/Settling.lean ====
section
/-! DEFINITION. The meanings of the settlement, audit and heartbeat rows: SETTLE_JOB_START, QUERY_TIMEOUT, SETTLE_ENQUEUE, DEFERENCE_END, DIGEST_TIMEOUT, HEARTBEAT_TIMEOUT (chapters 7 and 8, R155). -/

namespace Sys2Proof.Machine

open Host (Outcome)

/-- A settle job starts where R119 wants one. -/
def State.startIfWanted (s : State) : State := if s.jobWanted then s.startJob else s

/-- SETTLE_JOB_START (R119). -/
def execSettleJobStart (s : State) : Outcome State Fault Refusal := .next (s.event State.startIfWanted)

/-- The query limit: every silent answerer is excluded for SETTLE, and the job decides (R124). -/
def State.queryLimit (s : State) : State :=
  let silent := (s.settle.answerers.filter (fun a => !a.answered)).map Answerer.station
  let s := s.decideExcludes silent .settle false
  if s.settle.job = .querying then
    (s.setSettle { s.settle with answerers := s.settle.answerers.filter Answerer.answered }).decideJob
  else s

/-- The query timer has run out: the QUERY again, or the limit (R120, R124). -/
def State.queryExpires (s : State) : State :=
  if s.settle.job = .querying ∧ reached s.settle.queryTimer Config.queryTimeout = true then
    if s.settle.queries < Config.queryLimit then
      (s.setSettle { s.settle with queries := s.settle.queries + 1 }).sendQuery
    else s.queryLimit
  else s

/-- QUERY_TIMEOUT (R120, R124). -/
def execQueryTimeout (s : State) : Outcome State Fault Refusal := .next (s.event State.queryExpires)

/-- A SETTLE is enqueued where one waits and an entry is free (R126). -/
def State.settleIfFree (s : State) : State := if s.settleWaits && s.freeEntry then s.announceNext else s

/-- SETTLE_ENQUEUE (R126, R127). -/
def execSettleEnqueue (s : State) : Outcome State Fault Refusal := .next (s.event State.settleIfFree)

/-- The deference is over (R129). -/
def State.deferenceExpires (s : State) : State :=
  if reached s.settle.deference Config.deference then s.setSettle { s.settle with deference := none } else s

/-- DEFERENCE_END (R129). -/
def execDeferenceEnd (s : State) : Outcome State Fault Refusal := .next (s.event State.deferenceExpires)

/-- The digest interval is over: the due flag is set and the timer stops (R133). -/
def State.digestExpires (s : State) : State :=
  if reached s.audit.timer Config.digestInterval then s.setAudit { s.audit with timer := none, due := true } else s

/-- DIGEST_TIMEOUT (R133). -/
def execDigestTimeout (s : State) : Outcome State Fault Refusal := .next (s.event State.digestExpires)

/-- HEARTBEAT_TIMEOUT: the heartbeat STATUS is available from its timer's value on, so that the event's take may take it
(R152, R155). -/
def execHeartbeatTimeout (s : State) : Outcome State Fault Refusal := .next (s.event id)

end Sys2Proof.Machine
end

