-- ==== Sys2Proof/Machine/Dispatch.lean ====
section
/-! DEFINITION. Dispatch: the meaning of every command, one arm per row of spec/opcode_table.json. -/

namespace Sys2Proof.Machine

/-- The effect of a command on everything but the queue. -/
def exec (i : Instr) (s : State) : Host.Outcome State Fault Refusal :=
  match i with
  | .localWrite addr value => Sys2Proof.Machine.execLocalWrite addr value s
  | .waitingWriteJudged => Sys2Proof.Machine.execWaitingWriteJudged s
  | .waitLimit => Sys2Proof.Machine.execWaitLimit s
  | .batchHold => Sys2Proof.Machine.execBatchHold s
  | .dueBatchClose => Sys2Proof.Machine.execDueBatchClose s
  | .heldWriteCommit b => Sys2Proof.Machine.execHeldWriteCommit b s
  | .commit low => Sys2Proof.Machine.execCommit low s
  | .claim b => Sys2Proof.Machine.execClaim b s
  | .refresh b => Sys2Proof.Machine.execRefresh b s
  | .leave low => Sys2Proof.Machine.execLeave low s
  | .rejoin low => Sys2Proof.Machine.execRejoin low s
  | .commandUnknown code low => Sys2Proof.Machine.execCommandUnknown code low s
  | .incidentAck w => Sys2Proof.Machine.execIncidentAck w s
  | .unrecordedMaskWrite w => Sys2Proof.Machine.execUnrecordedMaskWrite w s
  | .noticeRead => Sys2Proof.Machine.execNoticeRead s
  | .watchMapWrite n w => Sys2Proof.Machine.execWatchMapWrite n w s
  | .stationAreaWriteIgnored addr w => Sys2Proof.Machine.execStationAreaWriteIgnored addr w s
  | .resetAssert => Sys2Proof.Machine.execResetAssert s
  | .resetRelease stn dual rate => Sys2Proof.Machine.execResetRelease stn dual rate s
  | .statusReceived rx => Sys2Proof.Machine.execStatusReceived rx s
  | .joinReceived rx => Sys2Proof.Machine.execJoinReceived rx s
  | .admitReceived rx => Sys2Proof.Machine.execAdmitReceived rx s
  | .updateReceived rx => Sys2Proof.Machine.execUpdateReceived rx s
  | .claimReceived rx => Sys2Proof.Machine.execClaimReceived rx s
  | .handoverReceived rx => Sys2Proof.Machine.execHandoverReceived rx s
  | .excludeReceived rx => Sys2Proof.Machine.execExcludeReceived rx s
  | .fetchReceived rx => Sys2Proof.Machine.execFetchReceived rx s
  | .copyReceived rx => Sys2Proof.Machine.execCopyReceived rx s
  | .snapqReceived rx => Sys2Proof.Machine.execSnapqReceived rx s
  | .snapReceived rx => Sys2Proof.Machine.execSnapReceived rx s
  | .queryReceived rx => Sys2Proof.Machine.execQueryReceived rx s
  | .versionsReceived rx => Sys2Proof.Machine.execVersionsReceived rx s
  | .settleReceived rx => Sys2Proof.Machine.execSettleReceived rx s
  | .digestReceived rx => Sys2Proof.Machine.execDigestReceived rx s
  | .badFrameReceived rx => Sys2Proof.Machine.execBadFrameReceived rx s
  | .probationFrameReceived rx => Sys2Proof.Machine.execProbationFrameReceived rx s
  | .abortMarkReceived l => Sys2Proof.Machine.execAbortMarkReceived l s
  | .stuckLine l => Sys2Proof.Machine.execStuckLine l s
  | .laneRestEnd l => Sys2Proof.Machine.execLaneRestEnd l s
  | .attemptStart l => Sys2Proof.Machine.execAttemptStart l s
  | .collision l readback => Sys2Proof.Machine.execCollision l readback s
  | .abortMarkEnd l => Sys2Proof.Machine.execAbortMarkEnd l s
  | .frameSent l => Sys2Proof.Machine.execFrameSent l s
  | .claimTimeout b => Sys2Proof.Machine.execClaimTimeout b s
  | .claimSlotGrant => Sys2Proof.Machine.execClaimSlotGrant s
  | .handoverServe => Sys2Proof.Machine.execHandoverServe s
  | .replayTimeout => Sys2Proof.Machine.execReplayTimeout s
  | .receiptAgeLimit => Sys2Proof.Machine.execReceiptAgeLimit s
  | .waitingExcludeEnqueue p => Sys2Proof.Machine.execWaitingExcludeEnqueue p s
  | .listenTimeout => Sys2Proof.Machine.execListenTimeout s
  | .joinTimeout => Sys2Proof.Machine.execJoinTimeout s
  | .silenceTimeout p => Sys2Proof.Machine.execSilenceTimeout p s
  | .heirHandover => Sys2Proof.Machine.execHeirHandover s
  | .leaveExcludeRequest => Sys2Proof.Machine.execLeaveExcludeRequest s
  | .departureEnd => Sys2Proof.Machine.execDepartureEnd s
  | .snapqTimeout => Sys2Proof.Machine.execSnapqTimeout s
  | .fetchSlotOpen => Sys2Proof.Machine.execFetchSlotOpen s
  | .fetchTimeout b => Sys2Proof.Machine.execFetchTimeout b s
  | .holdEnd b => Sys2Proof.Machine.execHoldEnd b s
  | .settleJobStart => Sys2Proof.Machine.execSettleJobStart s
  | .queryTimeout => Sys2Proof.Machine.execQueryTimeout s
  | .settleEnqueue => Sys2Proof.Machine.execSettleEnqueue s
  | .deferenceEnd => Sys2Proof.Machine.execDeferenceEnd s
  | .digestTimeout => Sys2Proof.Machine.execDigestTimeout s
  | .heartbeatTimeout => Sys2Proof.Machine.execHeartbeatTimeout s

end Sys2Proof.Machine
end

