-- ==== Sys2Proof/Safety.lean ====
section
/-! DEFINITION. What statements about the machine speak of: how an event ends, frames as they come in whole, the setting no command but RESET changes, the sizes of the lists, and the invariants. -/

namespace Sys2Proof.Machine

/-- How an event ends once no unit has an act left: the take that falls in it, and its incidents numbered (R152, R167). -/
def State.closes (s : State) : State := s.pump.recordOffers

/-- How an event goes on once one act of it is done: the acts that follow, then its close (log entry 6). -/
def State.goesOn (s : State) : State := (State.quiesceFor (actLimit - 1) s).closes

/-- A frame is current and a lane is not done with it: no frame is taken (R152). -/
def State.busy (s : State) : Bool := s.select.current.isSome && !(s.select.doneA && s.select.doneB)

/-- The LIVE station has no settle job and no fetch slot to be told of a change of a peer, and its registrar is as its
tables give it (R91, R112, R129). -/
def State.untroubled (s : State) : Bool :=
  s.state = .live && s.settle.job = .idle && s.copy.slots.isEmpty && s.computeRegistrar = s.member.registrar

/-! ## Frames as they come in -/

/-- Frame f as it comes in without noise on lane l, as its sender sends it (R139, Table 10-1). -/
def cleanFrame (l : LaneId) (f : Frame) : RxFrame := { lane := l, chars := f.bytes.map cleanChar, line := [] }

/-- The frame is one a station may send: sender, target class and payload pass R161 and R162. -/
def Frame.wellFormed (f : Frame) : Bool :=
  f.sender ≠ 0 && (f.payload.kind.toOne == decide (f.target ≠ 0)) && f.payload.ok f.sender

/-- No frame and no character is in progress on the lane, and its line has been idle at mark for 2 ct: the next valid
start bit begins a frame (R143). -/
def Lane.awaitsFrame (l : Lane) : Bool :=
  decide (Config.frameEnd ≤ l.idle) && l.buffer = FrameBuffer.empty && l.shift.isEmpty && l.spaceRun = 0

/-- The station hears frame f of another station on UP lane l, and is its addressee (R143, R144, R161). -/
def State.canHear (s : State) (l : LaneId) (f : Frame) : Bool :=
  !s.resetLow && s.state ≠ .offline && s.laneUp l && (s.lane l).hears && (s.lane l).awaitsFrame
    && decide ((s.lane l).score ≤ Config.scoreLimit) && Frame.wellFormed f && f.sender ≠ s.own
    && (f.target = 0 || f.target = s.own)

/-- The station, of a group, hears frame f of another station on UP lane l, and is its addressee. -/
def State.hearsFrame (s : State) (l : LaneId) (f : Frame) : Bool := s.active && s.canHear l f

/-- The station in the event of a good frame from p on lane l, before its unit sees it: the lane has weighed it (R145)
and p's silence timer has restarted where p is a member (R90). -/
def State.carried (s : State) (l : LaneId) (p : Station) : State :=
  (s.tickStamp.setLane l { s.lane l with
    score := (s.lane l).score - 1, idle := Config.frameEnd, spaceRun := 0, buffer := FrameBuffer.empty }).hear p

/-- The station once it has accepted member p's sequenced frame with seq q, before the frame's unit sees it (Table 4-3). -/
def State.acceptedFrom (s : State) (l : LaneId) (p : Station) (q : SeqNo) : State :=
  ((s.carried l p).setPeer p { s.peer p with silence := some 0, expect := some (q + 1) }).setSeq s.seq.oweAccepted

/-- Nothing of the replay queue is to be sent: every entry has been, and none is marked (R64). -/
def State.queueSent (s : State) : Prop := ∀ e ∈ s.seq.queue, e.sent = true ∧ e.marked = false

/-- No answer can be built: each is a COPY of a block with an open batch (R117). -/
def State.answersWait (s : State) : Prop := ∀ a ∈ s.copy.answers, ∃ q b, a = .copy q b ∧ s.batchFor b = true

/-! ## Invariants -/

/-- What no command but RESET changes: RESET itself, the straps, the own number, the station clock, and the queue. -/
def State.setting (s : State) : Bool × Bool × BitVec 2 × Station × Clock × List Instr :=
  (s.resetLow, s.dual, s.rate, s.member.own, s.clock, s.pending)

/-- The command is RESET_ASSERT or RESET_RELEASE. -/
def isReset : Instr → Bool
  | .resetAssert => true
  | .resetRelease _ _ _ => true
  | _ => false

/-- The lists of the station are no longer than their units hold: incidents 8 (R167), notices 16 (R23), the replay queue
32 with 28 general entries (R59), batch entries 1 to 16 (R27), held writes 16 in 4 blocks (R33), claim slots 4 and claims
8 (Table 3-1), fetch slots 4 and answers 4 (Table 6-1); at most one waiting EXCLUDE a station (R98) and one hold a block
(Table 6-1). -/
def State.bounded (s : State) : Bool :=
  decide (s.log.records.length ≤ Config.incidentPlaces) && decide (s.port.notices.length ≤ Config.noticePlaces)
    && decide (s.seq.queue.length ≤ Config.replayPlaces)
    && decide ((s.seq.queue.filter ReplayEntry.general).length ≤ Config.generalPlaces)
    && s.write.batch.all (fun t => decide (1 ≤ t.entries.length) && decide (t.entries.length ≤ Config.batchEntries))
    && decide (s.write.held.length ≤ Config.heldPlaces) && decide (s.heldBlocks.length ≤ Config.heldBlocks)
    && decide (s.claim.slots.length ≤ Config.claimSlots)
    && decide (s.claim.list.length ≤ Config.claimPlaces) && decide (s.copy.slots.length ≤ Config.fetchSlots)
    && decide (s.copy.answers.length ≤ Config.answerPlaces)
    && decide (s.member.waitingExcludes.map Prod.fst).Nodup && decide (s.copy.holds.map Prod.fst).Nodup

/-- The lane has no character in progress and no space run, where its line has been idle (R140, R141). -/
def Lane.settled (l : Lane) : Bool := l.idle = 0 || (l.shift.isEmpty && l.spaceRun = 0)

/-- Both lanes are. -/
def State.linesSettled (s : State) : Bool := s.laneA.settled && s.laneB.settled

end Sys2Proof.Machine
end

