-- ==== Sys2Proof/Laws/State.lean ====
section
/-! SUPPORT. What each update of one unit leaves in each field of State: one lemma per field per update, by rfl. -/

namespace Sys2Proof.Machine

@[simp] theorem State.resetLow_setWindow (s : State) (x : Window) : (s.setWindow x).resetLow = s.resetLow := rfl
@[simp] theorem State.dual_setWindow (s : State) (x : Window) : (s.setWindow x).dual = s.dual := rfl
@[simp] theorem State.rate_setWindow (s : State) (x : Window) : (s.setWindow x).rate = s.rate := rfl
@[simp] theorem State.clock_setWindow (s : State) (x : Window) : (s.setWindow x).clock = s.clock := rfl
@[simp] theorem State.window_setWindow (s : State) (x : Window) : (s.setWindow x).window = x := rfl
@[simp] theorem State.dir_setWindow (s : State) (x : Window) : (s.setWindow x).dir = s.dir := rfl
@[simp] theorem State.write_setWindow (s : State) (x : Window) : (s.setWindow x).write = s.write := rfl
@[simp] theorem State.claim_setWindow (s : State) (x : Window) : (s.setWindow x).claim = s.claim := rfl
@[simp] theorem State.seq_setWindow (s : State) (x : Window) : (s.setWindow x).seq = s.seq := rfl
@[simp] theorem State.member_setWindow (s : State) (x : Window) : (s.setWindow x).member = s.member := rfl
@[simp] theorem State.copy_setWindow (s : State) (x : Window) : (s.setWindow x).copy = s.copy := rfl
@[simp] theorem State.settle_setWindow (s : State) (x : Window) : (s.setWindow x).settle = s.settle := rfl
@[simp] theorem State.audit_setWindow (s : State) (x : Window) : (s.setWindow x).audit = s.audit := rfl
@[simp] theorem State.laneA_setWindow (s : State) (x : Window) : (s.setWindow x).laneA = s.laneA := rfl
@[simp] theorem State.laneB_setWindow (s : State) (x : Window) : (s.setWindow x).laneB = s.laneB := rfl
@[simp] theorem State.select_setWindow (s : State) (x : Window) : (s.setWindow x).select = s.select := rfl
@[simp] theorem State.log_setWindow (s : State) (x : Window) : (s.setWindow x).log = s.log := rfl
@[simp] theorem State.port_setWindow (s : State) (x : Window) : (s.setWindow x).port = s.port := rfl
@[simp] theorem State.stamp_setWindow (s : State) (x : Window) : (s.setWindow x).stamp = s.stamp := rfl
@[simp] theorem State.freeCount_setWindow (s : State) (x : Window) : (s.setWindow x).freeCount = s.freeCount := rfl
@[simp] theorem State.pending_setWindow (s : State) (x : Window) : (s.setWindow x).pending = s.pending := rfl

@[simp] theorem State.resetLow_setDir (s : State) (x : Vector DirEntry 256) : (s.setDir x).resetLow = s.resetLow := rfl
@[simp] theorem State.dual_setDir (s : State) (x : Vector DirEntry 256) : (s.setDir x).dual = s.dual := rfl
@[simp] theorem State.rate_setDir (s : State) (x : Vector DirEntry 256) : (s.setDir x).rate = s.rate := rfl
@[simp] theorem State.clock_setDir (s : State) (x : Vector DirEntry 256) : (s.setDir x).clock = s.clock := rfl
@[simp] theorem State.window_setDir (s : State) (x : Vector DirEntry 256) : (s.setDir x).window = s.window := rfl
@[simp] theorem State.dir_setDir (s : State) (x : Vector DirEntry 256) : (s.setDir x).dir = x := rfl
@[simp] theorem State.write_setDir (s : State) (x : Vector DirEntry 256) : (s.setDir x).write = s.write := rfl
@[simp] theorem State.claim_setDir (s : State) (x : Vector DirEntry 256) : (s.setDir x).claim = s.claim := rfl
@[simp] theorem State.seq_setDir (s : State) (x : Vector DirEntry 256) : (s.setDir x).seq = s.seq := rfl
@[simp] theorem State.member_setDir (s : State) (x : Vector DirEntry 256) : (s.setDir x).member = s.member := rfl
@[simp] theorem State.copy_setDir (s : State) (x : Vector DirEntry 256) : (s.setDir x).copy = s.copy := rfl
@[simp] theorem State.settle_setDir (s : State) (x : Vector DirEntry 256) : (s.setDir x).settle = s.settle := rfl
@[simp] theorem State.audit_setDir (s : State) (x : Vector DirEntry 256) : (s.setDir x).audit = s.audit := rfl
@[simp] theorem State.laneA_setDir (s : State) (x : Vector DirEntry 256) : (s.setDir x).laneA = s.laneA := rfl
@[simp] theorem State.laneB_setDir (s : State) (x : Vector DirEntry 256) : (s.setDir x).laneB = s.laneB := rfl
@[simp] theorem State.select_setDir (s : State) (x : Vector DirEntry 256) : (s.setDir x).select = s.select := rfl
@[simp] theorem State.log_setDir (s : State) (x : Vector DirEntry 256) : (s.setDir x).log = s.log := rfl
@[simp] theorem State.port_setDir (s : State) (x : Vector DirEntry 256) : (s.setDir x).port = s.port := rfl
@[simp] theorem State.stamp_setDir (s : State) (x : Vector DirEntry 256) : (s.setDir x).stamp = s.stamp := rfl
@[simp] theorem State.freeCount_setDir (s : State) (x : Vector DirEntry 256) : (s.setDir x).freeCount = s.freeCount := rfl
@[simp] theorem State.pending_setDir (s : State) (x : Vector DirEntry 256) : (s.setDir x).pending = s.pending := rfl

@[simp] theorem State.resetLow_setWrite (s : State) (x : WriteUnit) : (s.setWrite x).resetLow = s.resetLow := rfl
@[simp] theorem State.dual_setWrite (s : State) (x : WriteUnit) : (s.setWrite x).dual = s.dual := rfl
@[simp] theorem State.rate_setWrite (s : State) (x : WriteUnit) : (s.setWrite x).rate = s.rate := rfl
@[simp] theorem State.clock_setWrite (s : State) (x : WriteUnit) : (s.setWrite x).clock = s.clock := rfl
@[simp] theorem State.window_setWrite (s : State) (x : WriteUnit) : (s.setWrite x).window = s.window := rfl
@[simp] theorem State.dir_setWrite (s : State) (x : WriteUnit) : (s.setWrite x).dir = s.dir := rfl
@[simp] theorem State.write_setWrite (s : State) (x : WriteUnit) : (s.setWrite x).write = x := rfl
@[simp] theorem State.claim_setWrite (s : State) (x : WriteUnit) : (s.setWrite x).claim = s.claim := rfl
@[simp] theorem State.seq_setWrite (s : State) (x : WriteUnit) : (s.setWrite x).seq = s.seq := rfl
@[simp] theorem State.member_setWrite (s : State) (x : WriteUnit) : (s.setWrite x).member = s.member := rfl
@[simp] theorem State.copy_setWrite (s : State) (x : WriteUnit) : (s.setWrite x).copy = s.copy := rfl
@[simp] theorem State.settle_setWrite (s : State) (x : WriteUnit) : (s.setWrite x).settle = s.settle := rfl
@[simp] theorem State.audit_setWrite (s : State) (x : WriteUnit) : (s.setWrite x).audit = s.audit := rfl
@[simp] theorem State.laneA_setWrite (s : State) (x : WriteUnit) : (s.setWrite x).laneA = s.laneA := rfl
@[simp] theorem State.laneB_setWrite (s : State) (x : WriteUnit) : (s.setWrite x).laneB = s.laneB := rfl
@[simp] theorem State.select_setWrite (s : State) (x : WriteUnit) : (s.setWrite x).select = s.select := rfl
@[simp] theorem State.log_setWrite (s : State) (x : WriteUnit) : (s.setWrite x).log = s.log := rfl
@[simp] theorem State.port_setWrite (s : State) (x : WriteUnit) : (s.setWrite x).port = s.port := rfl
@[simp] theorem State.stamp_setWrite (s : State) (x : WriteUnit) : (s.setWrite x).stamp = s.stamp := rfl
@[simp] theorem State.freeCount_setWrite (s : State) (x : WriteUnit) : (s.setWrite x).freeCount = s.freeCount := rfl
@[simp] theorem State.pending_setWrite (s : State) (x : WriteUnit) : (s.setWrite x).pending = s.pending := rfl

@[simp] theorem State.resetLow_setClaim (s : State) (x : ClaimUnit) : (s.setClaim x).resetLow = s.resetLow := rfl
@[simp] theorem State.dual_setClaim (s : State) (x : ClaimUnit) : (s.setClaim x).dual = s.dual := rfl
@[simp] theorem State.rate_setClaim (s : State) (x : ClaimUnit) : (s.setClaim x).rate = s.rate := rfl
@[simp] theorem State.clock_setClaim (s : State) (x : ClaimUnit) : (s.setClaim x).clock = s.clock := rfl
@[simp] theorem State.window_setClaim (s : State) (x : ClaimUnit) : (s.setClaim x).window = s.window := rfl
@[simp] theorem State.dir_setClaim (s : State) (x : ClaimUnit) : (s.setClaim x).dir = s.dir := rfl
@[simp] theorem State.write_setClaim (s : State) (x : ClaimUnit) : (s.setClaim x).write = s.write := rfl
@[simp] theorem State.claim_setClaim (s : State) (x : ClaimUnit) : (s.setClaim x).claim = x := rfl
@[simp] theorem State.seq_setClaim (s : State) (x : ClaimUnit) : (s.setClaim x).seq = s.seq := rfl
@[simp] theorem State.member_setClaim (s : State) (x : ClaimUnit) : (s.setClaim x).member = s.member := rfl
@[simp] theorem State.copy_setClaim (s : State) (x : ClaimUnit) : (s.setClaim x).copy = s.copy := rfl
@[simp] theorem State.settle_setClaim (s : State) (x : ClaimUnit) : (s.setClaim x).settle = s.settle := rfl
@[simp] theorem State.audit_setClaim (s : State) (x : ClaimUnit) : (s.setClaim x).audit = s.audit := rfl
@[simp] theorem State.laneA_setClaim (s : State) (x : ClaimUnit) : (s.setClaim x).laneA = s.laneA := rfl
@[simp] theorem State.laneB_setClaim (s : State) (x : ClaimUnit) : (s.setClaim x).laneB = s.laneB := rfl
@[simp] theorem State.select_setClaim (s : State) (x : ClaimUnit) : (s.setClaim x).select = s.select := rfl
@[simp] theorem State.log_setClaim (s : State) (x : ClaimUnit) : (s.setClaim x).log = s.log := rfl
@[simp] theorem State.port_setClaim (s : State) (x : ClaimUnit) : (s.setClaim x).port = s.port := rfl
@[simp] theorem State.stamp_setClaim (s : State) (x : ClaimUnit) : (s.setClaim x).stamp = s.stamp := rfl
@[simp] theorem State.freeCount_setClaim (s : State) (x : ClaimUnit) : (s.setClaim x).freeCount = s.freeCount := rfl
@[simp] theorem State.pending_setClaim (s : State) (x : ClaimUnit) : (s.setClaim x).pending = s.pending := rfl

@[simp] theorem State.resetLow_setSeq (s : State) (x : SeqUnit) : (s.setSeq x).resetLow = s.resetLow := rfl
@[simp] theorem State.dual_setSeq (s : State) (x : SeqUnit) : (s.setSeq x).dual = s.dual := rfl
@[simp] theorem State.rate_setSeq (s : State) (x : SeqUnit) : (s.setSeq x).rate = s.rate := rfl
@[simp] theorem State.clock_setSeq (s : State) (x : SeqUnit) : (s.setSeq x).clock = s.clock := rfl
@[simp] theorem State.window_setSeq (s : State) (x : SeqUnit) : (s.setSeq x).window = s.window := rfl
@[simp] theorem State.dir_setSeq (s : State) (x : SeqUnit) : (s.setSeq x).dir = s.dir := rfl
@[simp] theorem State.write_setSeq (s : State) (x : SeqUnit) : (s.setSeq x).write = s.write := rfl
@[simp] theorem State.claim_setSeq (s : State) (x : SeqUnit) : (s.setSeq x).claim = s.claim := rfl
@[simp] theorem State.seq_setSeq (s : State) (x : SeqUnit) : (s.setSeq x).seq = x := rfl
@[simp] theorem State.member_setSeq (s : State) (x : SeqUnit) : (s.setSeq x).member = s.member := rfl
@[simp] theorem State.copy_setSeq (s : State) (x : SeqUnit) : (s.setSeq x).copy = s.copy := rfl
@[simp] theorem State.settle_setSeq (s : State) (x : SeqUnit) : (s.setSeq x).settle = s.settle := rfl
@[simp] theorem State.audit_setSeq (s : State) (x : SeqUnit) : (s.setSeq x).audit = s.audit := rfl
@[simp] theorem State.laneA_setSeq (s : State) (x : SeqUnit) : (s.setSeq x).laneA = s.laneA := rfl
@[simp] theorem State.laneB_setSeq (s : State) (x : SeqUnit) : (s.setSeq x).laneB = s.laneB := rfl
@[simp] theorem State.select_setSeq (s : State) (x : SeqUnit) : (s.setSeq x).select = s.select := rfl
@[simp] theorem State.log_setSeq (s : State) (x : SeqUnit) : (s.setSeq x).log = s.log := rfl
@[simp] theorem State.port_setSeq (s : State) (x : SeqUnit) : (s.setSeq x).port = s.port := rfl
@[simp] theorem State.stamp_setSeq (s : State) (x : SeqUnit) : (s.setSeq x).stamp = s.stamp := rfl
@[simp] theorem State.freeCount_setSeq (s : State) (x : SeqUnit) : (s.setSeq x).freeCount = s.freeCount := rfl
@[simp] theorem State.pending_setSeq (s : State) (x : SeqUnit) : (s.setSeq x).pending = s.pending := rfl

@[simp] theorem State.resetLow_setMember (s : State) (x : MemberUnit) : (s.setMember x).resetLow = s.resetLow := rfl
@[simp] theorem State.dual_setMember (s : State) (x : MemberUnit) : (s.setMember x).dual = s.dual := rfl
@[simp] theorem State.rate_setMember (s : State) (x : MemberUnit) : (s.setMember x).rate = s.rate := rfl
@[simp] theorem State.clock_setMember (s : State) (x : MemberUnit) : (s.setMember x).clock = s.clock := rfl
@[simp] theorem State.window_setMember (s : State) (x : MemberUnit) : (s.setMember x).window = s.window := rfl
@[simp] theorem State.dir_setMember (s : State) (x : MemberUnit) : (s.setMember x).dir = s.dir := rfl
@[simp] theorem State.write_setMember (s : State) (x : MemberUnit) : (s.setMember x).write = s.write := rfl
@[simp] theorem State.claim_setMember (s : State) (x : MemberUnit) : (s.setMember x).claim = s.claim := rfl
@[simp] theorem State.seq_setMember (s : State) (x : MemberUnit) : (s.setMember x).seq = s.seq := rfl
@[simp] theorem State.member_setMember (s : State) (x : MemberUnit) : (s.setMember x).member = x := rfl
@[simp] theorem State.copy_setMember (s : State) (x : MemberUnit) : (s.setMember x).copy = s.copy := rfl
@[simp] theorem State.settle_setMember (s : State) (x : MemberUnit) : (s.setMember x).settle = s.settle := rfl
@[simp] theorem State.audit_setMember (s : State) (x : MemberUnit) : (s.setMember x).audit = s.audit := rfl
@[simp] theorem State.laneA_setMember (s : State) (x : MemberUnit) : (s.setMember x).laneA = s.laneA := rfl
@[simp] theorem State.laneB_setMember (s : State) (x : MemberUnit) : (s.setMember x).laneB = s.laneB := rfl
@[simp] theorem State.select_setMember (s : State) (x : MemberUnit) : (s.setMember x).select = s.select := rfl
@[simp] theorem State.log_setMember (s : State) (x : MemberUnit) : (s.setMember x).log = s.log := rfl
@[simp] theorem State.port_setMember (s : State) (x : MemberUnit) : (s.setMember x).port = s.port := rfl
@[simp] theorem State.stamp_setMember (s : State) (x : MemberUnit) : (s.setMember x).stamp = s.stamp := rfl
@[simp] theorem State.freeCount_setMember (s : State) (x : MemberUnit) : (s.setMember x).freeCount = s.freeCount := rfl
@[simp] theorem State.pending_setMember (s : State) (x : MemberUnit) : (s.setMember x).pending = s.pending := rfl

@[simp] theorem State.resetLow_setCopyUnit (s : State) (x : CopyUnit) : (s.setCopyUnit x).resetLow = s.resetLow := rfl
@[simp] theorem State.dual_setCopyUnit (s : State) (x : CopyUnit) : (s.setCopyUnit x).dual = s.dual := rfl
@[simp] theorem State.rate_setCopyUnit (s : State) (x : CopyUnit) : (s.setCopyUnit x).rate = s.rate := rfl
@[simp] theorem State.clock_setCopyUnit (s : State) (x : CopyUnit) : (s.setCopyUnit x).clock = s.clock := rfl
@[simp] theorem State.window_setCopyUnit (s : State) (x : CopyUnit) : (s.setCopyUnit x).window = s.window := rfl
@[simp] theorem State.dir_setCopyUnit (s : State) (x : CopyUnit) : (s.setCopyUnit x).dir = s.dir := rfl
@[simp] theorem State.write_setCopyUnit (s : State) (x : CopyUnit) : (s.setCopyUnit x).write = s.write := rfl
@[simp] theorem State.claim_setCopyUnit (s : State) (x : CopyUnit) : (s.setCopyUnit x).claim = s.claim := rfl
@[simp] theorem State.seq_setCopyUnit (s : State) (x : CopyUnit) : (s.setCopyUnit x).seq = s.seq := rfl
@[simp] theorem State.member_setCopyUnit (s : State) (x : CopyUnit) : (s.setCopyUnit x).member = s.member := rfl
@[simp] theorem State.copy_setCopyUnit (s : State) (x : CopyUnit) : (s.setCopyUnit x).copy = x := rfl
@[simp] theorem State.settle_setCopyUnit (s : State) (x : CopyUnit) : (s.setCopyUnit x).settle = s.settle := rfl
@[simp] theorem State.audit_setCopyUnit (s : State) (x : CopyUnit) : (s.setCopyUnit x).audit = s.audit := rfl
@[simp] theorem State.laneA_setCopyUnit (s : State) (x : CopyUnit) : (s.setCopyUnit x).laneA = s.laneA := rfl
@[simp] theorem State.laneB_setCopyUnit (s : State) (x : CopyUnit) : (s.setCopyUnit x).laneB = s.laneB := rfl
@[simp] theorem State.select_setCopyUnit (s : State) (x : CopyUnit) : (s.setCopyUnit x).select = s.select := rfl
@[simp] theorem State.log_setCopyUnit (s : State) (x : CopyUnit) : (s.setCopyUnit x).log = s.log := rfl
@[simp] theorem State.port_setCopyUnit (s : State) (x : CopyUnit) : (s.setCopyUnit x).port = s.port := rfl
@[simp] theorem State.stamp_setCopyUnit (s : State) (x : CopyUnit) : (s.setCopyUnit x).stamp = s.stamp := rfl
@[simp] theorem State.freeCount_setCopyUnit (s : State) (x : CopyUnit) : (s.setCopyUnit x).freeCount = s.freeCount := rfl
@[simp] theorem State.pending_setCopyUnit (s : State) (x : CopyUnit) : (s.setCopyUnit x).pending = s.pending := rfl

@[simp] theorem State.resetLow_setSettle (s : State) (x : SettleUnit) : (s.setSettle x).resetLow = s.resetLow := rfl
@[simp] theorem State.dual_setSettle (s : State) (x : SettleUnit) : (s.setSettle x).dual = s.dual := rfl
@[simp] theorem State.rate_setSettle (s : State) (x : SettleUnit) : (s.setSettle x).rate = s.rate := rfl
@[simp] theorem State.clock_setSettle (s : State) (x : SettleUnit) : (s.setSettle x).clock = s.clock := rfl
@[simp] theorem State.window_setSettle (s : State) (x : SettleUnit) : (s.setSettle x).window = s.window := rfl
@[simp] theorem State.dir_setSettle (s : State) (x : SettleUnit) : (s.setSettle x).dir = s.dir := rfl
@[simp] theorem State.write_setSettle (s : State) (x : SettleUnit) : (s.setSettle x).write = s.write := rfl
@[simp] theorem State.claim_setSettle (s : State) (x : SettleUnit) : (s.setSettle x).claim = s.claim := rfl
@[simp] theorem State.seq_setSettle (s : State) (x : SettleUnit) : (s.setSettle x).seq = s.seq := rfl
@[simp] theorem State.member_setSettle (s : State) (x : SettleUnit) : (s.setSettle x).member = s.member := rfl
@[simp] theorem State.copy_setSettle (s : State) (x : SettleUnit) : (s.setSettle x).copy = s.copy := rfl
@[simp] theorem State.settle_setSettle (s : State) (x : SettleUnit) : (s.setSettle x).settle = x := rfl
@[simp] theorem State.audit_setSettle (s : State) (x : SettleUnit) : (s.setSettle x).audit = s.audit := rfl
@[simp] theorem State.laneA_setSettle (s : State) (x : SettleUnit) : (s.setSettle x).laneA = s.laneA := rfl
@[simp] theorem State.laneB_setSettle (s : State) (x : SettleUnit) : (s.setSettle x).laneB = s.laneB := rfl
@[simp] theorem State.select_setSettle (s : State) (x : SettleUnit) : (s.setSettle x).select = s.select := rfl
@[simp] theorem State.log_setSettle (s : State) (x : SettleUnit) : (s.setSettle x).log = s.log := rfl
@[simp] theorem State.port_setSettle (s : State) (x : SettleUnit) : (s.setSettle x).port = s.port := rfl
@[simp] theorem State.stamp_setSettle (s : State) (x : SettleUnit) : (s.setSettle x).stamp = s.stamp := rfl
@[simp] theorem State.freeCount_setSettle (s : State) (x : SettleUnit) : (s.setSettle x).freeCount = s.freeCount := rfl
@[simp] theorem State.pending_setSettle (s : State) (x : SettleUnit) : (s.setSettle x).pending = s.pending := rfl

@[simp] theorem State.resetLow_setAudit (s : State) (x : AuditUnit) : (s.setAudit x).resetLow = s.resetLow := rfl
@[simp] theorem State.dual_setAudit (s : State) (x : AuditUnit) : (s.setAudit x).dual = s.dual := rfl
@[simp] theorem State.rate_setAudit (s : State) (x : AuditUnit) : (s.setAudit x).rate = s.rate := rfl
@[simp] theorem State.clock_setAudit (s : State) (x : AuditUnit) : (s.setAudit x).clock = s.clock := rfl
@[simp] theorem State.window_setAudit (s : State) (x : AuditUnit) : (s.setAudit x).window = s.window := rfl
@[simp] theorem State.dir_setAudit (s : State) (x : AuditUnit) : (s.setAudit x).dir = s.dir := rfl
@[simp] theorem State.write_setAudit (s : State) (x : AuditUnit) : (s.setAudit x).write = s.write := rfl
@[simp] theorem State.claim_setAudit (s : State) (x : AuditUnit) : (s.setAudit x).claim = s.claim := rfl
@[simp] theorem State.seq_setAudit (s : State) (x : AuditUnit) : (s.setAudit x).seq = s.seq := rfl
@[simp] theorem State.member_setAudit (s : State) (x : AuditUnit) : (s.setAudit x).member = s.member := rfl
@[simp] theorem State.copy_setAudit (s : State) (x : AuditUnit) : (s.setAudit x).copy = s.copy := rfl
@[simp] theorem State.settle_setAudit (s : State) (x : AuditUnit) : (s.setAudit x).settle = s.settle := rfl
@[simp] theorem State.audit_setAudit (s : State) (x : AuditUnit) : (s.setAudit x).audit = x := rfl
@[simp] theorem State.laneA_setAudit (s : State) (x : AuditUnit) : (s.setAudit x).laneA = s.laneA := rfl
@[simp] theorem State.laneB_setAudit (s : State) (x : AuditUnit) : (s.setAudit x).laneB = s.laneB := rfl
@[simp] theorem State.select_setAudit (s : State) (x : AuditUnit) : (s.setAudit x).select = s.select := rfl
@[simp] theorem State.log_setAudit (s : State) (x : AuditUnit) : (s.setAudit x).log = s.log := rfl
@[simp] theorem State.port_setAudit (s : State) (x : AuditUnit) : (s.setAudit x).port = s.port := rfl
@[simp] theorem State.stamp_setAudit (s : State) (x : AuditUnit) : (s.setAudit x).stamp = s.stamp := rfl
@[simp] theorem State.freeCount_setAudit (s : State) (x : AuditUnit) : (s.setAudit x).freeCount = s.freeCount := rfl
@[simp] theorem State.pending_setAudit (s : State) (x : AuditUnit) : (s.setAudit x).pending = s.pending := rfl

@[simp] theorem State.resetLow_setSelect (s : State) (x : Selector) : (s.setSelect x).resetLow = s.resetLow := rfl
@[simp] theorem State.dual_setSelect (s : State) (x : Selector) : (s.setSelect x).dual = s.dual := rfl
@[simp] theorem State.rate_setSelect (s : State) (x : Selector) : (s.setSelect x).rate = s.rate := rfl
@[simp] theorem State.clock_setSelect (s : State) (x : Selector) : (s.setSelect x).clock = s.clock := rfl
@[simp] theorem State.window_setSelect (s : State) (x : Selector) : (s.setSelect x).window = s.window := rfl
@[simp] theorem State.dir_setSelect (s : State) (x : Selector) : (s.setSelect x).dir = s.dir := rfl
@[simp] theorem State.write_setSelect (s : State) (x : Selector) : (s.setSelect x).write = s.write := rfl
@[simp] theorem State.claim_setSelect (s : State) (x : Selector) : (s.setSelect x).claim = s.claim := rfl
@[simp] theorem State.seq_setSelect (s : State) (x : Selector) : (s.setSelect x).seq = s.seq := rfl
@[simp] theorem State.member_setSelect (s : State) (x : Selector) : (s.setSelect x).member = s.member := rfl
@[simp] theorem State.copy_setSelect (s : State) (x : Selector) : (s.setSelect x).copy = s.copy := rfl
@[simp] theorem State.settle_setSelect (s : State) (x : Selector) : (s.setSelect x).settle = s.settle := rfl
@[simp] theorem State.audit_setSelect (s : State) (x : Selector) : (s.setSelect x).audit = s.audit := rfl
@[simp] theorem State.laneA_setSelect (s : State) (x : Selector) : (s.setSelect x).laneA = s.laneA := rfl
@[simp] theorem State.laneB_setSelect (s : State) (x : Selector) : (s.setSelect x).laneB = s.laneB := rfl
@[simp] theorem State.select_setSelect (s : State) (x : Selector) : (s.setSelect x).select = x := rfl
@[simp] theorem State.log_setSelect (s : State) (x : Selector) : (s.setSelect x).log = s.log := rfl
@[simp] theorem State.port_setSelect (s : State) (x : Selector) : (s.setSelect x).port = s.port := rfl
@[simp] theorem State.stamp_setSelect (s : State) (x : Selector) : (s.setSelect x).stamp = s.stamp := rfl
@[simp] theorem State.freeCount_setSelect (s : State) (x : Selector) : (s.setSelect x).freeCount = s.freeCount := rfl
@[simp] theorem State.pending_setSelect (s : State) (x : Selector) : (s.setSelect x).pending = s.pending := rfl

@[simp] theorem State.resetLow_setLog (s : State) (x : IncidentLog) : (s.setLog x).resetLow = s.resetLow := rfl
@[simp] theorem State.dual_setLog (s : State) (x : IncidentLog) : (s.setLog x).dual = s.dual := rfl
@[simp] theorem State.rate_setLog (s : State) (x : IncidentLog) : (s.setLog x).rate = s.rate := rfl
@[simp] theorem State.clock_setLog (s : State) (x : IncidentLog) : (s.setLog x).clock = s.clock := rfl
@[simp] theorem State.window_setLog (s : State) (x : IncidentLog) : (s.setLog x).window = s.window := rfl
@[simp] theorem State.dir_setLog (s : State) (x : IncidentLog) : (s.setLog x).dir = s.dir := rfl
@[simp] theorem State.write_setLog (s : State) (x : IncidentLog) : (s.setLog x).write = s.write := rfl
@[simp] theorem State.claim_setLog (s : State) (x : IncidentLog) : (s.setLog x).claim = s.claim := rfl
@[simp] theorem State.seq_setLog (s : State) (x : IncidentLog) : (s.setLog x).seq = s.seq := rfl
@[simp] theorem State.member_setLog (s : State) (x : IncidentLog) : (s.setLog x).member = s.member := rfl
@[simp] theorem State.copy_setLog (s : State) (x : IncidentLog) : (s.setLog x).copy = s.copy := rfl
@[simp] theorem State.settle_setLog (s : State) (x : IncidentLog) : (s.setLog x).settle = s.settle := rfl
@[simp] theorem State.audit_setLog (s : State) (x : IncidentLog) : (s.setLog x).audit = s.audit := rfl
@[simp] theorem State.laneA_setLog (s : State) (x : IncidentLog) : (s.setLog x).laneA = s.laneA := rfl
@[simp] theorem State.laneB_setLog (s : State) (x : IncidentLog) : (s.setLog x).laneB = s.laneB := rfl
@[simp] theorem State.select_setLog (s : State) (x : IncidentLog) : (s.setLog x).select = s.select := rfl
@[simp] theorem State.log_setLog (s : State) (x : IncidentLog) : (s.setLog x).log = x := rfl
@[simp] theorem State.port_setLog (s : State) (x : IncidentLog) : (s.setLog x).port = s.port := rfl
@[simp] theorem State.stamp_setLog (s : State) (x : IncidentLog) : (s.setLog x).stamp = s.stamp := rfl
@[simp] theorem State.freeCount_setLog (s : State) (x : IncidentLog) : (s.setLog x).freeCount = s.freeCount := rfl
@[simp] theorem State.pending_setLog (s : State) (x : IncidentLog) : (s.setLog x).pending = s.pending := rfl

@[simp] theorem State.resetLow_setPort (s : State) (x : LocalPort) : (s.setPort x).resetLow = s.resetLow := rfl
@[simp] theorem State.dual_setPort (s : State) (x : LocalPort) : (s.setPort x).dual = s.dual := rfl
@[simp] theorem State.rate_setPort (s : State) (x : LocalPort) : (s.setPort x).rate = s.rate := rfl
@[simp] theorem State.clock_setPort (s : State) (x : LocalPort) : (s.setPort x).clock = s.clock := rfl
@[simp] theorem State.window_setPort (s : State) (x : LocalPort) : (s.setPort x).window = s.window := rfl
@[simp] theorem State.dir_setPort (s : State) (x : LocalPort) : (s.setPort x).dir = s.dir := rfl
@[simp] theorem State.write_setPort (s : State) (x : LocalPort) : (s.setPort x).write = s.write := rfl
@[simp] theorem State.claim_setPort (s : State) (x : LocalPort) : (s.setPort x).claim = s.claim := rfl
@[simp] theorem State.seq_setPort (s : State) (x : LocalPort) : (s.setPort x).seq = s.seq := rfl
@[simp] theorem State.member_setPort (s : State) (x : LocalPort) : (s.setPort x).member = s.member := rfl
@[simp] theorem State.copy_setPort (s : State) (x : LocalPort) : (s.setPort x).copy = s.copy := rfl
@[simp] theorem State.settle_setPort (s : State) (x : LocalPort) : (s.setPort x).settle = s.settle := rfl
@[simp] theorem State.audit_setPort (s : State) (x : LocalPort) : (s.setPort x).audit = s.audit := rfl
@[simp] theorem State.laneA_setPort (s : State) (x : LocalPort) : (s.setPort x).laneA = s.laneA := rfl
@[simp] theorem State.laneB_setPort (s : State) (x : LocalPort) : (s.setPort x).laneB = s.laneB := rfl
@[simp] theorem State.select_setPort (s : State) (x : LocalPort) : (s.setPort x).select = s.select := rfl
@[simp] theorem State.log_setPort (s : State) (x : LocalPort) : (s.setPort x).log = s.log := rfl
@[simp] theorem State.port_setPort (s : State) (x : LocalPort) : (s.setPort x).port = x := rfl
@[simp] theorem State.stamp_setPort (s : State) (x : LocalPort) : (s.setPort x).stamp = s.stamp := rfl
@[simp] theorem State.freeCount_setPort (s : State) (x : LocalPort) : (s.setPort x).freeCount = s.freeCount := rfl
@[simp] theorem State.pending_setPort (s : State) (x : LocalPort) : (s.setPort x).pending = s.pending := rfl

@[simp] theorem State.resetLow_setPending (s : State) (x : List Instr) : (s.setPending x).resetLow = s.resetLow := rfl
@[simp] theorem State.dual_setPending (s : State) (x : List Instr) : (s.setPending x).dual = s.dual := rfl
@[simp] theorem State.rate_setPending (s : State) (x : List Instr) : (s.setPending x).rate = s.rate := rfl
@[simp] theorem State.clock_setPending (s : State) (x : List Instr) : (s.setPending x).clock = s.clock := rfl
@[simp] theorem State.window_setPending (s : State) (x : List Instr) : (s.setPending x).window = s.window := rfl
@[simp] theorem State.dir_setPending (s : State) (x : List Instr) : (s.setPending x).dir = s.dir := rfl
@[simp] theorem State.write_setPending (s : State) (x : List Instr) : (s.setPending x).write = s.write := rfl
@[simp] theorem State.claim_setPending (s : State) (x : List Instr) : (s.setPending x).claim = s.claim := rfl
@[simp] theorem State.seq_setPending (s : State) (x : List Instr) : (s.setPending x).seq = s.seq := rfl
@[simp] theorem State.member_setPending (s : State) (x : List Instr) : (s.setPending x).member = s.member := rfl
@[simp] theorem State.copy_setPending (s : State) (x : List Instr) : (s.setPending x).copy = s.copy := rfl
@[simp] theorem State.settle_setPending (s : State) (x : List Instr) : (s.setPending x).settle = s.settle := rfl
@[simp] theorem State.audit_setPending (s : State) (x : List Instr) : (s.setPending x).audit = s.audit := rfl
@[simp] theorem State.laneA_setPending (s : State) (x : List Instr) : (s.setPending x).laneA = s.laneA := rfl
@[simp] theorem State.laneB_setPending (s : State) (x : List Instr) : (s.setPending x).laneB = s.laneB := rfl
@[simp] theorem State.select_setPending (s : State) (x : List Instr) : (s.setPending x).select = s.select := rfl
@[simp] theorem State.log_setPending (s : State) (x : List Instr) : (s.setPending x).log = s.log := rfl
@[simp] theorem State.port_setPending (s : State) (x : List Instr) : (s.setPending x).port = s.port := rfl
@[simp] theorem State.stamp_setPending (s : State) (x : List Instr) : (s.setPending x).stamp = s.stamp := rfl
@[simp] theorem State.freeCount_setPending (s : State) (x : List Instr) : (s.setPending x).freeCount = s.freeCount := rfl
@[simp] theorem State.pending_setPending (s : State) (x : List Instr) : (s.setPending x).pending = x := rfl

@[simp] theorem State.resetLow_setLaneA (s : State) (x : Lane) : (s.setLane .A x).resetLow = s.resetLow := rfl
@[simp] theorem State.resetLow_setLaneB (s : State) (x : Lane) : (s.setLane .B x).resetLow = s.resetLow := rfl
@[simp] theorem State.dual_setLaneA (s : State) (x : Lane) : (s.setLane .A x).dual = s.dual := rfl
@[simp] theorem State.dual_setLaneB (s : State) (x : Lane) : (s.setLane .B x).dual = s.dual := rfl
@[simp] theorem State.rate_setLaneA (s : State) (x : Lane) : (s.setLane .A x).rate = s.rate := rfl
@[simp] theorem State.rate_setLaneB (s : State) (x : Lane) : (s.setLane .B x).rate = s.rate := rfl
@[simp] theorem State.clock_setLaneA (s : State) (x : Lane) : (s.setLane .A x).clock = s.clock := rfl
@[simp] theorem State.clock_setLaneB (s : State) (x : Lane) : (s.setLane .B x).clock = s.clock := rfl
@[simp] theorem State.window_setLaneA (s : State) (x : Lane) : (s.setLane .A x).window = s.window := rfl
@[simp] theorem State.window_setLaneB (s : State) (x : Lane) : (s.setLane .B x).window = s.window := rfl
@[simp] theorem State.dir_setLaneA (s : State) (x : Lane) : (s.setLane .A x).dir = s.dir := rfl
@[simp] theorem State.dir_setLaneB (s : State) (x : Lane) : (s.setLane .B x).dir = s.dir := rfl
@[simp] theorem State.write_setLaneA (s : State) (x : Lane) : (s.setLane .A x).write = s.write := rfl
@[simp] theorem State.write_setLaneB (s : State) (x : Lane) : (s.setLane .B x).write = s.write := rfl
@[simp] theorem State.claim_setLaneA (s : State) (x : Lane) : (s.setLane .A x).claim = s.claim := rfl
@[simp] theorem State.claim_setLaneB (s : State) (x : Lane) : (s.setLane .B x).claim = s.claim := rfl
@[simp] theorem State.seq_setLaneA (s : State) (x : Lane) : (s.setLane .A x).seq = s.seq := rfl
@[simp] theorem State.seq_setLaneB (s : State) (x : Lane) : (s.setLane .B x).seq = s.seq := rfl
@[simp] theorem State.member_setLaneA (s : State) (x : Lane) : (s.setLane .A x).member = s.member := rfl
@[simp] theorem State.member_setLaneB (s : State) (x : Lane) : (s.setLane .B x).member = s.member := rfl
@[simp] theorem State.copy_setLaneA (s : State) (x : Lane) : (s.setLane .A x).copy = s.copy := rfl
@[simp] theorem State.copy_setLaneB (s : State) (x : Lane) : (s.setLane .B x).copy = s.copy := rfl
@[simp] theorem State.settle_setLaneA (s : State) (x : Lane) : (s.setLane .A x).settle = s.settle := rfl
@[simp] theorem State.settle_setLaneB (s : State) (x : Lane) : (s.setLane .B x).settle = s.settle := rfl
@[simp] theorem State.audit_setLaneA (s : State) (x : Lane) : (s.setLane .A x).audit = s.audit := rfl
@[simp] theorem State.audit_setLaneB (s : State) (x : Lane) : (s.setLane .B x).audit = s.audit := rfl
@[simp] theorem State.laneA_setLaneA (s : State) (x : Lane) : (s.setLane .A x).laneA = x := rfl
@[simp] theorem State.laneA_setLaneB (s : State) (x : Lane) : (s.setLane .B x).laneA = s.laneA := rfl
@[simp] theorem State.laneB_setLaneA (s : State) (x : Lane) : (s.setLane .A x).laneB = s.laneB := rfl
@[simp] theorem State.laneB_setLaneB (s : State) (x : Lane) : (s.setLane .B x).laneB = x := rfl
@[simp] theorem State.select_setLaneA (s : State) (x : Lane) : (s.setLane .A x).select = s.select := rfl
@[simp] theorem State.select_setLaneB (s : State) (x : Lane) : (s.setLane .B x).select = s.select := rfl
@[simp] theorem State.log_setLaneA (s : State) (x : Lane) : (s.setLane .A x).log = s.log := rfl
@[simp] theorem State.log_setLaneB (s : State) (x : Lane) : (s.setLane .B x).log = s.log := rfl
@[simp] theorem State.port_setLaneA (s : State) (x : Lane) : (s.setLane .A x).port = s.port := rfl
@[simp] theorem State.port_setLaneB (s : State) (x : Lane) : (s.setLane .B x).port = s.port := rfl
@[simp] theorem State.stamp_setLaneA (s : State) (x : Lane) : (s.setLane .A x).stamp = s.stamp := rfl
@[simp] theorem State.stamp_setLaneB (s : State) (x : Lane) : (s.setLane .B x).stamp = s.stamp := rfl
@[simp] theorem State.freeCount_setLaneA (s : State) (x : Lane) : (s.setLane .A x).freeCount = s.freeCount := rfl
@[simp] theorem State.freeCount_setLaneB (s : State) (x : Lane) : (s.setLane .B x).freeCount = s.freeCount := rfl
@[simp] theorem State.pending_setLaneA (s : State) (x : Lane) : (s.setLane .A x).pending = s.pending := rfl
@[simp] theorem State.pending_setLaneB (s : State) (x : Lane) : (s.setLane .B x).pending = s.pending := rfl

@[simp] theorem State.resetLow_setLane (s : State) (l : LaneId) (x : Lane) : (s.setLane l x).resetLow = s.resetLow := by cases l <;> rfl
@[simp] theorem State.dual_setLane (s : State) (l : LaneId) (x : Lane) : (s.setLane l x).dual = s.dual := by cases l <;> rfl
@[simp] theorem State.rate_setLane (s : State) (l : LaneId) (x : Lane) : (s.setLane l x).rate = s.rate := by cases l <;> rfl
@[simp] theorem State.clock_setLane (s : State) (l : LaneId) (x : Lane) : (s.setLane l x).clock = s.clock := by cases l <;> rfl
@[simp] theorem State.window_setLane (s : State) (l : LaneId) (x : Lane) : (s.setLane l x).window = s.window := by cases l <;> rfl
@[simp] theorem State.dir_setLane (s : State) (l : LaneId) (x : Lane) : (s.setLane l x).dir = s.dir := by cases l <;> rfl
@[simp] theorem State.write_setLane (s : State) (l : LaneId) (x : Lane) : (s.setLane l x).write = s.write := by cases l <;> rfl
@[simp] theorem State.claim_setLane (s : State) (l : LaneId) (x : Lane) : (s.setLane l x).claim = s.claim := by cases l <;> rfl
@[simp] theorem State.seq_setLane (s : State) (l : LaneId) (x : Lane) : (s.setLane l x).seq = s.seq := by cases l <;> rfl
@[simp] theorem State.member_setLane (s : State) (l : LaneId) (x : Lane) : (s.setLane l x).member = s.member := by cases l <;> rfl
@[simp] theorem State.copy_setLane (s : State) (l : LaneId) (x : Lane) : (s.setLane l x).copy = s.copy := by cases l <;> rfl
@[simp] theorem State.settle_setLane (s : State) (l : LaneId) (x : Lane) : (s.setLane l x).settle = s.settle := by cases l <;> rfl
@[simp] theorem State.audit_setLane (s : State) (l : LaneId) (x : Lane) : (s.setLane l x).audit = s.audit := by cases l <;> rfl
@[simp] theorem State.select_setLane (s : State) (l : LaneId) (x : Lane) : (s.setLane l x).select = s.select := by cases l <;> rfl
@[simp] theorem State.log_setLane (s : State) (l : LaneId) (x : Lane) : (s.setLane l x).log = s.log := by cases l <;> rfl
@[simp] theorem State.port_setLane (s : State) (l : LaneId) (x : Lane) : (s.setLane l x).port = s.port := by cases l <;> rfl
@[simp] theorem State.stamp_setLane (s : State) (l : LaneId) (x : Lane) : (s.setLane l x).stamp = s.stamp := by cases l <;> rfl
@[simp] theorem State.freeCount_setLane (s : State) (l : LaneId) (x : Lane) : (s.setLane l x).freeCount = s.freeCount := by cases l <;> rfl
@[simp] theorem State.pending_setLane (s : State) (l : LaneId) (x : Lane) : (s.setLane l x).pending = s.pending := by cases l <;> rfl

@[simp] theorem State.lane_setLane_same (s : State) (l : LaneId) (x : Lane) : (s.setLane l x).lane l = x := by
  cases l <;> rfl


@[simp] theorem State.resetLow_tickStamp (s : State) : s.tickStamp.resetLow = s.resetLow := rfl
@[simp] theorem State.dual_tickStamp (s : State) : s.tickStamp.dual = s.dual := rfl
@[simp] theorem State.rate_tickStamp (s : State) : s.tickStamp.rate = s.rate := rfl
@[simp] theorem State.clock_tickStamp (s : State) : s.tickStamp.clock = s.clock := rfl
@[simp] theorem State.window_tickStamp (s : State) : s.tickStamp.window = s.window := rfl
@[simp] theorem State.dir_tickStamp (s : State) : s.tickStamp.dir = s.dir := rfl
@[simp] theorem State.write_tickStamp (s : State) : s.tickStamp.write = s.write := rfl
@[simp] theorem State.claim_tickStamp (s : State) : s.tickStamp.claim = s.claim := rfl
@[simp] theorem State.seq_tickStamp (s : State) : s.tickStamp.seq = s.seq := rfl
@[simp] theorem State.member_tickStamp (s : State) : s.tickStamp.member = s.member := rfl
@[simp] theorem State.copy_tickStamp (s : State) : s.tickStamp.copy = s.copy := rfl
@[simp] theorem State.settle_tickStamp (s : State) : s.tickStamp.settle = s.settle := rfl
@[simp] theorem State.audit_tickStamp (s : State) : s.tickStamp.audit = s.audit := rfl
@[simp] theorem State.laneA_tickStamp (s : State) : s.tickStamp.laneA = s.laneA := rfl
@[simp] theorem State.laneB_tickStamp (s : State) : s.tickStamp.laneB = s.laneB := rfl
@[simp] theorem State.select_tickStamp (s : State) : s.tickStamp.select = s.select := rfl
@[simp] theorem State.log_tickStamp (s : State) : s.tickStamp.log = s.log := rfl
@[simp] theorem State.port_tickStamp (s : State) : s.tickStamp.port = s.port := rfl
@[simp] theorem State.stamp_tickStamp (s : State) : s.tickStamp.stamp = s.stamp + 1 := rfl
@[simp] theorem State.freeCount_tickStamp (s : State) : s.tickStamp.freeCount = s.freeCount := rfl
@[simp] theorem State.pending_tickStamp (s : State) : s.tickStamp.pending = s.pending := rfl

@[simp] theorem State.resetLow_offer (s : State) (x : Offer) : (s.offer x).resetLow = s.resetLow := rfl
@[simp] theorem State.dual_offer (s : State) (x : Offer) : (s.offer x).dual = s.dual := rfl
@[simp] theorem State.rate_offer (s : State) (x : Offer) : (s.offer x).rate = s.rate := rfl
@[simp] theorem State.clock_offer (s : State) (x : Offer) : (s.offer x).clock = s.clock := rfl
@[simp] theorem State.window_offer (s : State) (x : Offer) : (s.offer x).window = s.window := rfl
@[simp] theorem State.dir_offer (s : State) (x : Offer) : (s.offer x).dir = s.dir := rfl
@[simp] theorem State.write_offer (s : State) (x : Offer) : (s.offer x).write = s.write := rfl
@[simp] theorem State.claim_offer (s : State) (x : Offer) : (s.offer x).claim = s.claim := rfl
@[simp] theorem State.seq_offer (s : State) (x : Offer) : (s.offer x).seq = s.seq := rfl
@[simp] theorem State.member_offer (s : State) (x : Offer) : (s.offer x).member = s.member := rfl
@[simp] theorem State.copy_offer (s : State) (x : Offer) : (s.offer x).copy = s.copy := rfl
@[simp] theorem State.settle_offer (s : State) (x : Offer) : (s.offer x).settle = s.settle := rfl
@[simp] theorem State.audit_offer (s : State) (x : Offer) : (s.offer x).audit = s.audit := rfl
@[simp] theorem State.laneA_offer (s : State) (x : Offer) : (s.offer x).laneA = s.laneA := rfl
@[simp] theorem State.laneB_offer (s : State) (x : Offer) : (s.offer x).laneB = s.laneB := rfl
@[simp] theorem State.select_offer (s : State) (x : Offer) : (s.offer x).select = s.select := rfl
@[simp] theorem State.port_offer (s : State) (x : Offer) : (s.offer x).port = s.port := rfl
@[simp] theorem State.stamp_offer (s : State) (x : Offer) : (s.offer x).stamp = s.stamp := rfl
@[simp] theorem State.freeCount_offer (s : State) (x : Offer) : (s.offer x).freeCount = s.freeCount := rfl
@[simp] theorem State.pending_offer (s : State) (x : Offer) : (s.offer x).pending = s.pending := rfl

@[simp] theorem State.resetLow_offerBy (s : State) (u : IncidentUnit) (x : Offer) : (s.offerBy u x).resetLow = s.resetLow := rfl
@[simp] theorem State.dual_offerBy (s : State) (u : IncidentUnit) (x : Offer) : (s.offerBy u x).dual = s.dual := rfl
@[simp] theorem State.rate_offerBy (s : State) (u : IncidentUnit) (x : Offer) : (s.offerBy u x).rate = s.rate := rfl
@[simp] theorem State.clock_offerBy (s : State) (u : IncidentUnit) (x : Offer) : (s.offerBy u x).clock = s.clock := rfl
@[simp] theorem State.window_offerBy (s : State) (u : IncidentUnit) (x : Offer) : (s.offerBy u x).window = s.window := rfl
@[simp] theorem State.dir_offerBy (s : State) (u : IncidentUnit) (x : Offer) : (s.offerBy u x).dir = s.dir := rfl
@[simp] theorem State.write_offerBy (s : State) (u : IncidentUnit) (x : Offer) : (s.offerBy u x).write = s.write := rfl
@[simp] theorem State.claim_offerBy (s : State) (u : IncidentUnit) (x : Offer) : (s.offerBy u x).claim = s.claim := rfl
@[simp] theorem State.seq_offerBy (s : State) (u : IncidentUnit) (x : Offer) : (s.offerBy u x).seq = s.seq := rfl
@[simp] theorem State.member_offerBy (s : State) (u : IncidentUnit) (x : Offer) : (s.offerBy u x).member = s.member := rfl
@[simp] theorem State.copy_offerBy (s : State) (u : IncidentUnit) (x : Offer) : (s.offerBy u x).copy = s.copy := rfl
@[simp] theorem State.settle_offerBy (s : State) (u : IncidentUnit) (x : Offer) : (s.offerBy u x).settle = s.settle := rfl
@[simp] theorem State.audit_offerBy (s : State) (u : IncidentUnit) (x : Offer) : (s.offerBy u x).audit = s.audit := rfl
@[simp] theorem State.laneA_offerBy (s : State) (u : IncidentUnit) (x : Offer) : (s.offerBy u x).laneA = s.laneA := rfl
@[simp] theorem State.laneB_offerBy (s : State) (u : IncidentUnit) (x : Offer) : (s.offerBy u x).laneB = s.laneB := rfl
@[simp] theorem State.select_offerBy (s : State) (u : IncidentUnit) (x : Offer) : (s.offerBy u x).select = s.select := rfl
@[simp] theorem State.port_offerBy (s : State) (u : IncidentUnit) (x : Offer) : (s.offerBy u x).port = s.port := rfl
@[simp] theorem State.stamp_offerBy (s : State) (u : IncidentUnit) (x : Offer) : (s.offerBy u x).stamp = s.stamp := rfl
@[simp] theorem State.freeCount_offerBy (s : State) (u : IncidentUnit) (x : Offer) : (s.offerBy u x).freeCount = s.freeCount := rfl
@[simp] theorem State.pending_offerBy (s : State) (u : IncidentUnit) (x : Offer) : (s.offerBy u x).pending = s.pending := rfl
@[simp] theorem State.log_offerBy (s : State) (u : IncidentUnit) (x : Offer) :
    (s.offerBy u x).log = { s.log with offered := s.log.offered ++ [(u, x)] } := rfl
@[simp] theorem State.log_offer (s : State) (x : Offer) :
    (s.offer x).log = { s.log with offered := s.log.offered ++ [(x.unit, x)] } := rfl

@[simp] theorem State.resetLow_recordOffers (s : State) : s.recordOffers.resetLow = s.resetLow := rfl
@[simp] theorem State.dual_recordOffers (s : State) : s.recordOffers.dual = s.dual := rfl
@[simp] theorem State.rate_recordOffers (s : State) : s.recordOffers.rate = s.rate := rfl
@[simp] theorem State.clock_recordOffers (s : State) : s.recordOffers.clock = s.clock := rfl
@[simp] theorem State.window_recordOffers (s : State) : s.recordOffers.window = s.window := rfl
@[simp] theorem State.dir_recordOffers (s : State) : s.recordOffers.dir = s.dir := rfl
@[simp] theorem State.write_recordOffers (s : State) : s.recordOffers.write = s.write := rfl
@[simp] theorem State.claim_recordOffers (s : State) : s.recordOffers.claim = s.claim := rfl
@[simp] theorem State.seq_recordOffers (s : State) : s.recordOffers.seq = s.seq := rfl
@[simp] theorem State.member_recordOffers (s : State) : s.recordOffers.member = s.member := rfl
@[simp] theorem State.copy_recordOffers (s : State) : s.recordOffers.copy = s.copy := rfl
@[simp] theorem State.settle_recordOffers (s : State) : s.recordOffers.settle = s.settle := rfl
@[simp] theorem State.audit_recordOffers (s : State) : s.recordOffers.audit = s.audit := rfl
@[simp] theorem State.laneA_recordOffers (s : State) : s.recordOffers.laneA = s.laneA := rfl
@[simp] theorem State.laneB_recordOffers (s : State) : s.recordOffers.laneB = s.laneB := rfl
@[simp] theorem State.select_recordOffers (s : State) : s.recordOffers.select = s.select := rfl
@[simp] theorem State.port_recordOffers (s : State) : s.recordOffers.port = s.port := rfl
@[simp] theorem State.stamp_recordOffers (s : State) : s.recordOffers.stamp = s.stamp := rfl
@[simp] theorem State.pending_recordOffers (s : State) : s.recordOffers.pending = s.pending := rfl

end Sys2Proof.Machine
end

