-- ==== Sys2Proof/Laws/Setting.lean ====
section
/-! SUPPORT. No operation of the units changes the setting: RESET, straps, own number, clock, queue. One lemma per operation. -/

set_option linter.unusedSimpArgs false

namespace Sys2Proof.Machine

theorem foldl_setting {α : Type} (f : State → α → State) (h : ∀ s x, (f s x).setting = s.setting) (l : List α) (s : State) :
    (l.foldl f s).setting = s.setting := by
  induction l generalizing s with
  | nil => rfl
  | cons x l ih => rw [List.foldl_cons, ih, h]

@[simp] theorem State.setting_setWindow (s : State) x : (s.setWindow x).setting = s.setting := rfl
@[simp] theorem State.setting_setDir (s : State) x : (s.setDir x).setting = s.setting := rfl
@[simp] theorem State.setting_setWrite (s : State) x : (s.setWrite x).setting = s.setting := rfl
@[simp] theorem State.setting_setClaim (s : State) x : (s.setClaim x).setting = s.setting := rfl
@[simp] theorem State.setting_setSeq (s : State) x : (s.setSeq x).setting = s.setting := rfl
@[simp] theorem State.setting_setCopyUnit (s : State) x : (s.setCopyUnit x).setting = s.setting := rfl
@[simp] theorem State.setting_setSettle (s : State) x : (s.setSettle x).setting = s.setting := rfl
@[simp] theorem State.setting_setAudit (s : State) x : (s.setAudit x).setting = s.setting := rfl
@[simp] theorem State.setting_setSelect (s : State) x : (s.setSelect x).setting = s.setting := rfl
@[simp] theorem State.setting_setLog (s : State) x : (s.setLog x).setting = s.setting := rfl
@[simp] theorem State.setting_setPort (s : State) x : (s.setPort x).setting = s.setting := rfl
@[simp] theorem State.setting_setLane (s : State) (l : LaneId) x : (s.setLane l x).setting = s.setting := by cases l <;> rfl
@[simp] theorem State.setting_offerBy (s : State) (u : IncidentUnit) (x : Offer) : (s.offerBy u x).setting = s.setting := rfl
@[simp] theorem State.setting_offer (s : State) (x : Offer) : (s.offer x).setting = s.setting := rfl
@[simp] theorem State.setting_recordOffers (s : State) : s.recordOffers.setting = s.setting := rfl
@[simp] theorem State.setting_tickStamp (s : State) : s.tickStamp.setting = s.setting := rfl

/-- An update of the Membership Unit that keeps the own number keeps the setting. -/
theorem State.setting_setMember (s : State) (x : MemberUnit) (h : x.own = s.member.own) : (s.setMember x).setting = s.setting := by
  simp [State.setting, h]

/-- The own number is part of the setting. -/
theorem State.own_of_setting {s t : State} (h : s.setting = t.setting) : s.member.own = t.member.own := by
  simp only [State.setting, Prod.mk.injEq] at h
  exact h.2.2.2.1

@[simp] theorem State.setting_choose (s : State) (k : Nat) : (s.choose k).2.setting = s.setting := by
  unfold State.choose
  split <;> rfl

@[simp] theorem State.setting_setPeer (s : State) (p : Station) (x : Peer) : (s.setPeer p x).setting = s.setting := by
  rfl

@[simp] theorem State.setting_setEntry (s : State) (b : Block) (e : DirEntry) : (s.setEntry b e).setting = s.setting := by
  rfl

@[simp] theorem State.setting_notice (s : State) (b : Block) : (s.notice b).setting = s.setting := by
  unfold State.notice
  simp [apply_ite State.setting, State.setting_setMember, foldl_setting]

@[simp] theorem State.setting_withdraw (s : State) (k : RequestKey) : (s.withdraw k).setting = s.setting := by
  rfl

@[simp] theorem State.setting_makeDue (s : State) (p : Payload) (target : Station) : (s.makeDue p target).setting = s.setting := by
  rfl

@[simp] theorem State.setting_enqueue (s : State) (p : Payload) : (s.enqueue p).setting = s.setting := by
  rfl

@[simp] theorem State.setting_dropHead (s : State) : (s.dropHead).setting = s.setting := by
  rfl

@[simp] theorem State.setting_noteJudgement (s : State) (p : Station) (q : SeqNo) (j : Judgement) : (s.noteJudgement p q j).setting = s.setting := by
  unfold State.noteJudgement
  (repeat' split) <;> simp [State.setting_setMember, foldl_setting]

@[simp] theorem State.setting_setClaimSlot (s : State) (b : Block) (c : ClaimSlot) : (s.setClaimSlot b c).setting = s.setting := by
  rfl

@[simp] theorem State.setting_sendClaim (s : State) (b : Block) : (s.sendClaim b).setting = s.setting := by
  unfold State.sendClaim
  dsimp only
  (repeat' split) <;> simp [apply_ite State.setting, State.setting_setMember, foldl_setting]

@[simp] theorem State.setting_openClaim (s : State) (b : Block) (held : Bool) : (s.openClaim b held).setting = s.setting := by
  unfold State.openClaim
  simp

@[simp] theorem State.setting_grantSlot (s : State) : (s.grantSlot).setting = s.setting := by
  unfold State.grantSlot
  (repeat' split) <;> simp [State.setting_setMember, foldl_setting]

@[simp] theorem State.setting_closeClaim (s : State) (b : Block) : (s.closeClaim b).setting = s.setting := by
  rfl

@[simp] theorem State.setting_retargetClaims (s : State) (bs : List Block) : (s.retargetClaims bs).setting = s.setting := by
  unfold State.retargetClaims
  simp [apply_ite State.setting, State.setting_setMember, foldl_setting]

@[simp] theorem State.setting_dropClaims (s : State) (b : Block) : (s.dropClaims b).setting = s.setting := by
  rfl

@[simp] theorem State.setting_endYield (s : State) (b : Block) : (s.endYield b).setting = s.setting := by
  unfold State.endYield
  simp [apply_ite State.setting, State.setting_setMember, foldl_setting]

@[simp] theorem State.setting_dropClaimant (s : State) (p : Station) : (s.dropClaimant p).setting = s.setting := by
  unfold State.dropClaimant
  simp [apply_ite State.setting, State.setting_setMember, foldl_setting]

@[simp] theorem State.setting_dropOrphanClaims (s : State) : (s.dropOrphanClaims).setting = s.setting := by
  rfl

@[simp] theorem State.setting_startAttempt (s : State) (b : Block) (attempt : Nat) (source : Station) : (s.startAttempt b attempt source).setting = s.setting := by
  unfold State.startAttempt
  simp [apply_ite State.setting, State.setting_setMember, foldl_setting]

@[simp] theorem State.setting_nextAttempt (s : State) (b : Block) (attempt : Nat) : (s.nextAttempt b attempt).setting = s.setting := by
  unfold State.nextAttempt
  simp

@[simp] theorem State.setting_openFetch (s : State) (b : Block) : (s.openFetch b).setting = s.setting := by
  unfold State.openFetch
  simp

@[simp] theorem State.setting_closeFetch (s : State) (b : Block) : (s.closeFetch b).setting = s.setting := by
  rfl

@[simp] theorem State.setting_endHold (s : State) (b : Block) : (s.endHold b).setting = s.setting := by
  rfl

@[simp] theorem State.setting_makeStale (s : State) (b : Block) : (s.makeStale b).setting = s.setting := by
  unfold State.makeStale
  simp [apply_ite State.setting, State.setting_setMember, foldl_setting]

@[simp] theorem State.setting_raiseSeen (s : State) (b : Block) (v : Version) : (s.raiseSeen b v).setting = s.setting := by
  unfold State.raiseSeen
  (repeat' split) <;> simp [State.setting_setMember, foldl_setting]

@[simp] theorem State.setting_failFetch (s : State) (b : Block) (source : Station) : (s.failFetch b source).setting = s.setting := by
  unfold State.failFetch
  simp

@[simp] theorem State.setting_endAttempt (s : State) (c : FetchSlot) : (s.endAttempt c).setting = s.setting := by
  unfold State.endAttempt
  simp [apply_ite State.setting, State.setting_setMember, foldl_setting]

@[simp] theorem State.setting_retargetFetch (g : Option Station) (s : State) (c : FetchSlot) : (s.retargetFetch g c).setting = s.setting := by
  unfold State.retargetFetch
  simp [apply_ite State.setting, State.setting_setMember, foldl_setting]

@[simp] theorem State.setting_retargetFetches (s : State) (g : Option Station) : (s.retargetFetches g).setting = s.setting := by
  unfold State.retargetFetches
  simp [apply_ite State.setting, State.setting_setMember, foldl_setting]

@[simp] theorem State.setting_sendSnapq (s : State) : (s.sendSnapq).setting = s.setting := by
  rfl

@[simp] theorem State.setting_endSnapq (s : State) : (s.endSnapq).setting = s.setting := by
  rfl

@[simp] theorem State.setting_queueAnswer (s : State) (a : Answer) : (s.queueAnswer a).setting = s.setting := by
  unfold State.queueAnswer
  simp [apply_ite State.setting, State.setting_setMember, foldl_setting]

@[simp] theorem State.setting_clearJob (s : State) : (s.clearJob).setting = s.setting := by
  rfl

@[simp] theorem State.setting_offerFlaggers (s : State) (rs : List SettleRecord) : (s.offerFlaggers rs).setting = s.setting := by
  unfold State.offerFlaggers
  apply foldl_setting
  intro s r
  split <;> rfl

@[simp] theorem State.setting_decideJob (s : State) : (s.decideJob).setting = s.setting := by
  unfold State.decideJob
  simp [apply_ite State.setting, State.setting_setMember, foldl_setting]

@[simp] theorem State.setting_sendQuery (s : State) : (s.sendQuery).setting = s.setting := by
  rfl

@[simp] theorem State.setting_startJob (s : State) : (s.startJob).setting = s.setting := by
  unfold State.startJob
  simp [apply_ite State.setting, State.setting_setMember, foldl_setting]

@[simp] theorem State.setting_restartJob (s : State) : (s.restartJob).setting = s.setting := by
  unfold State.restartJob
  simp [apply_ite State.setting, State.setting_setMember, foldl_setting]

@[simp] theorem State.setting_checkJob (s : State) : (s.checkJob).setting = s.setting := by
  unfold State.checkJob
  simp [apply_ite State.setting, State.setting_setMember, foldl_setting]

@[simp] theorem State.setting_foldVersions (s : State) (p : Station) (last : Bool) (es : List VersionsEntry) : (s.foldVersions p last es).setting = s.setting := by
  rfl

@[simp] theorem State.setting_replyToQuery (s : State) (q : Station) (r : Round) (bitmap : List Byte) : (s.replyToQuery q r bitmap).setting = s.setting := by
  unfold State.replyToQuery
  simp [apply_ite State.setting, State.setting_setMember, foldl_setting]

@[simp] theorem State.setting_closeBatch (s : State) : (s.closeBatch).setting = s.setting := by
  unfold State.closeBatch
  (repeat' split) <;> simp [State.setting_setMember, foldl_setting]

@[simp] theorem State.setting_makeBatchDue (s : State) : (s.makeBatchDue).setting = s.setting := by
  rfl

@[simp] theorem State.setting_closeOrDue (s : State) : (s.closeOrDue).setting = s.setting := by
  unfold State.closeOrDue
  simp [apply_ite State.setting, State.setting_setMember, foldl_setting]

@[simp] theorem State.setting_storeWord (s : State) (a : WindowAddr) (x : Word) : (s.storeWord a x).setting = s.setting := by
  rfl

@[simp] theorem State.setting_offerRefused (s : State) (a : WindowAddr) : (s.offerRefused a).setting = s.setting := by
  rfl

@[simp] theorem State.setting_joinBatch (s : State) (a : WindowAddr) (x : Word) : (s.joinBatch a x).setting = s.setting := by
  rfl

@[simp] theorem State.setting_holdWrite (s : State) (a : WindowAddr) (x : Word) : (s.holdWrite a x).setting = s.setting := by
  unfold State.holdWrite
  dsimp only
  (repeat' split) <;> simp [apply_ite State.setting, State.setting_setMember, foldl_setting]

@[simp] theorem State.setting_closeIfFull (s : State) : (s.closeIfFull).setting = s.setting := by
  unfold State.closeIfFull
  simp [apply_ite State.setting, State.setting_setMember, foldl_setting]

@[simp] theorem State.setting_applyFate (s : State) (a : WindowAddr) (x : Word) (y : WriteFate) : (s.applyFate a x y).setting = s.setting := by
  unfold State.applyFate
  (repeat' split) <;> simp [State.setting_setMember, foldl_setting]

@[simp] theorem State.setting_judgeWaiting (s : State) : (s.judgeWaiting).setting = s.setting := by
  unfold State.judgeWaiting
  (repeat' split) <;> simp [State.setting_setMember, foldl_setting]

@[simp] theorem State.setting_commitHeld (s : State) (b : Block) : (s.commitHeld b).setting = s.setting := by
  unfold State.commitHeld
  simp

@[simp] theorem State.setting_discardHeld (s : State) (b : Block) : (s.discardHeld b).setting = s.setting := by
  unfold State.discardHeld
  simp [apply_ite State.setting, State.setting_setMember, foldl_setting]

@[simp] theorem State.setting_offerDiscarded (s : State) (bs : List Block) : (s.offerDiscarded bs).setting = s.setting := by
  unfold State.offerDiscarded
  simp [apply_ite State.setting, State.setting_setMember, foldl_setting]

@[simp] theorem State.setting_discardBatch (s : State) (b : Block) : (s.discardBatch b).setting = s.setting := by
  unfold State.discardBatch
  (repeat' split) <;> simp [State.setting_setMember, foldl_setting]

@[simp] theorem State.setting_silence (s : State) : (s.silence).setting = s.setting := rfl

@[simp] theorem State.setting_refuseWaiting (s : State) : (s.refuseWaiting).setting = s.setting := by
  unfold State.refuseWaiting
  (repeat' split) <;> simp [State.setting_setMember, foldl_setting]

@[simp] theorem State.setting_teardown (s : State) (new : StationState) : (s.teardown new).setting = s.setting := by
  unfold State.teardown
  simp [State.setting_setMember, State.own_of_setting (State.setting_offerDiscarded _ _),
    State.own_of_setting (State.setting_refuseWaiting _)]

@[simp] theorem State.setting_enterListening (s : State) : (s.enterListening).setting = s.setting := by
  rfl

@[simp] theorem State.setting_sendJoin (s : State) : (s.sendJoin).setting = s.setting := by
  rfl

@[simp] theorem State.setting_enterJoining (s : State) : (s.enterJoining).setting = s.setting := by
  rfl

@[simp] theorem State.setting_found (s : State) : (s.found).setting = s.setting := by
  unfold State.found
  simp [State.setting_setMember]

@[simp] theorem State.setting_depart (s : State) (detail : Word) : (s.depart detail).setting = s.setting := by
  unfold State.depart
  simp

@[simp] theorem State.setting_isolate (s : State) : (s.isolate).setting = s.setting := by
  unfold State.isolate
  simp [apply_ite State.setting, State.setting_setMember, foldl_setting]

@[simp] theorem State.setting_clash (s : State) (l : LaneId) (kind : Byte) : (s.clash l kind).setting = s.setting := by
  unfold State.clash
  simp

@[simp] theorem State.setting_takeRegistrar (s : State) : (s.takeRegistrar).setting = s.setting := by
  unfold State.takeRegistrar
  simp [apply_ite State.setting, State.setting_setMember, foldl_setting]

@[simp] theorem State.setting_peersChanged (s : State) (g : Option Station) : (s.peersChanged g).setting = s.setting := by
  unfold State.peersChanged
  simp [apply_ite State.setting, State.setting_setMember, foldl_setting]

@[simp] theorem State.setting_dropAnswers (s : State) (p : Station) : (s.dropAnswers p).setting = s.setting := by
  rfl

@[simp] theorem State.setting_retargetFrom (s : State) (p : Station) : (s.retargetFrom p).setting = s.setting := by
  unfold State.retargetFrom
  simp

@[simp] theorem State.setting_excludeEntry (cause : Cause) (s : State) (p : Station) : (s.excludeEntry cause p).setting = s.setting := by
  unfold State.excludeEntry
  simp [apply_ite State.setting]

@[simp] theorem State.setting_excludeAll (s : State) (ps : List Station) (cause : Cause) (restart : Bool) : (s.excludeAll ps cause restart).setting = s.setting := by
  unfold State.excludeAll
  simp [apply_ite State.setting, foldl_setting]

@[simp] theorem State.setting_exclude (s : State) (p : Station) (cause : Cause) (restart : Bool) : (s.exclude p cause restart).setting = s.setting := by
  unfold State.exclude
  simp

@[simp] theorem State.setting_askExclude (s : State) (p : Station) (cause : Cause) : (s.askExclude p cause).setting = s.setting := by
  unfold State.askExclude
  simp [apply_ite State.setting, State.setting_setMember, foldl_setting]

@[simp] theorem State.setting_decideExcludes (s : State) (ps : List Station) (cause : Cause) (restart : Bool) : (s.decideExcludes ps cause restart).setting = s.setting := by
  unfold State.decideExcludes
  simp [apply_ite State.setting, foldl_setting]

@[simp] theorem State.setting_decideExclude (s : State) (p : Station) (cause : Cause) (restart : Bool) : (s.decideExclude p cause restart).setting = s.setting := by
  unfold State.decideExclude
  simp

@[simp] theorem State.setting_enterLive (s : State) : (s.enterLive).setting = s.setting := by
  unfold State.enterLive
  simp [apply_ite State.setting, State.setting_setMember, foldl_setting]

@[simp] theorem State.setting_testLive (s : State) : (s.testLive).setting = s.setting := by
  unfold State.testLive
  simp [apply_ite State.setting, State.setting_setMember, foldl_setting]

@[simp] theorem State.setting_closeClaims (s : State) : (s.closeClaims).setting = s.setting := by
  unfold State.closeClaims
  simp [apply_ite State.setting, State.setting_setMember, foldl_setting]

@[simp] theorem State.setting_emptyClaimList (s : State) : (s.emptyClaimList).setting = s.setting := by
  unfold State.emptyClaimList
  simp [apply_ite State.setting, State.setting_setMember, foldl_setting]

@[simp] theorem State.setting_enterLeaving (s : State) : (s.enterLeaving).setting = s.setting := by
  unfold State.enterLeaving
  simp [State.setting_setMember]

@[simp] theorem State.setting_mismatch (s : State) (b : Block) (sender : Station) (detail : Word) : (s.mismatch b sender detail).setting = s.setting := by
  rfl

@[simp] theorem State.setting_loseBlock (s : State) (b : Block) (sender : Station) (e : Epoch) : (s.loseBlock b sender e).setting = s.setting := by
  unfold State.loseBlock
  simp

@[simp] theorem State.setting_takeOwner (s : State) (b : Block) (sender owner : Station) (e : Epoch) (donor : Option Station) : (s.takeOwner b sender owner e donor).setting = s.setting := by
  unfold State.takeOwner
  simp [apply_ite State.setting, State.setting_setMember, foldl_setting]

@[simp] theorem State.setting_applyBatch (s : State) (b : Block) (v : Version) (es : List WordWrite) : (s.applyBatch b v es).setting = s.setting := by
  unfold State.applyBatch
  simp

@[simp] theorem State.setting_updateContent (s : State) (b : Block) (v : Version) (es : List WordWrite) (passed : Bool) : (s.updateContent b v es passed).setting = s.setting := by
  unfold State.updateContent
  (repeat' split) <;> simp [State.setting_setMember, foldl_setting]

@[simp] theorem State.setting_updateArrive (s : State) (sender : Station) (b : Block) (e : Epoch) (v : Version) (es : List WordWrite) : (s.updateArrive sender b e v es).setting = s.setting := by
  unfold State.updateArrive
  simp [apply_ite State.setting, State.setting_setMember, foldl_setting]

@[simp] theorem State.setting_copyNotGained (s : State) (b : Block) (sender : Station) (v : Version) : (s.copyNotGained b sender v).setting = s.setting := by
  unfold State.copyNotGained
  (repeat' split) <;> simp [State.setting_setMember, foldl_setting]

@[simp] theorem State.setting_copyGained (s : State) (b : Block) (sender : Station) (v : Version) : (s.copyGained b sender v).setting = s.setting := by
  unfold State.copyGained
  (repeat' split) <;> simp [State.setting_setMember, foldl_setting]

@[simp] theorem State.setting_dropDonorIfCurrent (s : State) (b : Block) : (s.dropDonorIfCurrent b).setting = s.setting := by
  unfold State.dropDonorIfCurrent
  simp [apply_ite State.setting, State.setting_setMember, foldl_setting]

@[simp] theorem State.setting_ownershipEntry (s : State) (sender : Station) (b : Block) (owner : Station) (e : Epoch) (v : Version) (donor : Option Station) : (s.ownershipEntry sender b owner e v donor).setting = s.setting := by
  unfold State.ownershipEntry
  simp [apply_ite State.setting, State.setting_setMember, foldl_setting]

@[simp] theorem State.setting_handoverEntry (s : State) (sender owner : Station) (h : HandoverEntry) : (s.handoverEntry sender owner h).setting = s.setting := by
  unfold State.handoverEntry
  simp

@[simp] theorem State.setting_settleEntry (s : State) (sender : Station) (t : SettleEntry) : (s.settleEntry sender t).setting = s.setting := by
  unfold State.settleEntry
  simp

@[simp] theorem State.setting_snapEntry (s : State) (b : Block) (t : SnapEntry) : (s.snapEntry b t).setting = s.setting := by
  unfold State.snapEntry
  simp [apply_ite State.setting, State.setting_setMember, foldl_setting]

@[simp] theorem State.setting_snapEntries (s : State) (p : Part) (es : List SnapEntry) : (s.snapEntries p es).setting = s.setting := by
  unfold State.snapEntries
  simp [apply_ite State.setting, State.setting_setMember, foldl_setting]

@[simp] theorem State.setting_copyArrive (s : State) (b : Block) (v : Version) (ws : List Word) : (s.copyArrive b v ws).setting = s.setting := by
  unfold State.copyArrive
  simp [apply_ite State.setting, State.setting_setMember, foldl_setting]

@[simp] theorem State.setting_digestMismatch (s : State) (b : Block) (sender : Station) (v : Version) : (s.digestMismatch b sender v).setting = s.setting := rfl

@[simp] theorem State.setting_digestEntry (s : State) (sender : Station) (d : DigestEntry) : (s.digestEntry sender d).setting = s.setting := by
  unfold State.digestEntry
  dsimp only
  (repeat' split) <;> simp [apply_ite State.setting, State.setting_setMember, foldl_setting]

@[simp] theorem State.setting_takeStatus (s : State) (shown : MemberState) : (s.takeStatus shown).2.setting = s.setting := by
  rfl

@[simp] theorem State.setting_takeReplay (s : State) (e : ReplayEntry) : (s.takeReplay e).2.setting = s.setting := by
  rfl

@[simp] theorem State.setting_buildAnswer (s : State) (y : Answer) : (s.buildAnswer y).2.setting = s.setting := by
  unfold State.buildAnswer
  (repeat' split) <;> simp [State.setting_setMember, foldl_setting]

@[simp] theorem State.setting_takeAnswer (s : State) (a : Answer) : (s.takeAnswer a).2.setting = s.setting := by
  unfold State.takeAnswer
  simp

@[simp] theorem State.setting_takeRequest (s : State) (r : Request) : (s.takeRequest r).2.setting = s.setting := by
  rfl

@[simp] theorem State.setting_takeDigest (s : State) (bs : List Block) : (s.takeDigest bs).2.setting = s.setting := by
  rfl

@[simp] theorem State.setting_give (s : State) (f : Frame) : (s.give f).setting = s.setting := by
  unfold State.give
  dsimp only
  (repeat' split) <;> simp [apply_ite State.setting, State.setting_setMember, foldl_setting]

@[simp] theorem State.setting_release (s : State) : (s.release).setting = s.setting := by
  unfold State.release
  simp [apply_ite State.setting, State.setting_setMember, foldl_setting]

/-- What a take leaves keeps the setting. -/
theorem State.setting_of_take {s t : State} {f : Frame} {o : Option (Frame × State)} (h : o = some (f, t))
    (k : ∀ p ∈ o, p.2.setting = s.setting) : t.setting = s.setting := k (f, t) (by simp [h])

theorem State.setting_takeQueued (s : State) (p : Frame × State) (h : p ∈ s.takeQueued) : p.2.setting = s.setting := by
  unfold State.takeQueued at h
  repeat' split at h
  · simp only [Option.mem_def, Option.some.injEq] at h
    subst h
    simp
  · simp only [Option.mem_def, Option.map_eq_some_iff] at h
    obtain ⟨a, -, rfl⟩ := h
    simp
  · simp at h
  · simp at h

theorem State.setting_takeOther (s : State) (p : Frame × State) (h : p ∈ s.takeOther) : p.2.setting = s.setting := by
  unfold State.takeOther at h
  repeat' split at h
  all_goals first
    | (simp at h; done)
    | (simp only [Option.mem_def, Option.some.injEq] at h
       subst h
       simp)

theorem State.setting_nextTake (s : State) (p : Frame × State) (h : p ∈ s.nextTake) : p.2.setting = s.setting := by
  unfold State.nextTake at h
  split at h
  · simp only [Option.mem_def, Option.some.injEq] at h
    subst h
    simp
  · cases hq : s.takeQueued with
    | none => rw [hq] at h; exact s.setting_takeOther p h
    | some q => rw [hq] at h; exact s.setting_takeQueued p (by rw [hq]; exact h)

@[simp] theorem State.setting_pump (s : State) : s.pump.setting = s.setting := by
  unfold State.pump
  dsimp only
  split
  · split
    · simp
    · next f t h => simpa using State.setting_nextTake _ _ h
  · simp

@[simp] theorem State.setting_markDone (s : State) (y : LaneId) : (s.markDone y).setting = s.setting := by
  unfold State.markDone
  (repeat' split) <;> simp [State.setting_setMember, foldl_setting]

@[simp] theorem State.setting_lostLanes (s : State) : (s.lostLanes).setting = s.setting := by
  unfold State.lostLanes
  simp [apply_ite State.setting, State.setting_setMember, foldl_setting]

@[simp] theorem State.setting_gainedLane (s : State) : (s.gainedLane).setting = s.setting := by
  unfold State.gainedLane
  (repeat' split) <;> simp [State.setting_setMember, foldl_setting]

@[simp] theorem State.setting_laneDown (s : State) (l : LaneId) (detail : Word) : (s.laneDown l detail).setting = s.setting := by
  unfold State.laneDown
  simp [apply_ite State.setting, State.setting_setMember, foldl_setting]

@[simp] theorem State.setting_laneReturn (s : State) (l : LaneId) : (s.laneReturn l).setting = s.setting := by
  unfold State.laneReturn
  simp [apply_ite State.setting, State.setting_setMember, foldl_setting]

@[simp] theorem State.setting_weigh (s : State) (l : LaneId) (up down : Nat) : (s.weigh l up down).setting = s.setting := by
  unfold State.weigh
  simp [apply_ite State.setting, State.setting_setMember, foldl_setting]

@[simp] theorem State.setting_bring (s : State) (l : LaneId) (cells : List LineCell) : (s.bring l cells).setting = s.setting := by
  unfold State.bring
  simp

@[simp] theorem State.setting_frameEnds (s : State) (l : LaneId) : (s.frameEnds l).setting = s.setting := by
  unfold State.frameEnds
  simp

@[simp] theorem State.setting_badFrame (s : State) (l : LaneId) (f : FrameBuffer) : (s.badFrame l f).setting = s.setting := by
  unfold State.badFrame
  simp

@[simp] theorem State.setting_probationFrame (s : State) (l : LaneId) (f : FrameBuffer) : (s.probationFrame l f).setting = s.setting := by
  unfold State.probationFrame
  simp [apply_ite State.setting, State.setting_setMember, foldl_setting]

@[simp] theorem State.setting_laneDone (s : State) (l : LaneId) : (s.laneDone l).setting = s.setting := by
  unfold State.laneDone
  simp

@[simp] theorem State.setting_passOn (s : State) (c : Station) (bs : List Block) : (s.passOn c bs).setting = s.setting := by
  unfold State.passOn
  simp [apply_ite State.setting, State.setting_setMember, foldl_setting]

@[simp] theorem State.setting_handOver (s : State) (c : Station) (bs : List Block) : (s.handOver c bs).setting = s.setting := by
  unfold State.handOver
  simp [apply_ite State.setting, State.setting_setMember, foldl_setting]

@[simp] theorem State.setting_serve (s : State) : (s.serve).setting = s.setting := by
  unfold State.serve
  (repeat' split) <;> simp [State.setting_setMember, foldl_setting]

@[simp] theorem State.setting_retireHead (s : State) : (s.retireHead).setting = s.setting := by
  unfold State.retireHead
  simp [apply_ite State.setting, State.setting_setMember, foldl_setting]

@[simp] theorem State.setting_releaseBlock (s : State) (b : Block) : (s.releaseBlock b).setting = s.setting := by
  unfold State.releaseBlock
  simp [apply_ite State.setting, State.setting_setMember, foldl_setting]

@[simp] theorem State.setting_announceNext (s : State) : (s.announceNext).setting = s.setting := by
  unfold State.announceNext
  simp [apply_ite State.setting, State.setting_setMember, foldl_setting]

@[simp] theorem State.setting_enqueueWaiting (s : State) (p : Station) : (s.enqueueWaiting p).setting = s.setting := by
  unfold State.enqueueWaiting
  (repeat' split) <;> simp [State.setting_setMember, foldl_setting]

@[simp] theorem State.setting_perform (s : State) (y : Act) : (s.perform y).setting = s.setting := by
  unfold State.perform
  (repeat' split) <;> simp [State.setting_setMember, foldl_setting]

@[simp] theorem State.setting_foreignStatus (s : State) (shown : MemberState) (mask : StationMask) : (s.foreignStatus shown mask).setting = s.setting := by
  unfold State.foreignStatus
  simp [apply_ite State.setting, State.setting_setMember, foldl_setting]

@[simp] theorem State.setting_useStatus (s : State) (p : Station) (shown : MemberState) (mask known : StationMask) (receipts : List Byte) (welcome : List (Station × SeqNo)) : (s.useStatus p shown mask known receipts welcome).setting = s.setting := by
  unfold State.useStatus
  simp [apply_ite State.setting, State.setting_setMember, foldl_setting]

@[simp] theorem State.setting_memberStatus (s : State) (p : Station) (shown : MemberState) (mask known : StationMask) (receipts : List Byte) (welcome : List (Station × SeqNo)) : (s.memberStatus p shown mask known receipts welcome).setting = s.setting := by
  unfold State.memberStatus
  (repeat' split) <;> simp [State.setting_setMember, foldl_setting]

@[simp] theorem State.setting_admitJoiner (s : State) (j : Station) : (s.admitJoiner j).setting = s.setting := by
  unfold State.admitJoiner
  simp

@[simp] theorem State.setting_joinArrive (s : State) (j : Station) : (s.joinArrive j).setting = s.setting := by
  unfold State.joinArrive
  simp [apply_ite State.setting, State.setting_setMember, foldl_setting]

@[simp] theorem State.setting_admitArrive (s : State) (j : Station) : (s.admitArrive j).setting = s.setting := by
  unfold State.admitArrive
  simp [apply_ite State.setting, State.setting_setMember, foldl_setting]

@[simp] theorem State.setting_admitted (s : State) (sender : Station) (q : SeqNo) (mask : StationMask) : (s.admitted sender q mask).setting = s.setting := by
  unfold State.admitted
  simp [apply_ite State.setting, State.setting_setMember, foldl_setting]

@[simp] theorem State.setting_excludeArrive (s : State) (sender p : Station) (cause : Cause) : (s.excludeArrive sender p cause).setting = s.setting := by
  unfold State.excludeArrive
  simp [apply_ite State.setting, State.setting_setMember, foldl_setting]

@[simp] theorem State.setting_claimArrive (s : State) (sender : Station) (b : Block) : (s.claimArrive sender b).setting = s.setting := by
  unfold State.claimArrive
  simp [apply_ite State.setting, State.setting_setMember, foldl_setting]

@[simp] theorem State.setting_fetchArrive (s : State) (sender : Station) (b : Block) : (s.fetchArrive sender b).setting = s.setting := by
  unfold State.fetchArrive
  simp [apply_ite State.setting, State.setting_setMember, foldl_setting]

@[simp] theorem State.setting_snapqArrive (s : State) (sender : Station) (parts : Word) : (s.snapqArrive sender parts).setting = s.setting := by
  unfold State.snapqArrive
  simp [apply_ite State.setting, State.setting_setMember, foldl_setting]

@[simp] theorem State.setting_copyOkArrive (s : State) (b : Block) (v : Version) (ws : List Word) : (s.copyOkArrive b v ws).setting = s.setting := by
  unfold State.copyOkArrive
  simp [apply_ite State.setting, State.setting_setMember, foldl_setting]

@[simp] theorem State.setting_copyNotCurrentArrive (s : State) (sender : Station) (b : Block) : (s.copyNotCurrentArrive sender b).setting = s.setting := by
  unfold State.copyNotCurrentArrive
  (repeat' split) <;> simp [State.setting_setMember, foldl_setting]

@[simp] theorem State.setting_snapArrive (s : State) (sender : Station) (p : Part) (es : List SnapEntry) : (s.snapArrive sender p es).setting = s.setting := by
  unfold State.snapArrive
  dsimp only
  (repeat' split) <;> simp [apply_ite State.setting, State.setting_setMember, foldl_setting]

@[simp] theorem State.setting_defer (s : State) : (s.defer).setting = s.setting := by
  rfl

@[simp] theorem State.setting_queryArrive (s : State) (sender : Station) (r : Round) (bitmap : List Byte) : (s.queryArrive sender r bitmap).setting = s.setting := by
  unfold State.queryArrive
  simp [apply_ite State.setting, State.setting_setMember, foldl_setting]

@[simp] theorem State.setting_versionsArrive (s : State) (sender : Station) (r : Round) (last : Bool) (es : List VersionsEntry) : (s.versionsArrive sender r last es).setting = s.setting := by
  unfold State.versionsArrive
  simp [apply_ite State.setting, State.setting_setMember, foldl_setting]

@[simp] theorem State.setting_digestArrive (s : State) (sender : Station) (es : List DigestEntry) : (s.digestArrive sender es).setting = s.setting := by
  unfold State.digestArrive
  simp [apply_ite State.setting, State.setting_setMember, foldl_setting]

@[simp] theorem State.setting_accept (s : State) (f : Frame) : (s.accept f).setting = s.setting := by
  unfold State.accept
  (repeat' split) <;> simp [State.setting_setMember, foldl_setting]

@[simp] theorem State.setting_sequenced (s : State) (f : Frame) : (s.sequenced f).setting = s.setting := by
  unfold State.sequenced
  simp [apply_ite State.setting, State.setting_setMember, foldl_setting]

@[simp] theorem State.setting_unsequenced (s : State) (f : Frame) : (s.unsequenced f).setting = s.setting := by
  unfold State.unsequenced
  (repeat' split) <;> simp [State.setting_setMember, foldl_setting]

@[simp] theorem State.setting_deliverActive (s : State) (f : Frame) : (s.deliverActive f).setting = s.setting := by
  unfold State.deliverActive
  (repeat' split) <;> simp [State.setting_setMember, foldl_setting]

@[simp] theorem State.setting_deliverJoining (s : State) (f : Frame) : (s.deliverJoining f).setting = s.setting := by
  unfold State.deliverJoining
  (repeat' split) <;> simp [State.setting_setMember, foldl_setting]

@[simp] theorem State.setting_heard (s : State) (k : Kind) : (s.heard k).setting = s.setting := by
  unfold State.heard
  (repeat' split) <;> simp [State.setting_setMember, foldl_setting]

@[simp] theorem State.setting_deliver (s : State) (f : Frame) : (s.deliver f).setting = s.setting := by
  unfold State.deliver
  simp [apply_ite State.setting, State.setting_setMember, foldl_setting]

@[simp] theorem State.setting_malformed (s : State) (l : LaneId) (r : RawFrame) : (s.malformed l r).setting = s.setting := by
  rfl

@[simp] theorem State.setting_hear (s : State) (p : Station) : (s.hear p).setting = s.setting := by
  unfold State.hear
  simp [apply_ite State.setting, State.setting_setMember, foldl_setting]

@[simp] theorem State.setting_judgeKind (s : State) (l : LaneId) (r : RawFrame) (k : Kind) : (s.judgeKind l r k).setting = s.setting := by
  unfold State.judgeKind
  (repeat' split) <;> simp [State.setting_setMember, foldl_setting]

@[simp] theorem State.setting_judgeFrame (s : State) (l : LaneId) (r : RawFrame) : (s.judgeFrame l r).setting = s.setting := by
  unfold State.judgeFrame
  (repeat' split) <;> simp [State.setting_setMember, foldl_setting]

@[simp] theorem State.setting_goodFrame (s : State) (l : LaneId) (f : FrameBuffer) : (s.goodFrame l f).setting = s.setting := by
  unfold State.goodFrame
  simp [apply_ite State.setting, State.setting_setMember, foldl_setting]

@[simp] theorem State.setting_judgeBuffer (s : State) (l : LaneId) (f : FrameBuffer) : (s.judgeBuffer l f).setting = s.setting := by
  unfold State.judgeBuffer
  (repeat' split) <;> simp [State.setting_setMember, foldl_setting]

@[simp] theorem State.setting_frameIn (s : State) (rx : RxFrame) : (s.frameIn rx).setting = s.setting := by
  unfold State.frameIn
  simp [apply_ite State.setting, State.setting_setMember, foldl_setting]

@[simp] theorem State.setting_writeLatched (s : State) (a : WindowAddr) (x : Word) : (s.writeLatched a x).setting = s.setting := by
  unfold State.writeLatched
  simp

@[simp] theorem State.setting_dropWaiting (s : State) : (s.dropWaiting).setting = s.setting := by
  unfold State.dropWaiting
  (repeat' split) <;> simp [State.setting_setMember, foldl_setting]

@[simp] theorem State.setting_holdReached (s : State) : (s.holdReached).setting = s.setting := by
  unfold State.holdReached
  simp [apply_ite State.setting, State.setting_setMember, foldl_setting]

@[simp] theorem State.setting_closeDueBatch (s : State) : (s.closeDueBatch).setting = s.setting := by
  unfold State.closeDueBatch
  simp [apply_ite State.setting, State.setting_setMember, foldl_setting]

@[simp] theorem State.setting_commitIfReady (s : State) (b : Block) : (s.commitIfReady b).setting = s.setting := by
  unfold State.commitIfReady
  simp [apply_ite State.setting, State.setting_setMember, foldl_setting]

@[simp] theorem State.setting_leavePending (s : State) : (s.leavePending).setting = s.setting := by
  unfold State.leavePending
  simp [apply_ite State.setting, State.setting_setMember, foldl_setting]

@[simp] theorem State.setting_abortMark (s : State) (l : LaneId) : (s.abortMark l).setting = s.setting := by
  unfold State.abortMark
  simp [apply_ite State.setting, State.setting_setMember, foldl_setting]

@[simp] theorem State.setting_stuckLine (s : State) (l : LaneId) : (s.stuckLine l).setting = s.setting := by
  unfold State.stuckLine
  simp [apply_ite State.setting, State.setting_setMember, foldl_setting]

@[simp] theorem State.setting_restEnd (s : State) (l : LaneId) : (s.restEnd l).setting = s.setting := by
  unfold State.restEnd
  simp [apply_ite State.setting, State.setting_setMember, foldl_setting]

@[simp] theorem State.setting_attemptStart (s : State) (l : LaneId) : (s.attemptStart l).setting = s.setting := by
  unfold State.attemptStart
  simp [apply_ite State.setting, State.setting_setMember, foldl_setting]

@[simp] theorem State.setting_collision (s : State) (l : LaneId) (readback : Option RxChar) : (s.collision l readback).setting = s.setting := by
  unfold State.collision
  simp [apply_ite State.setting, State.setting_setMember, foldl_setting]

@[simp] theorem State.setting_abortMarkEnd (s : State) (l : LaneId) : (s.abortMarkEnd l).setting = s.setting := by
  unfold State.abortMarkEnd
  simp [apply_ite State.setting, State.setting_setMember, foldl_setting]

@[simp] theorem State.setting_frameSent (s : State) (l : LaneId) : (s.frameSent l).setting = s.setting := by
  unfold State.frameSent
  simp [apply_ite State.setting, State.setting_setMember, foldl_setting]

@[simp] theorem State.setting_claimExpires (s : State) (b : Block) : (s.claimExpires b).setting = s.setting := by
  unfold State.claimExpires
  (repeat' split) <;> simp [State.setting_setMember, foldl_setting]

@[simp] theorem State.setting_serveIfFree (s : State) : (s.serveIfFree).setting = s.setting := by
  unfold State.serveIfFree
  simp [apply_ite State.setting, State.setting_setMember, foldl_setting]

@[simp] theorem State.setting_replayExpires (s : State) : (s.replayExpires).setting = s.setting := by
  unfold State.replayExpires
  (repeat' split) <;> simp [State.setting_setMember, foldl_setting]

@[simp] theorem State.setting_receiptAges (s : State) : (s.receiptAges).setting = s.setting := by
  unfold State.receiptAges
  simp [apply_ite State.setting, State.setting_setMember, foldl_setting]

@[simp] theorem State.setting_enqueueIfFree (s : State) (p : Station) : (s.enqueueIfFree p).setting = s.setting := by
  unfold State.enqueueIfFree
  simp [apply_ite State.setting, State.setting_setMember, foldl_setting]

@[simp] theorem State.setting_listenExpires (s : State) : (s.listenExpires).setting = s.setting := by
  unfold State.listenExpires
  simp [apply_ite State.setting, State.setting_setMember, foldl_setting]

@[simp] theorem State.setting_joinExpires (s : State) : (s.joinExpires).setting = s.setting := by
  unfold State.joinExpires
  simp [apply_ite State.setting, State.setting_setMember, foldl_setting]

@[simp] theorem State.setting_silenceExpires (s : State) (p : Station) : (s.silenceExpires p).setting = s.setting := by
  unfold State.silenceExpires
  simp [apply_ite State.setting, State.setting_setMember, foldl_setting]

@[simp] theorem State.setting_handToHeir (s : State) : (s.handToHeir).setting = s.setting := by
  unfold State.handToHeir
  simp [apply_ite State.setting, State.setting_setMember, foldl_setting]

@[simp] theorem State.setting_askLeave (s : State) : (s.askLeave).setting = s.setting := by
  unfold State.askLeave
  simp [apply_ite State.setting, State.setting_setMember, foldl_setting]

@[simp] theorem State.setting_departureEnds (s : State) : (s.departureEnds).setting = s.setting := by
  unfold State.departureEnds
  simp [apply_ite State.setting, State.setting_setMember, foldl_setting]

@[simp] theorem State.setting_snapqExpires (s : State) : (s.snapqExpires).setting = s.setting := by
  unfold State.snapqExpires
  simp [apply_ite State.setting, State.setting_setMember, foldl_setting]

@[simp] theorem State.setting_openNextFetch (s : State) : (s.openNextFetch).setting = s.setting := by
  unfold State.openNextFetch
  (repeat' split) <;> simp [State.setting_setMember, foldl_setting]

@[simp] theorem State.setting_fetchExpires (s : State) (b : Block) : (s.fetchExpires b).setting = s.setting := by
  unfold State.fetchExpires
  (repeat' split) <;> simp [State.setting_setMember, foldl_setting]

@[simp] theorem State.setting_holdExpires (s : State) (b : Block) : (s.holdExpires b).setting = s.setting := by
  unfold State.holdExpires
  simp [apply_ite State.setting, State.setting_setMember, foldl_setting]

@[simp] theorem State.setting_startIfWanted (s : State) : (s.startIfWanted).setting = s.setting := by
  unfold State.startIfWanted
  simp [apply_ite State.setting, State.setting_setMember, foldl_setting]

@[simp] theorem State.setting_queryLimit (s : State) : (s.queryLimit).setting = s.setting := by
  unfold State.queryLimit
  simp [apply_ite State.setting, State.setting_setMember, foldl_setting]

@[simp] theorem State.setting_queryExpires (s : State) : (s.queryExpires).setting = s.setting := by
  unfold State.queryExpires
  simp [apply_ite State.setting, State.setting_setMember, foldl_setting]

@[simp] theorem State.setting_settleIfFree (s : State) : (s.settleIfFree).setting = s.setting := by
  unfold State.settleIfFree
  simp [apply_ite State.setting, State.setting_setMember, foldl_setting]

@[simp] theorem State.setting_deferenceExpires (s : State) : (s.deferenceExpires).setting = s.setting := by
  unfold State.deferenceExpires
  simp [apply_ite State.setting, State.setting_setMember, foldl_setting]

@[simp] theorem State.setting_digestExpires (s : State) : (s.digestExpires).setting = s.setting := by
  unfold State.digestExpires
  simp [apply_ite State.setting, State.setting_setMember, foldl_setting]

/-! ## Events -/

@[simp] theorem State.setting_quiesceFor (n : Nat) (s : State) : (State.quiesceFor n s).setting = s.setting := by
  induction n generalizing s with
  | zero => rfl
  | succ n ih =>
    unfold State.quiesceFor
    split
    · rfl
    · simp [ih]

@[simp] theorem State.setting_quiesce (s : State) : s.quiesce.setting = s.setting := by simp [State.quiesce]

@[simp] theorem State.setting_settleEvent (s : State) : s.settleEvent.setting = s.setting := by simp [State.settleEvent]

/-- An event keeps the setting where its effect does. -/
theorem State.setting_event (s : State) (f : State → State) (h : ∀ t, (f t).setting = t.setting) :
    (s.event f).setting = s.setting := by
  unfold State.event
  split
  · rfl
  · simp [h]

theorem State.setting_portEvent (s : State) (f : State → State) (h : ∀ t, (f t).setting = t.setting) :
    (s.portEvent f).setting = s.setting := by
  unfold State.portEvent
  split
  · exact s.setting_event f h
  · rfl

end Sys2Proof.Machine
end

