-- ==== Sys2Proof/Laws/WindowFrame.lean ====
section
/-! SUPPORT. Which operations of the units leave Window Memory as it stands, one lemma each; the others keep its canonical form. -/

set_option linter.unusedSimpArgs false

namespace Sys2Proof.Machine

theorem foldl_window {α : Type} (f : State → α → State) (h : ∀ s x, (f s x).window = s.window) (l : List α) (s : State) :
    (l.foldl f s).window = s.window := by
  induction l generalizing s with
  | nil => rfl
  | cons x l ih => rw [List.foldl_cons, ih, h]

@[simp] theorem State.window_choose (s : State) (k : Nat) : (s.choose k).2.window = s.window := by
  unfold State.choose
  split <;> rfl

@[simp] theorem State.window_setPeer (s : State) (p : Station) (x : Peer) : (s.setPeer p x).window = s.window := by
  rfl

@[simp] theorem State.window_setEntry (s : State) (b : Block) (e : DirEntry) : (s.setEntry b e).window = s.window := by
  rfl

@[simp] theorem State.window_notice (s : State) (b : Block) : (s.notice b).window = s.window := by
  unfold State.notice
  simp [apply_ite State.window, foldl_window]

@[simp] theorem State.window_withdraw (s : State) (k : RequestKey) : (s.withdraw k).window = s.window := by
  rfl

@[simp] theorem State.window_makeDue (s : State) (p : Payload) (target : Station) : (s.makeDue p target).window = s.window := by
  rfl

@[simp] theorem State.window_enqueue (s : State) (p : Payload) : (s.enqueue p).window = s.window := by
  rfl

@[simp] theorem State.window_dropHead (s : State) : (s.dropHead).window = s.window := by
  rfl

@[simp] theorem State.window_noteJudgement (s : State) (p : Station) (q : SeqNo) (j : Judgement) : (s.noteJudgement p q j).window = s.window := by
  unfold State.noteJudgement
  (repeat' split) <;> simp [foldl_window]

@[simp] theorem State.window_setClaimSlot (s : State) (b : Block) (c : ClaimSlot) : (s.setClaimSlot b c).window = s.window := by
  rfl

@[simp] theorem State.window_sendClaim (s : State) (b : Block) : (s.sendClaim b).window = s.window := by
  unfold State.sendClaim
  dsimp only
  (repeat' split) <;> simp [apply_ite State.window, foldl_window]

@[simp] theorem State.window_openClaim (s : State) (b : Block) (held : Bool) : (s.openClaim b held).window = s.window := by
  unfold State.openClaim
  simp

@[simp] theorem State.window_grantSlot (s : State) : (s.grantSlot).window = s.window := by
  unfold State.grantSlot
  (repeat' split) <;> simp [foldl_window]

@[simp] theorem State.window_closeClaim (s : State) (b : Block) : (s.closeClaim b).window = s.window := by
  rfl

@[simp] theorem State.window_retargetClaims (s : State) (bs : List Block) : (s.retargetClaims bs).window = s.window := by
  unfold State.retargetClaims
  simp [apply_ite State.window, foldl_window]

@[simp] theorem State.window_dropClaims (s : State) (b : Block) : (s.dropClaims b).window = s.window := by
  rfl

@[simp] theorem State.window_endYield (s : State) (b : Block) : (s.endYield b).window = s.window := by
  unfold State.endYield
  simp [apply_ite State.window, foldl_window]

@[simp] theorem State.window_dropClaimant (s : State) (p : Station) : (s.dropClaimant p).window = s.window := by
  unfold State.dropClaimant
  simp [apply_ite State.window, foldl_window]

@[simp] theorem State.window_dropOrphanClaims (s : State) : (s.dropOrphanClaims).window = s.window := by
  rfl

@[simp] theorem State.window_startAttempt (s : State) (b : Block) (attempt : Nat) (source : Station) : (s.startAttempt b attempt source).window = s.window := by
  unfold State.startAttempt
  simp [apply_ite State.window, foldl_window]

@[simp] theorem State.window_nextAttempt (s : State) (b : Block) (attempt : Nat) : (s.nextAttempt b attempt).window = s.window := by
  unfold State.nextAttempt
  simp

@[simp] theorem State.window_openFetch (s : State) (b : Block) : (s.openFetch b).window = s.window := by
  unfold State.openFetch
  simp

@[simp] theorem State.window_closeFetch (s : State) (b : Block) : (s.closeFetch b).window = s.window := by
  rfl

@[simp] theorem State.window_endHold (s : State) (b : Block) : (s.endHold b).window = s.window := by
  rfl

@[simp] theorem State.window_makeStale (s : State) (b : Block) : (s.makeStale b).window = s.window := by
  unfold State.makeStale
  simp [apply_ite State.window, foldl_window]

@[simp] theorem State.window_raiseSeen (s : State) (b : Block) (v : Version) : (s.raiseSeen b v).window = s.window := by
  unfold State.raiseSeen
  (repeat' split) <;> simp [foldl_window]

@[simp] theorem State.window_failFetch (s : State) (b : Block) (source : Station) : (s.failFetch b source).window = s.window := by
  unfold State.failFetch
  simp

@[simp] theorem State.window_endAttempt (s : State) (c : FetchSlot) : (s.endAttempt c).window = s.window := by
  unfold State.endAttempt
  simp [apply_ite State.window, foldl_window]

@[simp] theorem State.window_retargetFetch (g : Option Station) (s : State) (c : FetchSlot) : (s.retargetFetch g c).window = s.window := by
  unfold State.retargetFetch
  simp [apply_ite State.window, foldl_window]

@[simp] theorem State.window_retargetFetches (s : State) (g : Option Station) : (s.retargetFetches g).window = s.window := by
  unfold State.retargetFetches
  simp [apply_ite State.window, foldl_window]

@[simp] theorem State.window_sendSnapq (s : State) : (s.sendSnapq).window = s.window := by
  rfl

@[simp] theorem State.window_endSnapq (s : State) : (s.endSnapq).window = s.window := by
  rfl

@[simp] theorem State.window_queueAnswer (s : State) (a : Answer) : (s.queueAnswer a).window = s.window := by
  unfold State.queueAnswer
  simp [apply_ite State.window, foldl_window]

@[simp] theorem State.window_clearJob (s : State) : (s.clearJob).window = s.window := by
  rfl

@[simp] theorem State.window_offerFlaggers (s : State) (rs : List SettleRecord) : (s.offerFlaggers rs).window = s.window := by
  unfold State.offerFlaggers
  apply foldl_window
  intro s r
  split <;> rfl

@[simp] theorem State.window_decideJob (s : State) : (s.decideJob).window = s.window := by
  unfold State.decideJob
  simp [apply_ite State.window, foldl_window]

@[simp] theorem State.window_sendQuery (s : State) : (s.sendQuery).window = s.window := by
  rfl

@[simp] theorem State.window_startJob (s : State) : (s.startJob).window = s.window := by
  unfold State.startJob
  simp [apply_ite State.window, foldl_window]

@[simp] theorem State.window_restartJob (s : State) : (s.restartJob).window = s.window := by
  unfold State.restartJob
  simp [apply_ite State.window, foldl_window]

@[simp] theorem State.window_checkJob (s : State) : (s.checkJob).window = s.window := by
  unfold State.checkJob
  simp [apply_ite State.window, foldl_window]

@[simp] theorem State.window_foldVersions (s : State) (p : Station) (last : Bool) (es : List VersionsEntry) : (s.foldVersions p last es).window = s.window := by
  rfl

@[simp] theorem State.window_replyToQuery (s : State) (q : Station) (r : Round) (bitmap : List Byte) : (s.replyToQuery q r bitmap).window = s.window := by
  unfold State.replyToQuery
  simp [apply_ite State.window, foldl_window]

@[simp] theorem State.window_closeBatch (s : State) : (s.closeBatch).window = s.window := by
  unfold State.closeBatch
  (repeat' split) <;> simp [foldl_window]

@[simp] theorem State.window_makeBatchDue (s : State) : (s.makeBatchDue).window = s.window := by
  rfl

@[simp] theorem State.window_closeOrDue (s : State) : (s.closeOrDue).window = s.window := by
  unfold State.closeOrDue
  simp [apply_ite State.window, foldl_window]

@[simp] theorem State.window_offerRefused (s : State) (a : WindowAddr) : (s.offerRefused a).window = s.window := by
  rfl

@[simp] theorem State.window_holdWrite (s : State) (a : WindowAddr) (x : Word) : (s.holdWrite a x).window = s.window := by
  unfold State.holdWrite
  dsimp only
  (repeat' split) <;> simp [apply_ite State.window, foldl_window]

@[simp] theorem State.window_closeIfFull (s : State) : (s.closeIfFull).window = s.window := by
  unfold State.closeIfFull
  simp [apply_ite State.window, foldl_window]

@[simp] theorem State.window_discardHeld (s : State) (b : Block) : (s.discardHeld b).window = s.window := by
  unfold State.discardHeld
  simp [apply_ite State.window, foldl_window]

@[simp] theorem State.window_offerDiscarded (s : State) (bs : List Block) : (s.offerDiscarded bs).window = s.window := by
  unfold State.offerDiscarded
  simp [apply_ite State.window, foldl_window]

@[simp] theorem State.window_discardBatch (s : State) (b : Block) : (s.discardBatch b).window = s.window := by
  unfold State.discardBatch
  (repeat' split) <;> simp [foldl_window]

@[simp] theorem State.window_silence (s : State) : (s.silence).window = s.window := by
  rfl

@[simp] theorem State.window_refuseWaiting (s : State) : (s.refuseWaiting).window = s.window := by
  unfold State.refuseWaiting
  (repeat' split) <;> simp [foldl_window]

@[simp] theorem State.window_teardown (s : State) (new : StationState) : (s.teardown new).window = s.window := by
  unfold State.teardown
  simp

@[simp] theorem State.window_enterListening (s : State) : (s.enterListening).window = s.window := by
  rfl

@[simp] theorem State.window_sendJoin (s : State) : (s.sendJoin).window = s.window := by
  rfl

@[simp] theorem State.window_enterJoining (s : State) : (s.enterJoining).window = s.window := by
  rfl

@[simp] theorem State.window_depart (s : State) (detail : Word) : (s.depart detail).window = s.window := by
  unfold State.depart
  simp

@[simp] theorem State.window_isolate (s : State) : (s.isolate).window = s.window := by
  unfold State.isolate
  simp [apply_ite State.window, foldl_window]

@[simp] theorem State.window_clash (s : State) (l : LaneId) (kind : Byte) : (s.clash l kind).window = s.window := by
  unfold State.clash
  simp

@[simp] theorem State.window_takeRegistrar (s : State) : (s.takeRegistrar).window = s.window := by
  unfold State.takeRegistrar
  simp [apply_ite State.window, foldl_window]

@[simp] theorem State.window_peersChanged (s : State) (g : Option Station) : (s.peersChanged g).window = s.window := by
  unfold State.peersChanged
  simp [apply_ite State.window, foldl_window]

@[simp] theorem State.window_dropAnswers (s : State) (p : Station) : (s.dropAnswers p).window = s.window := by
  rfl

@[simp] theorem State.window_retargetFrom (s : State) (p : Station) : (s.retargetFrom p).window = s.window := by
  unfold State.retargetFrom
  simp

@[simp] theorem State.window_excludeEntry (cause : Cause) (s : State) (p : Station) : (s.excludeEntry cause p).window = s.window := by
  unfold State.excludeEntry
  simp [apply_ite State.window]

@[simp] theorem State.window_excludeAll (s : State) (ps : List Station) (cause : Cause) (restart : Bool) : (s.excludeAll ps cause restart).window = s.window := by
  unfold State.excludeAll
  simp [apply_ite State.window, foldl_window]

@[simp] theorem State.window_exclude (s : State) (p : Station) (cause : Cause) (restart : Bool) : (s.exclude p cause restart).window = s.window := by
  unfold State.exclude
  simp

@[simp] theorem State.window_askExclude (s : State) (p : Station) (cause : Cause) : (s.askExclude p cause).window = s.window := by
  unfold State.askExclude
  simp [apply_ite State.window]

@[simp] theorem State.window_decideExcludes (s : State) (ps : List Station) (cause : Cause) (restart : Bool) : (s.decideExcludes ps cause restart).window = s.window := by
  unfold State.decideExcludes
  simp [apply_ite State.window, foldl_window]

@[simp] theorem State.window_decideExclude (s : State) (p : Station) (cause : Cause) (restart : Bool) : (s.decideExclude p cause restart).window = s.window := by
  unfold State.decideExclude
  simp

@[simp] theorem State.window_enterLive (s : State) : (s.enterLive).window = s.window := by
  unfold State.enterLive
  simp

@[simp] theorem State.window_testLive (s : State) : (s.testLive).window = s.window := by
  unfold State.testLive
  simp [apply_ite State.window, foldl_window]

@[simp] theorem State.window_closeClaims (s : State) : (s.closeClaims).window = s.window := by
  unfold State.closeClaims
  simp [apply_ite State.window, foldl_window]

@[simp] theorem State.window_emptyClaimList (s : State) : (s.emptyClaimList).window = s.window := by
  unfold State.emptyClaimList
  simp [apply_ite State.window, foldl_window]

@[simp] theorem State.window_enterLeaving (s : State) : (s.enterLeaving).window = s.window := by
  unfold State.enterLeaving
  simp

@[simp] theorem State.window_mismatch (s : State) (b : Block) (sender : Station) (detail : Word) : (s.mismatch b sender detail).window = s.window := by
  rfl

@[simp] theorem State.window_loseBlock (s : State) (b : Block) (sender : Station) (e : Epoch) : (s.loseBlock b sender e).window = s.window := by
  unfold State.loseBlock
  simp

@[simp] theorem State.window_takeOwner (s : State) (b : Block) (sender owner : Station) (e : Epoch) (donor : Option Station) : (s.takeOwner b sender owner e donor).window = s.window := by
  unfold State.takeOwner
  simp [apply_ite State.window, foldl_window]

@[simp] theorem State.window_copyNotGained (s : State) (b : Block) (sender : Station) (v : Version) : (s.copyNotGained b sender v).window = s.window := by
  unfold State.copyNotGained
  (repeat' split) <;> simp [foldl_window]

@[simp] theorem State.window_copyGained (s : State) (b : Block) (sender : Station) (v : Version) : (s.copyGained b sender v).window = s.window := by
  unfold State.copyGained
  (repeat' split) <;> simp [foldl_window]

@[simp] theorem State.window_dropDonorIfCurrent (s : State) (b : Block) : (s.dropDonorIfCurrent b).window = s.window := by
  unfold State.dropDonorIfCurrent
  simp [apply_ite State.window, foldl_window]

@[simp] theorem State.window_ownershipEntry (s : State) (sender : Station) (b : Block) (owner : Station) (e : Epoch) (v : Version) (donor : Option Station) : (s.ownershipEntry sender b owner e v donor).window = s.window := by
  unfold State.ownershipEntry
  simp [apply_ite State.window, foldl_window]

@[simp] theorem State.window_handoverEntry (s : State) (sender owner : Station) (h : HandoverEntry) : (s.handoverEntry sender owner h).window = s.window := by
  unfold State.handoverEntry
  simp

@[simp] theorem State.window_settleEntry (s : State) (sender : Station) (t : SettleEntry) : (s.settleEntry sender t).window = s.window := by
  unfold State.settleEntry
  simp

@[simp] theorem State.window_snapEntry (s : State) (b : Block) (t : SnapEntry) : (s.snapEntry b t).window = s.window := by
  unfold State.snapEntry
  simp [apply_ite State.window, foldl_window]

@[simp] theorem State.window_snapEntries (s : State) (p : Part) (es : List SnapEntry) : (s.snapEntries p es).window = s.window := by
  unfold State.snapEntries
  simp [apply_ite State.window, foldl_window]

@[simp] theorem State.window_digestMismatch (s : State) (b : Block) (sender : Station) (v : Version) : (s.digestMismatch b sender v).window = s.window := rfl

@[simp] theorem State.window_digestEntry (s : State) (sender : Station) (d : DigestEntry) : (s.digestEntry sender d).window = s.window := by
  unfold State.digestEntry
  dsimp only
  (repeat' split) <;> simp [apply_ite State.window, foldl_window]

@[simp] theorem State.window_takeStatus (s : State) (shown : MemberState) : (s.takeStatus shown).2.window = s.window := by
  rfl

@[simp] theorem State.window_takeReplay (s : State) (e : ReplayEntry) : (s.takeReplay e).2.window = s.window := by
  rfl

@[simp] theorem State.window_buildAnswer (s : State) (y : Answer) : (s.buildAnswer y).2.window = s.window := by
  unfold State.buildAnswer
  (repeat' split) <;> simp [foldl_window]

@[simp] theorem State.window_takeAnswer (s : State) (a : Answer) : (s.takeAnswer a).2.window = s.window := by
  unfold State.takeAnswer
  simp

@[simp] theorem State.window_takeRequest (s : State) (r : Request) : (s.takeRequest r).2.window = s.window := by
  rfl

@[simp] theorem State.window_takeDigest (s : State) (bs : List Block) : (s.takeDigest bs).2.window = s.window := by
  rfl

@[simp] theorem State.window_give (s : State) (f : Frame) : (s.give f).window = s.window := by
  unfold State.give
  dsimp only
  (repeat' split) <;> simp [apply_ite State.window, foldl_window]

@[simp] theorem State.window_release (s : State) : (s.release).window = s.window := by
  unfold State.release
  simp [apply_ite State.window, foldl_window]

theorem State.window_takeQueued (s : State) (p : Frame × State) (h : p ∈ s.takeQueued) : p.2.window = s.window := by
  unfold State.takeQueued at h
  repeat' split at h
  · simp only [Option.mem_def, Option.some.injEq] at h
    subst h
    simp
  · simp only [Option.mem_def, Option.map_eq_some_iff] at h
    obtain ⟨a, -, rfl⟩ := h
    simp
  · simp at h
  · simp at h

theorem State.window_takeOther (s : State) (p : Frame × State) (h : p ∈ s.takeOther) : p.2.window = s.window := by
  unfold State.takeOther at h
  repeat' split at h
  all_goals first
    | (simp at h; done)
    | (simp only [Option.mem_def, Option.some.injEq] at h
       subst h
       simp)

theorem State.window_nextTake (s : State) (p : Frame × State) (h : p ∈ s.nextTake) : p.2.window = s.window := by
  unfold State.nextTake at h
  split at h
  · simp only [Option.mem_def, Option.some.injEq] at h
    subst h
    simp
  · cases hq : s.takeQueued with
    | none => rw [hq] at h; exact s.window_takeOther p h
    | some q => rw [hq] at h; exact s.window_takeQueued p (by rw [hq]; exact h)

@[simp] theorem State.window_pump (s : State) : s.pump.window = s.window := by
  unfold State.pump
  dsimp only
  split
  · split
    · simp
    · next f t h => simpa using State.window_nextTake _ _ h
  · simp

@[simp] theorem State.window_markDone (s : State) (y : LaneId) : (s.markDone y).window = s.window := by
  unfold State.markDone
  (repeat' split) <;> simp [foldl_window]

@[simp] theorem State.window_lostLanes (s : State) : (s.lostLanes).window = s.window := by
  unfold State.lostLanes
  simp [apply_ite State.window, foldl_window]

@[simp] theorem State.window_gainedLane (s : State) : (s.gainedLane).window = s.window := by
  unfold State.gainedLane
  (repeat' split) <;> simp [foldl_window]

@[simp] theorem State.window_laneDown (s : State) (l : LaneId) (detail : Word) : (s.laneDown l detail).window = s.window := by
  unfold State.laneDown
  simp [apply_ite State.window, foldl_window]

@[simp] theorem State.window_laneReturn (s : State) (l : LaneId) : (s.laneReturn l).window = s.window := by
  unfold State.laneReturn
  simp [apply_ite State.window, foldl_window]

@[simp] theorem State.window_weigh (s : State) (l : LaneId) (up down : Nat) : (s.weigh l up down).window = s.window := by
  unfold State.weigh
  simp [apply_ite State.window, foldl_window]

@[simp] theorem State.window_bring (s : State) (l : LaneId) (cells : List LineCell) : (s.bring l cells).window = s.window := by
  unfold State.bring
  simp

@[simp] theorem State.window_frameEnds (s : State) (l : LaneId) : (s.frameEnds l).window = s.window := by
  unfold State.frameEnds
  simp

@[simp] theorem State.window_badFrame (s : State) (l : LaneId) (f : FrameBuffer) : (s.badFrame l f).window = s.window := by
  unfold State.badFrame
  simp

@[simp] theorem State.window_probationFrame (s : State) (l : LaneId) (f : FrameBuffer) : (s.probationFrame l f).window = s.window := by
  unfold State.probationFrame
  simp [apply_ite State.window, foldl_window]

@[simp] theorem State.window_laneDone (s : State) (l : LaneId) : (s.laneDone l).window = s.window := by
  unfold State.laneDone
  simp

@[simp] theorem State.window_passOn (s : State) (c : Station) (bs : List Block) : (s.passOn c bs).window = s.window := by
  unfold State.passOn
  simp [apply_ite State.window, foldl_window]

@[simp] theorem State.window_handOver (s : State) (c : Station) (bs : List Block) : (s.handOver c bs).window = s.window := by
  unfold State.handOver
  simp [apply_ite State.window, foldl_window]

@[simp] theorem State.window_serve (s : State) : (s.serve).window = s.window := by
  unfold State.serve
  (repeat' split) <;> simp [foldl_window]

@[simp] theorem State.window_retireHead (s : State) : (s.retireHead).window = s.window := by
  unfold State.retireHead
  simp [apply_ite State.window, foldl_window]

@[simp] theorem State.window_releaseBlock (s : State) (b : Block) : (s.releaseBlock b).window = s.window := by
  unfold State.releaseBlock
  simp [apply_ite State.window, foldl_window]

@[simp] theorem State.window_announceNext (s : State) : (s.announceNext).window = s.window := by
  unfold State.announceNext
  simp [apply_ite State.window, foldl_window]

@[simp] theorem State.window_enqueueWaiting (s : State) (p : Station) : (s.enqueueWaiting p).window = s.window := by
  unfold State.enqueueWaiting
  (repeat' split) <;> simp [foldl_window]

@[simp] theorem State.window_foreignStatus (s : State) (shown : MemberState) (mask : StationMask) : (s.foreignStatus shown mask).window = s.window := by
  unfold State.foreignStatus
  simp [apply_ite State.window, foldl_window]

@[simp] theorem State.window_useStatus (s : State) (p : Station) (shown : MemberState) (mask known : StationMask) (receipts : List Byte) (welcome : List (Station × SeqNo)) : (s.useStatus p shown mask known receipts welcome).window = s.window := by
  unfold State.useStatus
  simp [apply_ite State.window, foldl_window]

@[simp] theorem State.window_memberStatus (s : State) (p : Station) (shown : MemberState) (mask known : StationMask) (receipts : List Byte) (welcome : List (Station × SeqNo)) : (s.memberStatus p shown mask known receipts welcome).window = s.window := by
  unfold State.memberStatus
  (repeat' split) <;> simp [foldl_window]

@[simp] theorem State.window_admitJoiner (s : State) (j : Station) : (s.admitJoiner j).window = s.window := by
  unfold State.admitJoiner
  simp

@[simp] theorem State.window_joinArrive (s : State) (j : Station) : (s.joinArrive j).window = s.window := by
  unfold State.joinArrive
  simp [apply_ite State.window, foldl_window]

@[simp] theorem State.window_admitArrive (s : State) (j : Station) : (s.admitArrive j).window = s.window := by
  unfold State.admitArrive
  simp [apply_ite State.window, foldl_window]

@[simp] theorem State.window_admitted (s : State) (sender : Station) (q : SeqNo) (mask : StationMask) : (s.admitted sender q mask).window = s.window := by
  unfold State.admitted
  simp

@[simp] theorem State.window_excludeArrive (s : State) (sender p : Station) (cause : Cause) : (s.excludeArrive sender p cause).window = s.window := by
  unfold State.excludeArrive
  simp [apply_ite State.window, foldl_window]

@[simp] theorem State.window_claimArrive (s : State) (sender : Station) (b : Block) : (s.claimArrive sender b).window = s.window := by
  unfold State.claimArrive
  simp [apply_ite State.window, foldl_window]

@[simp] theorem State.window_fetchArrive (s : State) (sender : Station) (b : Block) : (s.fetchArrive sender b).window = s.window := by
  unfold State.fetchArrive
  simp [apply_ite State.window, foldl_window]

@[simp] theorem State.window_snapqArrive (s : State) (sender : Station) (parts : Word) : (s.snapqArrive sender parts).window = s.window := by
  unfold State.snapqArrive
  simp [apply_ite State.window, foldl_window]

@[simp] theorem State.window_copyNotCurrentArrive (s : State) (sender : Station) (b : Block) : (s.copyNotCurrentArrive sender b).window = s.window := by
  unfold State.copyNotCurrentArrive
  (repeat' split) <;> simp [foldl_window]

@[simp] theorem State.window_snapArrive (s : State) (sender : Station) (p : Part) (es : List SnapEntry) : (s.snapArrive sender p es).window = s.window := by
  unfold State.snapArrive
  dsimp only
  (repeat' split) <;> simp [apply_ite State.window, foldl_window]

@[simp] theorem State.window_defer (s : State) : (s.defer).window = s.window := by
  rfl

@[simp] theorem State.window_queryArrive (s : State) (sender : Station) (r : Round) (bitmap : List Byte) : (s.queryArrive sender r bitmap).window = s.window := by
  unfold State.queryArrive
  simp [apply_ite State.window, foldl_window]

@[simp] theorem State.window_versionsArrive (s : State) (sender : Station) (r : Round) (last : Bool) (es : List VersionsEntry) : (s.versionsArrive sender r last es).window = s.window := by
  unfold State.versionsArrive
  simp [apply_ite State.window, foldl_window]

@[simp] theorem State.window_digestArrive (s : State) (sender : Station) (es : List DigestEntry) : (s.digestArrive sender es).window = s.window := by
  unfold State.digestArrive
  simp [apply_ite State.window, foldl_window]

@[simp] theorem State.window_deliverJoining (s : State) (f : Frame) : (s.deliverJoining f).window = s.window := by
  unfold State.deliverJoining
  (repeat' split) <;> simp [foldl_window]

@[simp] theorem State.window_heard (s : State) (k : Kind) : (s.heard k).window = s.window := by
  unfold State.heard
  (repeat' split) <;> simp [foldl_window]

@[simp] theorem State.window_malformed (s : State) (l : LaneId) (r : RawFrame) : (s.malformed l r).window = s.window := by
  rfl

@[simp] theorem State.window_hear (s : State) (p : Station) : (s.hear p).window = s.window := by
  unfold State.hear
  simp [apply_ite State.window, foldl_window]

@[simp] theorem State.window_dropWaiting (s : State) : (s.dropWaiting).window = s.window := by
  unfold State.dropWaiting
  (repeat' split) <;> simp [foldl_window]

@[simp] theorem State.window_holdReached (s : State) : (s.holdReached).window = s.window := by
  unfold State.holdReached
  simp [apply_ite State.window, foldl_window]

@[simp] theorem State.window_closeDueBatch (s : State) : (s.closeDueBatch).window = s.window := by
  unfold State.closeDueBatch
  simp [apply_ite State.window, foldl_window]

@[simp] theorem State.window_leavePending (s : State) : (s.leavePending).window = s.window := by
  unfold State.leavePending
  simp

@[simp] theorem State.window_abortMark (s : State) (l : LaneId) : (s.abortMark l).window = s.window := by
  unfold State.abortMark
  simp [apply_ite State.window, foldl_window]

@[simp] theorem State.window_stuckLine (s : State) (l : LaneId) : (s.stuckLine l).window = s.window := by
  unfold State.stuckLine
  simp [apply_ite State.window, foldl_window]

@[simp] theorem State.window_restEnd (s : State) (l : LaneId) : (s.restEnd l).window = s.window := by
  unfold State.restEnd
  simp [apply_ite State.window, foldl_window]

@[simp] theorem State.window_attemptStart (s : State) (l : LaneId) : (s.attemptStart l).window = s.window := by
  unfold State.attemptStart
  simp [apply_ite State.window, foldl_window]

@[simp] theorem State.window_collision (s : State) (l : LaneId) (readback : Option RxChar) : (s.collision l readback).window = s.window := by
  unfold State.collision
  simp [apply_ite State.window, foldl_window]

@[simp] theorem State.window_abortMarkEnd (s : State) (l : LaneId) : (s.abortMarkEnd l).window = s.window := by
  unfold State.abortMarkEnd
  simp [apply_ite State.window, foldl_window]

@[simp] theorem State.window_frameSent (s : State) (l : LaneId) : (s.frameSent l).window = s.window := by
  unfold State.frameSent
  simp [apply_ite State.window, foldl_window]

@[simp] theorem State.window_claimExpires (s : State) (b : Block) : (s.claimExpires b).window = s.window := by
  unfold State.claimExpires
  (repeat' split) <;> simp [foldl_window]

@[simp] theorem State.window_serveIfFree (s : State) : (s.serveIfFree).window = s.window := by
  unfold State.serveIfFree
  simp [apply_ite State.window, foldl_window]

@[simp] theorem State.window_replayExpires (s : State) : (s.replayExpires).window = s.window := by
  unfold State.replayExpires
  (repeat' split) <;> simp [foldl_window]

@[simp] theorem State.window_receiptAges (s : State) : (s.receiptAges).window = s.window := by
  unfold State.receiptAges
  simp [apply_ite State.window, foldl_window]

@[simp] theorem State.window_enqueueIfFree (s : State) (p : Station) : (s.enqueueIfFree p).window = s.window := by
  unfold State.enqueueIfFree
  simp [apply_ite State.window, foldl_window]

@[simp] theorem State.window_joinExpires (s : State) : (s.joinExpires).window = s.window := by
  unfold State.joinExpires
  simp [apply_ite State.window, foldl_window]

@[simp] theorem State.window_silenceExpires (s : State) (p : Station) : (s.silenceExpires p).window = s.window := by
  unfold State.silenceExpires
  simp [apply_ite State.window, foldl_window]

@[simp] theorem State.window_handToHeir (s : State) : (s.handToHeir).window = s.window := by
  unfold State.handToHeir
  simp [apply_ite State.window, foldl_window]

@[simp] theorem State.window_askLeave (s : State) : (s.askLeave).window = s.window := by
  unfold State.askLeave
  simp [apply_ite State.window, foldl_window]

@[simp] theorem State.window_departureEnds (s : State) : (s.departureEnds).window = s.window := by
  unfold State.departureEnds
  simp [apply_ite State.window, foldl_window]

@[simp] theorem State.window_snapqExpires (s : State) : (s.snapqExpires).window = s.window := by
  unfold State.snapqExpires
  simp [apply_ite State.window, foldl_window]

@[simp] theorem State.window_openNextFetch (s : State) : (s.openNextFetch).window = s.window := by
  unfold State.openNextFetch
  (repeat' split) <;> simp [foldl_window]

@[simp] theorem State.window_fetchExpires (s : State) (b : Block) : (s.fetchExpires b).window = s.window := by
  unfold State.fetchExpires
  (repeat' split) <;> simp [foldl_window]

@[simp] theorem State.window_holdExpires (s : State) (b : Block) : (s.holdExpires b).window = s.window := by
  unfold State.holdExpires
  simp [apply_ite State.window, foldl_window]

@[simp] theorem State.window_startIfWanted (s : State) : (s.startIfWanted).window = s.window := by
  unfold State.startIfWanted
  simp [apply_ite State.window, foldl_window]

@[simp] theorem State.window_queryLimit (s : State) : (s.queryLimit).window = s.window := by
  unfold State.queryLimit
  simp [apply_ite State.window, foldl_window]

@[simp] theorem State.window_queryExpires (s : State) : (s.queryExpires).window = s.window := by
  unfold State.queryExpires
  simp [apply_ite State.window, foldl_window]

@[simp] theorem State.window_settleIfFree (s : State) : (s.settleIfFree).window = s.window := by
  unfold State.settleIfFree
  simp [apply_ite State.window, foldl_window]

@[simp] theorem State.window_deferenceExpires (s : State) : (s.deferenceExpires).window = s.window := by
  unfold State.deferenceExpires
  simp [apply_ite State.window, foldl_window]

@[simp] theorem State.window_digestExpires (s : State) : (s.digestExpires).window = s.window := by
  unfold State.digestExpires
  simp [apply_ite State.window, foldl_window]

end Sys2Proof.Machine
end

