-- ==== Sys2Proof/Laws/Window.lean ====
section
/-! SUPPORT. Window Memory: what a read gives after a store, that stores keep the canonical form, and that equal reads are equal windows; tables: look, put, replicate. -/

namespace Sys2Proof.Machine

/-! ## Reading after a store -/

theorem Window.read_of_wfFrom {lo : Nat} {w : Window} (h : Window.wfFrom lo w = true) {a : Nat} (ha : a < lo) :
    w.read a = 0 := by
  cases w with
  | nil => rfl
  | cons p w =>
    obtain ⟨k, v⟩ := p
    simp only [Window.wfFrom, Bool.and_eq_true, decide_eq_true_eq] at h
    have : a < k := by omega
    simp [Window.read, Nat.ne_of_lt this, this]

theorem Window.wfFrom_mono {lo lo' : Nat} {w : Window} (h : Window.wfFrom lo w = true) (hl : lo' ≤ lo) :
    Window.wfFrom lo' w = true := by
  cases w with
  | nil => rfl
  | cons p w =>
    obtain ⟨k, v⟩ := p
    simp only [Window.wfFrom, Bool.and_eq_true, decide_eq_true_eq] at h ⊢
    exact ⟨⟨⟨by omega, h.1.1.2⟩, h.1.2⟩, h.2⟩

/-- A store keeps the canonical form (R1). -/
theorem Window.wfFrom_store {lo : Nat} {w : Window} (h : Window.wfFrom lo w = true) {a : Nat} (hlo : lo ≤ a)
    (ha : a < 8192) (x : Word) : Window.wfFrom lo (w.store a x) = true := by
  induction w generalizing lo with
  | nil =>
    by_cases hx : x = 0#16
    · simp [Window.store, hx, Window.wfFrom]
    · simp [Window.store, hx, Window.wfFrom, hlo, ha]
  | cons p w ih =>
    obtain ⟨k, v⟩ := p
    simp only [Window.wfFrom, Bool.and_eq_true, decide_eq_true_eq] at h
    obtain ⟨⟨⟨h1, h2⟩, h3⟩, h4⟩ := h
    unfold Window.store
    by_cases hak : a = k
    · subst hak
      by_cases hx : x = 0#16
      · simp only [hx, if_true]
        exact Window.wfFrom_mono h4 (by omega)
      · simp [hx, Window.wfFrom, h1, h2, h4]
    · by_cases hlt : a < k
      · by_cases hx : x = 0#16
        · have h5 : ¬v = 0#16 := h3
          simp [hak, hlt, hx, Window.wfFrom, h1, h2, h4, h5]
        · have h5 : ¬v = 0#16 := h3
          have h6 : a + 1 ≤ k := hlt
          simp [hak, hlt, hx, Window.wfFrom, hlo, ha, h2, h4, h5, h6]
      · simp only [hak, hlt, if_false, Window.wfFrom, Bool.and_eq_true, decide_eq_true_eq]
        exact ⟨⟨⟨h1, h2⟩, h3⟩, ih h4 (by omega)⟩

/-- A store keeps the canonical form (R1). -/
theorem Window.wf_store {w : Window} (h : w.wf = true) {a : Nat} (ha : a < 8192) (x : Word) : (w.store a x).wf = true :=
  Window.wfFrom_store h (Nat.zero_le _) ha x

/-- Storing a block's writes keeps the canonical form. -/
theorem Window.wf_storeBlock {w : Window} (h : w.wf = true) (b : Block) (es : List WordWrite) :
    (w.storeBlock b es).wf = true := by
  induction es generalizing w with
  | nil => exact h
  | cons e es ih => exact ih (Window.wf_store h (addrOf b e.offset).isLt e.value)

/-- A read after a store: the stored word at its address, every other word as before. -/
theorem Window.read_store_from {lo : Nat} {w : Window} (h : Window.wfFrom lo w = true) (a c : Nat) (x : Word) :
    (w.store a x).read c = if c = a then x else w.read c := by
  induction w generalizing lo with
  | nil =>
    by_cases hx : x = 0#16
    · by_cases hc : c = a <;> simp [Window.store, hx, Window.read, hc]
    · by_cases hc : c = a
      · simp [Window.store, hx, Window.read, hc]
      · by_cases hl : c < a <;> simp [Window.store, hx, Window.read, hc, hl]
  | cons p w ih =>
    obtain ⟨k, v⟩ := p
    simp only [Window.wfFrom, Bool.and_eq_true, decide_eq_true_eq] at h
    obtain ⟨-, h4⟩ := h
    have low : ∀ d, d ≤ k → Window.read w d = 0#16 := fun d hd =>
      Window.read_of_wfFrom (lo := k + 1) h4 (by omega)
    unfold Window.store
    by_cases hak : a = k
    · subst hak
      by_cases hx : x = 0#16
      · by_cases hc : c = a
        · simp [hx, hc, low]
        · by_cases hl : c < a
          · simp [hx, hc, Window.read, hl, low c (by omega)]
          · simp [hx, hc, Window.read, hl]
      · by_cases hc : c = a <;> simp [hx, hc, Window.read]
    · by_cases hlt : a < k
      · by_cases hx : x = 0#16
        · by_cases hc : c = a
          · simp [hak, hlt, hx, hc, Window.read]
          · simp [hak, hlt, hx, hc]
        · by_cases hc : c = a
          · simp [hak, hlt, hx, hc, Window.read]
          · by_cases hl : c < a
            · have h1 : c ≠ k := by omega
              have h2 : c < k := by omega
              simp [hak, hlt, hx, hc, Window.read, hl, h1, h2]
            · simp [hak, hlt, hx, hc, Window.read, hl]
      · simp only [hak, hlt, if_false, Window.read]
        by_cases hc : c = k
        · have : k ≠ a := fun e => hak e.symm
          simp [hc, this]
        · by_cases hl : c < k
          · have : c ≠ a := by omega
            simp [hc, hl, this]
          · simp [hc, hl, ih h4]

/-- A read after a store (R1). -/
theorem Window.read_store {w : Window} (h : w.wf = true) (a c : Nat) (x : Word) :
    (w.store a x).read c = if c = a then x else w.read c := Window.read_store_from h a c x

/-- A word outside a block reads as before after the block's writes. -/
theorem Window.read_storeBlock_outside {w : Window} (h : w.wf = true) (b : Block) (es : List WordWrite) (c : Nat)
    (hc : ∀ e ∈ es, c ≠ (addrOf b e.offset).val) : (w.storeBlock b es).read c = w.read c := by
  induction es generalizing w with
  | nil => rfl
  | cons e es ih =>
    have hne : c ≠ (addrOf b e.offset).val := hc e (by simp)
    have := ih (Window.wf_store h (addrOf b e.offset).isLt e.value) (fun x hx => hc x (by simp [hx]))
    rw [Window.storeBlock, List.foldl_cons]
    rw [Window.storeBlock] at this
    rw [this, Window.read_store h, if_neg hne]

/-- Reset memory is canonical and lists nothing. -/
theorem Window.wf_nil : Window.wf [] = true := rfl

/-! ## Tables -/

@[simp] theorem look_put_same {α : Type} {n : Nat} (t : Vector α n) (i : Fin n) (x : α) : look (put t i x) i = x := by
  simp [look, put]

theorem look_put_ne {α : Type} {n : Nat} (t : Vector α n) (i j : Fin n) (x : α) (h : j ≠ i) :
    look (put t i x) j = look t j := by
  have : i.val ≠ j.val := fun e => h (Fin.ext e.symm)
  simp [look, put, this]

theorem look_put {α : Type} {n : Nat} (t : Vector α n) (i j : Fin n) (x : α) :
    look (put t i x) j = if j = i then x else look t j := by
  by_cases h : j = i
  · simp [h]
  · simp [h, look_put_ne t i j x h]

@[simp] theorem look_replicate {α : Type} {n : Nat} (x : α) (i : Fin n) : look (Vector.replicate n x) i = x := by
  simp [look]

@[simp] theorem look_mapTable {α : Type} {n : Nat} (f : α → α) (t : Vector α n) (i : Fin n) :
    look (mapTable f t) i = f (look t i) := by
  simp [look, mapTable]

/-! ## Directory entries and peers -/

@[simp] theorem State.entry_setEntry_same (s : State) (b : Block) (e : DirEntry) : (s.setEntry b e).entry b = e := by
  simp [State.entry, State.setEntry]

theorem State.entry_setEntry (s : State) (b c : Block) (e : DirEntry) :
    (s.setEntry b e).entry c = if c = b then e else s.entry c := by
  simp [State.entry, State.setEntry, look_put]

@[simp] theorem State.peer_setPeer_same (s : State) (p : Station) (x : Peer) : (s.setPeer p x).peer p = x := by
  simp [State.peer, State.setPeer]

theorem State.peer_setPeer (s : State) (p q : Station) (x : Peer) :
    (s.setPeer p x).peer q = if q = p then x else s.peer q := by
  simp [State.peer, State.setPeer, look_put]

/-- Teardown keeps epochs and versions, and clears the rest of every entry (R21). -/
theorem State.entry_torn (s : State) (b : Block) :
    look (mapTable DirEntry.tornDown s.dir) b = (s.entry b).tornDown := by simp [State.entry]

end Sys2Proof.Machine
end

