-- ==== Sys2Proof/Laws/Events.lean ====
section
/-! SUPPORT. What an event is where its effect leaves no act to do, and that every command and every step answers a next state. -/

namespace Sys2Proof.Machine

/-- No act is possible: quiesce does nothing. -/
theorem State.quiesce_of_still {s : State} (h : s.still = true) : s.quiesce = s := by
  have h' : s.nextActs = [] := List.isEmpty_iff.mp h
  unfold State.quiesce actLimit State.quiesceFor
  rw [h']

/-- A frame is current that a lane is not done with: nothing is released or taken (R152). -/
theorem State.pump_of_busy {s : State} (h : s.busy = true) : s.pump = s := by
  simp only [State.busy, Bool.and_eq_true, Bool.not_eq_true'] at h
  have hr : s.release = s := by simp [State.release, h.2]
  have hc : s.select.current.isNone = false := by simp [Option.isNone_eq_false_iff, h.1]
  simp [State.pump, hr, hc]

/-- With no incident offered, none is recorded. -/
theorem State.recordOffers_of_empty {s : State} (h : s.log.offered = []) : s.recordOffers = s := by
  obtain ⟨a, b, c, d, e, f, g, i, j, k, l, m, n, o, p, q, log, r, t, u, v⟩ := s
  obtain ⟨x, y, z, off⟩ := log
  simp only at h
  subst h
  rfl

/-- An event whose effect leaves no act to do ends with its take and its incidents alone. -/
theorem State.settleEvent_of_still {s : State} (h : s.still = true) : s.settleEvent = s.closes := by
  rw [State.settleEvent, State.quiesce_of_still h]
  rfl

theorem State.event_of_still {s : State} {f : State → State} (hr : s.resetLow = false)
    (h : (f s.tickStamp).still = true) : s.event f = (f s.tickStamp).closes := by
  simp [State.event, hr, State.settleEvent_of_still h]

/-- An event whose effect leaves one act to do, and that act none, ends with the act, its take and its incidents. -/
theorem State.settleEvent_of_act {s : State} {a : Act} (h : s.nextActs = [a]) (h' : (s.perform a).still = true) :
    s.settleEvent = (s.perform a).closes := by
  have h'' : (s.perform a).nextActs = [] := List.isEmpty_iff.mp h'
  have hq : s.quiesce = s.perform a := by
    simp [State.quiesce, actLimit, State.quiesceFor, h, h'', State.choose]
  rw [State.settleEvent, hq]
  rfl

/-- The same, of the event whole. -/
theorem State.event_of_act {s : State} {f : State → State} {a : Act} (hr : s.resetLow = false)
    (h : (f s.tickStamp).nextActs = [a]) (h' : ((f s.tickStamp).perform a).still = true) :
    s.event f = ((f s.tickStamp).perform a).closes := by
  simp [State.event, hr, State.settleEvent_of_act h h']

theorem State.resetLow_of_portFree {s : State} (hp : s.portFree = true) : s.resetLow = false := by
  simp only [State.portFree, Bool.and_eq_true, Bool.not_eq_true'] at hp
  exact hp.1

theorem State.portEvent_of_still {s : State} {f : State → State} (hp : s.portFree = true)
    (h : (f s.tickStamp).still = true) : s.portEvent f = (f s.tickStamp).closes := by
  simp [State.portEvent, hp, State.event_of_still (State.resetLow_of_portFree hp) h]

theorem State.portEvent_of_act {s : State} {f : State → State} {a : Act} (hp : s.portFree = true)
    (h : (f s.tickStamp).nextActs = [a]) (h' : ((f s.tickStamp).perform a).still = true) :
    s.portEvent f = ((f s.tickStamp).perform a).closes := by
  simp [State.portEvent, hp, State.event_of_act (State.resetLow_of_portFree hp) h h']

/-- The log does not bear on what a unit can do. -/
theorem State.nextActs_setLog (s : State) (g : IncidentLog) : (s.setLog g).nextActs = s.nextActs := rfl

@[simp] theorem State.still_offer (s : State) (o : Offer) : (s.offer o).still = s.still := rfl
@[simp] theorem State.busy_offer (s : State) (o : Offer) : (s.offer o).busy = s.busy := rfl

/-- Every command answers a next state. -/
theorem exec_next (i : Instr) (s : State) : ∃ t, exec i s = .next t := by
  cases i <;> exact ⟨_, rfl⟩

/-- Every step answers a next state. -/
theorem step_next (s : State) : ∃ t, step s = .next t := by
  unfold step
  split
  · exact ⟨_, rfl⟩
  · exact exec_next _ _

end Sys2Proof.Machine
end

