-- ==== Sys2Proof/Certificates/Slice0/Obligations.lean ====
section
/-! DEFINITION. The statements for the provers. Where a statement says what a command leaves, t is the state its rules give: the command answers `t.settleEvent`, which is t with the units' acts of the event, the take that falls in it and its incidents numbered (R152, R167); where `t.still` says that no unit has anything more to do, that is `t.closes`; where one act is named, the event goes on from what it leaves (`goesOn`). -/

open Sys2Proof Sys2Proof.Machine

/-! ## The queue, reset and the setting -/

/-- A step takes the command at the front of the queue and runs it on the rest. -/
def Obligations.StepRunsFront : Prop :=
  ∀ (c : Instr) (rest : List Instr) (s : State), step (s.setPending (c :: rest)) = exec c (s.setPending rest)

/-- On an empty queue a step is one character time (model's choice, log entry 2): the clock counts and wraps, every running
timer counts 1 ct, and each timer that stands at its limit puts its row into the queue; the window, the directory, the
station state, next seq, the current frame, the log and the port stay. -/
def Obligations.IdleStepIsOneCharacterTime : Prop :=
  ∀ s : State, s.pending = [] → s.resetLow = false →
    ∃ t, step s = .next t ∧ t.clock = s.clock + 1 ∧ t.window = s.window ∧ t.dir = s.dir ∧ t.member.state = s.member.state
      ∧ t.seq.next = s.seq.next ∧ t.select.current = s.select.current ∧ t.log = s.log ∧ t.port = s.port
      ∧ t.write.held = s.write.held ∧ t.write.batch = s.write.batch.map (fun b => { b with age := b.age + 1 })
      ∧ t.write.waiting = s.write.waiting.map (fun w => { w with waited := w.waited + 1 })
      ∧ t.claim.slots = s.claim.slots.map (fun c => { c with timer := c.timer.map (· + 1) })
      ∧ t.seq.queue = s.seq.queue.map (fun e => { e with timer := e.timer.map (· + 1) })
      ∧ t.seq.age = s.seq.age.map (fun n => min (n + 1) 64)
      ∧ t.member.listen = s.member.listen.map (· + 1) ∧ t.member.join = s.member.join.map (· + 1)
      ∧ (∀ p, t.peer p = { s.peer p with silence := (s.peer p).silence.map (· + 1) })
      ∧ t.copy.slots = s.copy.slots.map (fun c => { c with timer := c.timer + 1 })
      ∧ t.copy.holds = s.copy.holds.map (fun h => (h.1, h.2 + 1)) ∧ t.copy.snapq = s.copy.snapq.map (· + 1)
      ∧ t.settle.queryTimer = s.settle.queryTimer.map (· + 1) ∧ t.settle.deference = s.settle.deference.map (· + 1)
      ∧ t.audit.timer = s.audit.timer.map (· + 1) ∧ t.select.heartbeat = s.select.heartbeat.map (· + 1)
      ∧ (∀ l, (s.lane l).state = .down → (t.lane l).rest = (s.lane l).rest.map (· + 1))
      ∧ (.batchHold ∈ t.pending ↔ ∃ b, t.write.batch = some b ∧ b.age = 128)
      ∧ (.waitLimit ∈ t.pending ↔ ∃ w, t.write.waiting = some w ∧ w.waited = 8192)
      ∧ (∀ b, .claimTimeout b ∈ t.pending ↔ ∃ c ∈ t.claim.slots, c.block = b ∧ c.timer = some 1024)
      ∧ (.replayTimeout ∈ t.pending ↔ ∃ e rest, t.seq.queue = e :: rest ∧ e.timer = some 512)
      ∧ (.receiptAgeLimit ∈ t.pending ↔ t.seq.urgent = false ∧ t.seq.age = some 64)
      ∧ (.listenTimeout ∈ t.pending ↔ t.member.listen = some 8192)
      ∧ (.joinTimeout ∈ t.pending ↔ t.member.join = some 2048)
      ∧ (∀ p, p ≠ 0 → (.silenceTimeout p ∈ t.pending ↔ (t.peer p).silence = some 6144))
      ∧ (.snapqTimeout ∈ t.pending ↔ t.copy.snapq = some 1024)
      ∧ (∀ b, .fetchTimeout b ∈ t.pending ↔ ∃ c ∈ t.copy.slots, c.block = b ∧ c.timer = 512)
      ∧ (∀ b, .holdEnd b ∈ t.pending ↔ (b, 2048) ∈ t.copy.holds)
      ∧ (.queryTimeout ∈ t.pending ↔ t.settle.queryTimer = some 1024)
      ∧ (.deferenceEnd ∈ t.pending ↔ t.settle.deference = some 4096)
      ∧ (.digestTimeout ∈ t.pending ↔ t.audit.timer = some 512)
      ∧ (.heartbeatTimeout ∈ t.pending ↔ t.select.heartbeat = some 2048)
      ∧ (∀ l, .laneRestEnd l ∈ t.pending ↔ (t.lane l).rest = some 65536)

/-- RESET_RELEASE samples the straps and gives every unit its reset values; the queue is kept. That the port's last word
driven is 0 is the model's choice (log entry 20), and so are the values of the fields that the book gives a use but no
reset value: the queries sent, the number announced, progress, abort mark time, required idle, readback and line (log
entry 21). -/
def Obligations.ResetReleaseGivesResetValues : Prop :=
  ∀ (stn : Station) (dual : Bool) (rate : BitVec 2) (s : State),
    ∃ t, exec (.resetRelease stn dual rate) s = .next t ∧ t.pending = s.pending ∧ t.resetLow = false ∧ t.clock = 0
      ∧ t.member.own = stn ∧ t.dual = dual ∧ t.rate = rate
      ∧ t.member.state = (if stn = 0 then .offline else .listening)
      ∧ t.member.listen = (if stn = 0 then none else some 0) ∧ t.member.registrar = 0 ∧ t.member.join = none
      ∧ t.member.urgentStatus = false ∧ t.member.leavePending = false ∧ t.member.waitingExcludes = []
      ∧ (∀ a, t.window.read a = 0) ∧ (∀ b, t.entry b = DirEntry.reset) ∧ (∀ p, t.peer p = Peer.empty)
      ∧ t.write = WriteUnit.reset ∧ t.claim = ClaimUnit.reset ∧ t.seq = SeqUnit.reset ∧ t.copy = CopyUnit.reset
      ∧ t.settle = SettleUnit.reset ∧ t.audit = AuditUnit.reset ∧ t.log = IncidentLog.reset ∧ t.port = LocalPort.reset
      ∧ t.select = Selector.reset ∧ t.laneA = Lane.reset .up ∧ t.laneB = Lane.reset (if dual then .up else .off)
      ∧ t.attnPin = false ∧ t.waitPin = false

/-- RESET_ASSERT stops all sending and deasserts the pins; while RESET is low reads give 0, and no command but
RESET_ASSERT and RESET_RELEASE changes anything: the book says so of sending and of the port, and for frames, timers and
units it is the model's choice (log entry 10, DEDUCED). -/
def Obligations.ResetAssertSilences : Prop :=
  ∀ s : State,
    (∃ t, exec .resetAssert s = .next t ∧ t.resetLow = true ∧ t.waitPin = false ∧ t.attnPin = false
      ∧ t.txenPin .A = false ∧ t.txenPin .B = false ∧ t.write.waiting = none ∧ t.log.records = []
      ∧ t.select.current = none ∧ (∀ l, (t.lane l).access = .idle) ∧ (∀ a, t.readPort a = 0))
    ∧ (s.resetLow = true → ∀ c, isReset c = false → exec c s = .next s)

/-- No command but RESET_ASSERT and RESET_RELEASE changes RESET, the straps, the own number, the clock or the queue. That a
command takes no time and leaves the queue to the step is the model's choice (log entry 2). -/
def Obligations.CommandsKeepSetting : Prop :=
  ∀ (c : Instr) (s t : State), isReset c = false → exec c s = .next t → t.setting = s.setting

/-- Every step keeps the canonical form of Window Memory. -/
def Obligations.StepKeepsWindowCanonical : Prop :=
  ∀ s t : State, s.window.wf = true → step s = .next t → t.window.wf = true

/-- Reset memory is canonical, the lists of the reset state are within their places, and its lines are settled. -/
def Obligations.ResetIsCanonicalAndBounded : Prop :=
  State.reset.window.wf = true ∧ State.reset.bounded = true ∧ State.reset.linesSettled = true
    ∧ ∀ stn dual rate, (State.released stn dual rate).bounded = true ∧ (State.released stn dual rate).linesSettled = true

/-- Every step keeps every list within its places: incidents 8, notices 16, replay queue 32 with 28 general entries,
batch entries 1 to 16, held writes 16 in 4 blocks, claim slots 4, claim list 8, fetch slots 4, answers 4, at most one
waiting EXCLUDE a station and one hold a block. And every lane whose line has been idle has no character in progress and
no space run (R140). -/
def Obligations.StepKeepsListsBounded : Prop :=
  (∀ s t : State, s.bounded = true → step s = .next t → t.bounded = true)
  ∧ (∀ s t : State, s.linesSettled = true → step s = .next t → t.linesSettled = true)

/-- What a station sends is what a receiver reads: the bytes of every well-formed frame are read back as that frame. -/
def Obligations.FramesReadBack : Prop :=
  ∀ f : Frame, Frame.wellFormed f = true → readFrame f.bytes = some f

/-! ## Serial values, tables of the port -/

/-- The serial comparison (R9). -/
def Obligations.SerialComparison : Prop :=
  (∀ a b : BitVec 8, later8 a b = true ↔ 1 ≤ (a.toNat + 256 - b.toNat) % 256 ∧ (a.toNat + 256 - b.toNat) % 256 ≤ 127)
  ∧ (∀ a b : BitVec 16, later16 a b = true ↔
      1 ≤ (a.toNat + 65536 - b.toNat) % 65536 ∧ (a.toNat + 65536 - b.toNat) % 65536 ≤ 32767)
  ∧ (∀ a : BitVec 8, later8 a a = false) ∧ (∀ a : BitVec 16, later16 a a = false)
  ∧ (∀ a : BitVec 8, (a + 1).toNat = (a.toNat + 1) % 256) ∧ (∀ a : BitVec 16, (a + 1).toNat = (a.toNat + 1) % 65536)

/-- INCIDENT_ACK removes the head record exactly where the word is its number; it reads as 0. -/
def Obligations.IncidentAckPopsHead : Prop :=
  ∀ (w : Word) (s : State), s.portFree = true →
    (∀ i rest, s.log.records = i :: rest → i.number = w →
      exec (.incidentAck w) s = .next (s.setLog { s.log with records := rest }))
    ∧ (∀ i rest, s.log.records = i :: rest → i.number ≠ w → exec (.incidentAck w) s = .next s)
    ∧ (s.log.records = [] → exec (.incidentAck w) s = .next s)
    ∧ s.readPort 0x200F = 0

/-- UNRECORDED_MASK_WRITE clears each flag written as 1 and leaves the others (bit c - 1 is the flag of class c); a read gives
the mask. -/
def Obligations.MaskWriteClearsOnes : Prop :=
  ∀ (w : Word) (s : State), s.portFree = true →
    s.readPort 0x2011 = s.log.mask
    ∧ ∃ t, exec (.unrecordedMaskWrite w) s = .next t ∧ t = s.setLog { s.log with mask := t.log.mask }
      ∧ ∀ cls : IncidentClass, t.log.mask.getLsbD (cls.code - 1)
          = (s.log.mask.getLsbD (cls.code - 1) && !w.getLsbD (cls.code - 1))

/-- NOTICE_READ pops the queue, or gives 0xFFFF, or gives 0xFFFE and clears the overflow flag. A write to NOTICE is ignored, a
read during RESET has no effect, teardown keeps the queue and its flag, and RESET empties and clears them. The word a read
returns is readPort's; the model keeps it in dataOut too (log entry 20). -/
def Obligations.NoticeReadPops : Prop :=
  ∀ s : State, (s.portFree = true →
    (∀ b rest, s.port.notices = b :: rest → s.readPort 0x2012 = BitVec.ofNat 16 b.val
      ∧ exec .noticeRead s = .next (s.setPort { s.port with notices := rest, dataOut := BitVec.ofNat 16 b.val }))
    ∧ (s.port.notices = [] → s.port.overflow = false → s.readPort 0x2012 = 0xFFFF
      ∧ exec .noticeRead s = .next (s.setPort { s.port with dataOut := 0xFFFF }))
    ∧ (s.port.notices = [] → s.port.overflow = true → s.readPort 0x2012 = 0xFFFE
      ∧ exec .noticeRead s = .next (s.setPort { s.port with overflow := false, dataOut := 0xFFFE })))
    ∧ (∀ w, exec (.stationAreaWriteIgnored 0x2012 w) s = .next s)
    ∧ (s.resetLow = true → exec .noticeRead s = .next s)
    ∧ (∀ new, (s.teardown new).port = s.port)
    ∧ (∀ stn dual rate, ∃ t, exec (.resetRelease stn dual rate) s = .next t ∧ t.port.notices = [] ∧ t.port.overflow = false)

/-- The words of the local port. WATCH_MAP_WRITE sets the watch flags of sixteen blocks and no others, and
STATION_AREA_WRITE_IGNORED changes nothing. A window read returns the word; the station area reads by Table 11-5: state,
lanes, masks, command and result, the head record (0 with the list empty), the counter and the count, the watch map, and
the block-state and owner views, four bits a block. Addresses of no word read 0; INCIDENT ACK, the mask word and NOTICE
are the statements O11 to O13. -/
def Obligations.WatchMapWriteSetsSixteen : Prop :=
  (∀ (i : Fin 16) (w : Word) (s : State), s.portFree = true →
    (∃ t, exec (.watchMapWrite i w) s = .next t ∧ t = s.setPort { s.port with watch := t.port.watch }
      ∧ ∀ b : Block, t.watched b = (if b.val / 16 = i.val then w.getLsbD (b.val % 16) else s.watched b))
    ∧ ∀ addr, exec (.stationAreaWriteIgnored addr w) s = .next s)
  ∧ (∀ s : State, s.resetLow = false →
    (∀ a : WindowAddr, s.readPort (BitVec.ofNat 14 a.val) = s.window.read a.val)
    ∧ s.readPort 0x2000
        = BitVec.ofNat 16 (s.member.state.code.toNat + 16 * s.member.own.val + 256 * s.member.registrar.val)
    ∧ (∀ l, (s.lane l).score ≤ 64 → s.readPort (match l with | .A => 0x2001 | .B => 0x2002)
        = BitVec.ofNat 16 ((s.lane l).state.code.toNat + 256 * (s.lane l).score))
    ∧ (∀ p : Station,
        (s.readPort 0x2003).getLsbD p.val = (p ≠ 0 && (if p = s.member.own then s.active else s.isMember p))
        ∧ (s.readPort 0x2004).getLsbD p.val
          = (p ≠ 0 && (if p = s.member.own then s.member.state = .live else (s.peer p).state = .live)))
    ∧ (∀ a : Nat, a = 0x2007 ∨ (0x2013 ≤ a ∧ a ≤ 0x201F) ∨ (0x2030 ≤ a ∧ a ≤ 0x203F) ∨ (0x20C0 ≤ a ∧ a ≤ 0x3FFF) →
        s.readPort (BitVec.ofNat 14 a) = 0)
    ∧ s.readPort 0x2005 = s.port.command ∧ s.readPort 0x2006 = s.port.result
    ∧ (s.log.records = [] → ∀ n < 6, s.readPort (BitVec.ofNat 14 (0x2008 + n)) = 0)
    ∧ (∀ i rest, s.log.records = i :: rest →
        s.readPort 0x2008 = BitVec.ofNat 16 (0x8000 + 4096 * (match i.what.lane with | none => 0 | some .A => 1 | some .B => 2)
          + 256 * (match i.what.peer with | none => 0 | some p => p.val) + i.what.cls.code)
        ∧ s.readPort 0x2009 = i.number
        ∧ s.readPort 0x200A = (match i.what.block with | none => 0 | some b => BitVec.ofNat 16 (0x8000 + b.val))
        ∧ s.readPort 0x200B = i.what.detail
        ∧ (s.readPort 0x200C).toNat = i.time.toNat / 65536 ∧ (s.readPort 0x200D).toNat = i.time.toNat % 65536)
    ∧ s.readPort 0x200E = s.log.counter ∧ s.readPort 0x2010 = BitVec.ofNat 16 s.log.records.length
    ∧ ∀ b : Block,
        (s.readPort (BitVec.ofNat 14 (0x2020 + b.val / 16))).getLsbD (b.val % 16) = s.watched b
        ∧ (s.readPort (BitVec.ofNat 14 (0x2040 + b.val / 4))).toNat / 16 ^ (b.val % 4) % 16
          = (match (s.entry b).copy with | .unknown => 0 | .stale => 1 | .fetching => 2 | .current => 3)
            + (if s.owned b then 4 else 0) + (if s.hasHeld b = true ∨ s.claimSlot b ≠ none then 8 else 0)
        ∧ (s.readPort (BitVec.ofNat 14 (0x2080 + b.val / 4))).toNat / 16 ^ (b.val % 4) % 16 = (s.entry b).owner.val)

/-- ATTN is asserted while the incident list, the mask or the notice queue is not empty or the overflow flag is set, and
deasserted while none of them holds, whatever else the state is; it is deasserted at RESET and after its release. -/
def Obligations.AttnFollowsItsConditions : Prop :=
  ∀ s : State,
    (s.resetLow = false →
      (s.attnPin = true ↔ s.log.records ≠ [] ∨ s.log.mask ≠ 0 ∨ s.port.notices ≠ [] ∨ s.port.overflow = true))
    ∧ (s.resetLow = true → s.attnPin = false)
    ∧ (∀ stn dual rate, ∃ t, exec (.resetRelease stn dual rate) s = .next t ∧ t.attnPin = false)

/-- What an event's end leaves alone: the window, the directory, the Write and Claim Units, the peers, the station state, the
local port, the clock, next seq, every lane's state, score and idle time; and the log, where no incident was offered. -/
def Obligations.ClosingKeeps : Prop :=
  ∀ s : State,
    let t := s.closes
    t.setting = s.setting ∧ t.window = s.window ∧ t.dir = s.dir ∧ t.write = s.write ∧ t.claim = s.claim ∧ t.port = s.port
    ∧ t.member = { s.member with urgentStatus := t.member.urgentStatus } ∧ t.seq.next = s.seq.next
    ∧ t.seq.queue.map ReplayEntry.frame = s.seq.queue.map ReplayEntry.frame
    ∧ t.copy = { s.copy with answers := t.copy.answers } ∧ t.settle = { s.settle with reply := t.settle.reply }
    ∧ (∀ l, (t.lane l).state = (s.lane l).state ∧ (t.lane l).score = (s.lane l).score ∧ (t.lane l).rest = (s.lane l).rest
        ∧ (t.lane l).good = (s.lane l).good ∧ (t.lane l).idle = (s.lane l).idle)
    ∧ t.log.offered = [] ∧ (s.log.offered = [] → t.log = s.log)
    ∧ (∀ u o, s.log.offered = [(u, o)] → t.log = { s.log with offered := [] }.record s.clock o)

/-- The take (Table 9-5, R153, R154): with no frame current and a lane UP, an urgent STATUS goes first and clears what it
reports; then the replay queue's first marked entry, or else its first unsent one, which is sent and unmarked, its timer
restarted where it is the head; then the first answer that can be built, COPY, SNAP or VERSIONS; then the request that fell
due first, of those the state permits; then a heartbeat that is due; then a DIGEST of the first 8 digestible blocks after
the pointer. In LISTENING, DEPARTED, ISOLATED, HALTED and OFFLINE nothing is taken. A taken frame goes to every UP lane, and
the done marks of the others are set. -/
def Obligations.TakeFollowsClasses : Prop :=
  (∀ s : State, s.select.current = none → s.anyLaneUp = true →
    let urgent := s.member.urgentStatus = true ∨ s.seq.urgent = true
    let full := s.member.state = .live ∨ s.member.state = .leaving
    (∀ shown, s.member.state.shown = some shown → urgent →
      s.pump.select.current = some ⟨s.member.own, 0, 0, s.statusPayload shown⟩ ∧ s.pump.member.urgentStatus = false
      ∧ s.pump.seq.owed = false ∧ s.pump.seq.urgent = false ∧ s.pump.seq.accepted = 0 ∧ s.pump.select.heartbeat = some 0)
    ∧ (s.active = true → ¬ urgent → ∀ e, (s.seq.queue.find? ReplayEntry.marked = some e
        ∨ (s.seq.queue.find? ReplayEntry.marked = none ∧ s.seq.queue.find? (fun e => !e.sent) = some e)) →
      s.pump.select.current = some e.frame)
    ∧ (s.active = true → ¬ urgent → ∀ e rest, s.seq.queue = e :: rest →
        e.marked = true ∨ (e.sent = false ∧ ∀ x ∈ s.seq.queue, x.marked = false) →
      s.pump.seq.queue = { e with sent := true, marked := false, timer := some 0 } :: rest)
    ∧ (s.active = true → ¬ urgent → ∀ x pre e rest, s.seq.queue = x :: (pre ++ e :: rest) →
        (e.marked = true ∧ ∀ y ∈ x :: pre, y.marked = false)
          ∨ (e.sent = false ∧ (∀ y ∈ x :: pre, y.sent = true) ∧ ∀ y ∈ s.seq.queue, y.marked = false) →
      s.pump.seq.queue = x :: (pre ++ { e with sent := true, marked := false } :: rest))
    ∧ (full → ¬ urgent → s.queueSent →
      ∀ q b rest, s.copy.answers = .copy q b :: rest → s.batchFor b = false →
        s.pump.select.current = some ⟨s.member.own, q, 0, if (s.entry b).copy = .current
          then .copyOk b (s.entry b).version (s.window.blockWords b) else .copyNotCurrent b (s.entry b).version⟩
        ∧ s.pump.copy.answers = rest)
    ∧ (full → ¬ urgent → s.queueSent → ∀ pre a rest, s.copy.answers = pre ++ a :: rest →
        (∀ y ∈ pre, ∃ q b, y = .copy q b ∧ s.batchFor b = true) →
      (∀ q i, a = .snap q i →
        s.pump.select.current = some ⟨s.member.own, q, 0, .snap i ((List.range 16).map (fun k =>
          let e := s.entry (Fin.ofNat 256 (16 * i.val + k))
          { owner := e.owner, epoch := e.epoch, version := e.version }))⟩ ∧ s.pump.copy.answers = pre ++ rest)
      ∧ (∀ q r x, a = .versions q r → s.settle.reply = some x →
        s.pump.select.current = some ⟨s.member.own, x.requester, 0, .versions x.round x.after.isNone (x.covered.map (fun b =>
          { block := b, epoch := (s.entry b).epoch, version := (s.entry b).version, owned := s.owned b
            current := (s.entry b).copy = .current }))⟩
        ∧ s.pump.settle.reply = some { x with next := x.after, finished := x.after.isNone }
        ∧ s.pump.copy.answers = pre ++ rest ++ (if x.after.isNone then [] else [.versions x.requester x.round])))
    ∧ ((s.member.state.shown = none ∨ ¬ urgent) → (s.active = false ∨ (s.queueSent ∧ s.answersWait)) →
      ∀ pre r rest, s.select.requests = pre ++ r :: rest → s.member.state.permits r.payload = true →
        (∀ y ∈ pre, s.member.state.permits y.payload = true → r.before y = true) →
        (∀ y ∈ rest, s.member.state.permits y.payload = true → y.before r = false) →
      s.pump.select.current = some ⟨s.member.own, r.target, 0, r.payload⟩
      ∧ s.pump.select.requests = s.select.requests.filter (fun y => y ≠ r))
    ∧ (∀ shown n, s.member.state.shown = some shown → ¬ urgent → s.queueSent →
      s.copy.answers = [] → s.select.requests = [] → s.select.heartbeat = some n → 2048 ≤ n →
      s.pump.select.current = some ⟨s.member.own, 0, 0, s.statusPayload shown⟩ ∧ s.pump.select.heartbeat = some 0)
    ∧ (full → ¬ urgent → s.queueSent → s.answersWait → s.select.requests = [] →
        (∀ n, s.select.heartbeat = some n → n < 2048) → s.audit.due = true →
      let bs := (((List.range 256).map (fun i => (Fin.ofNat 256 (s.audit.pointer.val + 1 + i) : Block))).filter
        s.digestible).take 8
      (bs = [] → s.pump = s)
      ∧ ∀ b, bs.getLast? = some b →
        s.pump.select.current = some ⟨s.member.own, 0, 0, .digest (bs.map (fun c =>
          { block := c, version := (s.entry c).version, check := s.blockCheck c }))⟩
        ∧ s.pump.audit = { pointer := b, timer := some 0, due := false })
    ∧ (s.member.state ∈ [StationState.offline, .listening, .departed, .isolated, .halted] → s.pump = s)
    ∧ (s.pump.select.current ≠ none →
      s.pump.select.doneA = !s.laneUp .A ∧ s.pump.select.doneB = !s.laneUp .B
      ∧ ∀ l, s.pump.lane l = if s.laneUp l then
          { s.lane l with
            access := if 3 ≤ (s.lane l).idle then .sending else .deferring
            attempt := 1, required := 3, progress := 0, abortTime := 0, readback := none }
        else s.lane l))
  ∧ (∀ (b : Block) (s : State), s.digestible b = true ↔ s.owned b = true ∧ (s.entry b).copy = .current
      ∧ (s.entry b).yielding = false ∧ ∀ t, s.write.batch = some t → t.block ≠ b)
  ∧ (∀ (b : Block) (x : Reply), x.next = some b →
      let flagged := (List.finRange 256).filter (fun c => bitmapHas x.bitmap c && decide (b.val ≤ c.val))
      x.covered = flagged.take 20 ∧ x.after = (flagged.drop 20).head?)
  ∧ (∀ r q : Request, r.before q = true ↔ r.stamp < q.stamp ∨ (r.stamp = q.stamp
      ∧ (r.rank < q.rank ∨ (r.rank = q.rank ∧ r.block < q.block))))
  ∧ (∀ (b : Block) (a : Nat) (m : Word) (r : Round) (bm : List Byte) (p : Station) (n : Nat),
      (Request.mk (.claim b a) p n).rank = 0 ∧ (Request.mk (.fetch b) p n).rank = 1 ∧ (Request.mk (.snapq m) p n).rank = 2
      ∧ (Request.mk (.query r bm) p n).rank = 3 ∧ (Request.mk .join p n).rank = 4
      ∧ (Request.mk (.claim b a) p n).block = b.val ∧ (Request.mk (.fetch b) p n).block = b.val)
  ∧ (∀ (st : StationState) (p : Payload), st.permits p = true ↔ st = .live ∨ st = .leaving
      ∨ (st = .joining ∧ p.kind = .join) ∨ (st = .catchup ∧ (p.kind = .fetch ∨ p.kind = .snapq)))

/-- An offered incident takes the counter's number, and is recorded where fewer than 8 records stand, else its class is
marked; the counter advances either way. -/
def Obligations.IncidentsAreNumbered : Prop :=
  ∀ (g : IncidentLog) (clock : Clock) (o : Offer),
    (g.record clock o).counter = g.counter + 1
    ∧ (g.records.length < 8 → (g.record clock o).records = g.records ++ [{ number := g.counter, time := clock, what := o }]
        ∧ (g.record clock o).mask = g.mask)
    ∧ (8 ≤ g.records.length → (g.record clock o).records = g.records
        ∧ ∀ c : Fin 16, (g.record clock o).mask.getLsbD c.val = (g.mask.getLsbD c.val || decide (c.val + 1 = o.cls.code)))

/-- Each of the six command rows places the code written and the result of its own table in the result word, whatever
else the event brings; which row a written word is stands in its high byte, and which row a write is in its address. -/
def Obligations.CommandsGiveResults : Prop :=
  (∀ s : State, s.portFree = true →
    let off := s.member.state = .offline
    (∀ low, ∃ t, exec (.commit low) s = .next t ∧ t.port.command = wordOf 1 low
      ∧ t.port.result = wordOf 1 (if s.member.state = .live then 1 else 2))
    ∧ (∀ b : Block, ∃ t, exec (.claim b) s = .next t ∧ t.port.command = wordOf 2 (byteOf b.val)
      ∧ t.port.result = wordOf 2 (if s.member.state ≠ .live then 2 else if s.owned b then 4
          else if (s.claimSlot b).isSome then 1 else if 4 ≤ s.claim.slots.length then 3 else 1))
    ∧ (∀ b : Block, (s.member.state = .live → (s.entry b).copy ≠ .unknown) → ∃ t, exec (.refresh b) s = .next t
      ∧ t.port.command = wordOf 3 (byteOf b.val)
      ∧ t.port.result = wordOf 3 (if s.member.state ≠ .live then 2 else if s.owned b then 4
          else if (s.entry b).copy = .fetching then 3 else 1))
    ∧ (∀ low, ∃ t, exec (.leave low) s = .next t ∧ t.port.command = wordOf 4 low
      ∧ t.port.result = wordOf 4 (match s.member.state with
          | .listening | .joining | .live => 1
          | .catchup => if s.member.leavePending then 3 else 1
          | .leaving => 3
          | .offline | .departed | .isolated | .halted => 2))
    ∧ (∀ low, ∃ t, exec (.rejoin low) s = .next t ∧ t.port.command = wordOf 5 low
      ∧ t.port.result = wordOf 5 (if s.member.state = .departed ∨ s.member.state = .halted then 1 else 2))
    ∧ (∀ code low, code = 0 ∨ 5 < code.toNat → ∃ t, exec (.commandUnknown code low) s = .next t
      ∧ t.port.command = wordOf code low ∧ t.port.result = wordOf code (if off then 2 else 4))
    ∧ (∀ code low, code = 0 ∨ 5 < code.toNat → let t := s.tickStamp.setPort { s.port with
        command := wordOf code low, result := wordOf code (if off then 2 else 4) }
      t.still = true → exec (.commandUnknown code low) s = .next t.closes))
  ∧ (∀ code low : Byte, commandOfWord (wordOf code low) =
      if code = 1 then .commit low else if code = 2 then .claim (blockAt low) else if code = 3 then .refresh (blockAt low)
      else if code = 4 then .leave low else if code = 5 then .rejoin low else .commandUnknown code low)
  ∧ (∀ (w : Word) (s : State), exec (commandOfWord w) s = .next (s.portEvent (·.command w)))
  ∧ (∀ w : Word, (∀ a : WindowAddr, commandOfWrite (BitVec.ofNat 14 a.val) w = .localWrite (BitVec.ofNat 14 a.val) w)
      ∧ commandOfWrite 0x2005 w = commandOfWord w ∧ commandOfWrite 0x200F w = .incidentAck w
      ∧ commandOfWrite 0x2011 w = .unrecordedMaskWrite w
      ∧ ∀ i : Fin 16, commandOfWrite (BitVec.ofNat 14 (0x2020 + i.val)) w = .watchMapWrite i w)

/-! ## Local writes -/

/-- A write to an owned, CURRENT, not yielding block with nothing held opens a batch, is written to its word, and leaves
every other word. With a batch open for the block its entry there is replaced, or appended, and the sixteenth closes the
batch or makes it due; a new offset for a full batch waits and makes it due. With a batch open for another block that batch
closes first and the write is judged again, or is made due and the write waits. -/
def Obligations.LocalWriteOpensBatch : Prop :=
  (∀ (a : WindowAddr) (x : Word) (s : State), s.portFree = true → s.window.wf = true → s.member.state = .live →
    s.batchPath (blockOf a) = true → s.write.batch = none →
    let t := (s.tickStamp.setWrite { s.write with
      batch := some { block := blockOf a, entries := [⟨offsetOf a, x⟩], age := 0, due := false } }).setWindow
        (s.window.store a.val x)
    t.still = true →
      exec (.localWrite (BitVec.ofNat 14 a.val) x) s = .next t.closes
      ∧ ∀ c : Nat, t.closes.window.read c = if c = a.val then x else s.window.read c)
  ∧ (∀ (a : WindowAddr) (x : Word) (t : OpenBatch) (s : State), s.portFree = true → s.member.state = .live →
    s.batchPath (blockOf a) = true → s.write.batch = some t →
    let row : Instr := .localWrite (BitVec.ofNat 14 a.val) x
    let written := fun t' : OpenBatch =>
      (s.tickStamp.setWrite { s.write with batch := some t' }).setWindow (s.window.store a.val x)
    let waits := fun t' : OpenBatch => s.tickStamp.setWrite { s.write with
      batch := some t', waiting := some { addr := a, value := x, waited := 0 } }
    (t.block = blockOf a →
      (t.entries.any (fun e => e.offset = offsetOf a) = true →
        exec row s = .next (written { t with
          entries := t.entries.map (fun e => if e.offset = offsetOf a then ⟨e.offset, x⟩ else e) }).settleEvent)
      ∧ (t.entries.any (fun e => e.offset = offsetOf a) = false →
        let t' := { t with entries := t.entries ++ [⟨offsetOf a, x⟩] }
        (t.entries.length < 15 → exec row s = .next (written t').settleEvent)
        ∧ (t.entries.length = 15 → s.freeGeneral = true → exec row s = .next (written t').closeBatch.settleEvent)
        ∧ (t.entries.length = 15 → s.freeGeneral = false → exec row s = .next (written { t' with due := true }).settleEvent)
        ∧ (16 ≤ t.entries.length → exec row s = .next (waits { t with due := true }).settleEvent)))
    ∧ (t.block ≠ blockOf a → s.freeGeneral = false → exec row s = .next (waits { t with due := true }).settleEvent)
    ∧ (t.block ≠ blockOf a → s.freeGeneral = true →
      let u := (waits t).closeBatch
      let v := (u.setWrite { u.write with
        batch := some { block := blockOf a, entries := [⟨offsetOf a, x⟩], age := 0, due := false }
        waiting := none }).setWindow (s.window.store a.val x)
      exec row s = .next u.settleEvent ∧ (u.nextActs = [.judge] → exec row s = .next v.goesOn)))

/-- A write outside LIVE is refused: WRITE_REFUSED with the block and the state's code, and nothing else of the Write Unit or the
window changes. A write to a block that cannot be written is held where there is room, and Window Memory stays; with no room
it waits, WAIT asserted. A word already held is replaced in place; a claim slot open for the block is for held words from
then on, and where none is open one is asked for in the same event; that a write which waits asks for none is the model's
choice (log entry 31). -/
def Obligations.LocalWriteRefusedHeldOrWaiting : Prop :=
  (∀ (a : WindowAddr) (x : Word) (s : State), s.portFree = true → s.member.state ≠ .live →
      let t := s.tickStamp.offer { cls := .writeRefused, block := some (blockOf a), detail := s.member.state.code }
      t.still = true → exec (.localWrite (BitVec.ofNat 14 a.val) x) s = .next t.closes)
  ∧ (∀ (a : WindowAddr) (x : Word) (s : State), s.portFree = true → s.member.state = .live →
      s.batchPath (blockOf a) = false → s.claimSlot (blockOf a) = none →
      (∀ h ∈ s.write.held, h.addr ≠ a) →
      (s.write.held.length < 16 → (s.hasHeld (blockOf a) = true ∨ s.heldBlocks.length < 4) →
        let t := s.tickStamp.setWrite { s.write with held := s.write.held ++ [{ addr := a, value := x }] }
        t.still = true → exec (.localWrite (BitVec.ofNat 14 a.val) x) s = .next t.closes)
      ∧ ((16 ≤ s.write.held.length ∨ (s.hasHeld (blockOf a) = false ∧ 4 ≤ s.heldBlocks.length)) →
        let t := s.tickStamp.setWrite { s.write with waiting := some { addr := a, value := x, waited := 0 } }
        t.still = true → exec (.localWrite (BitVec.ofNat 14 a.val) x) s = .next t.closes ∧ t.closes.waitPin = true))
  ∧ (∀ (a : WindowAddr) (x : Word) (s : State), s.portFree = true → s.member.state = .live →
      s.batchPath (blockOf a) = false →
      let row : Instr := .localWrite (BitVec.ofNat 14 a.val) x
      (s.write.held.any (fun h => h.addr = a) = true →
        exec row s = .next (s.tickStamp.setWrite { s.write with
          held := s.write.held.map (fun h => if h.addr = a then { h with value := x } else h) }).settleEvent)
      ∧ (s.write.held.any (fun h => h.addr = a) = false → s.write.held.length < 16 →
        (s.hasHeld (blockOf a) = true ∨ s.heldBlocks.length < 4) →
        let u := s.tickStamp.setWrite { s.write with held := s.write.held ++ [{ addr := a, value := x }] }
        (s.claimSlot (blockOf a) = none → exec row s = .next u.settleEvent
          ∧ (u.nextActs = [.grantSlot (blockOf a)] → exec row s = .next (u.openClaim (blockOf a) true).goesOn))
        ∧ (∀ c, s.claimSlot (blockOf a) = some c →
          exec row s = .next (u.setClaim { s.claim with
            slots := s.claim.slots.map (fun y => if y.block = blockOf a then { c with held := true } else y) }).settleEvent)))

/-- A waiting write whose block can be written now is taken; at the WAIT limit it is dropped with WRITE_DROPPED. Either way WAIT
is released. -/
def Obligations.WaitingWriteEnds : Prop :=
  (∀ (w : WaitingWrite) (s : State), s.resetLow = false → s.member.state = .live → s.write.waiting = some w →
      s.batchPath (blockOf w.addr) = true → s.write.batch = none →
      let t := (s.tickStamp.setWrite { s.write with
        batch := some { block := blockOf w.addr, entries := [⟨offsetOf w.addr, w.value⟩], age := 0, due := false }
        waiting := none }).setWindow (s.window.store w.addr.val w.value)
      t.still = true → exec .waitingWriteJudged s = .next t.closes ∧ t.closes.waitPin = false)
  ∧ (∀ (w : WaitingWrite) (s : State), s.resetLow = false → s.write.waiting = some w → 8192 ≤ w.waited →
      let t := (s.tickStamp.setWrite { s.write with waiting := none }).offer
        { cls := .writeDropped, block := some (blockOf w.addr), detail := BitVec.ofNat 16 (w.addr.val % 32) }
      t.still = true → exec .waitLimit s = .next t.closes ∧ t.closes.waitPin = false)

/-- What closing a batch is: the version advances by one, one UPDATE joins the tail of the replay queue with the next number, the
batch is absent, the window stays. The batch hold, COMMIT and a freed general slot close the open batch; without a general
slot the first two make it due. -/
def Obligations.BatchCloses : Prop :=
  (∀ (b : OpenBatch) (s : State), s.write.batch = some b →
      s.closeBatch = ((s.setEntry b.block { s.entry b.block with version := (s.entry b.block).version + 1 }).setWrite
          { s.write with batch := none }).setSeq { s.seq with
            next := s.seq.next + 1
            queue := s.seq.queue ++ [{
              seq := s.seq.next
              frame := { sender := s.member.own, target := 0, seq := s.seq.next
                         payload := .update b.block (s.entry b.block).epoch ((s.entry b.block).version + 1) b.entries }
              sent := false, marked := false, count := 0, timer := none }] })
  ∧ (∀ (b : OpenBatch) (low : Byte) (s : State), s.write.batch = some b →
      let commanded := s.tickStamp.setPort { s.port with command := wordOf 1 low, result := wordOf 1 1 }
      (s.resetLow = false → 128 ≤ b.age → b.due = false → s.freeGeneral = true → (s.tickStamp.closeBatch).still = true →
        exec .batchHold s = .next (s.tickStamp.closeBatch).closes)
      ∧ (s.resetLow = false → 128 ≤ b.age → b.due = false → s.freeGeneral = false →
        let t := s.tickStamp.setWrite { s.write with batch := some { b with due := true } }
        t.still = true → exec .batchHold s = .next t.closes)
      ∧ (s.portFree = true → s.member.state = .live → s.freeGeneral = true → (commanded.closeBatch).still = true →
        exec (.commit low) s = .next (commanded.closeBatch).closes)
      ∧ (s.portFree = true → s.member.state = .live → s.freeGeneral = false →
        let t := commanded.setWrite { s.write with batch := some { b with due := true } }
        t.still = true → exec (.commit low) s = .next t.closes)
      ∧ (s.resetLow = false → b.due = true → s.freeGeneral = true → (s.tickStamp.closeBatch).still = true →
        exec .dueBatchClose s = .next (s.tickStamp.closeBatch).closes))

/-- The held writes of a block awaiting commit, with no batch open, enter Window Memory in list order and form a batch,
which closes at once or is due. -/
def Obligations.HeldWritesCommit : Prop :=
  ∀ (b : Block) (s : State), s.resetLow = false → s.write.batch = none → s.awaitingCommit b = true →
    let es := (s.write.held.filter (fun h => blockOf h.addr = b)).map (fun h => (⟨offsetOf h.addr, h.value⟩ : WordWrite))
    let u := (s.tickStamp.setWindow (s.window.storeBlock b es)).setWrite { s.write with
      batch := some { block := b, entries := es, age := 0, due := false }
      held := s.write.held.filter (fun h => blockOf h.addr ≠ b) }
    let t := if s.freeGeneral then u.closeBatch else u.setWrite { u.write with
      batch := some { block := b, entries := es, age := 0, due := true } }
    t.still = true → exec (.heldWriteCommit b) s = .next t.closes

/-! ## Claims and handovers -/

/-- COMMAND CLAIM for a block owned elsewhere, with a slot free, opens one with attempt 1 and its held flag clear, and
makes a CLAIM due to its target: the owner, or the registrar for an orphan. At the registrar itself the slot for an orphan
has its timer stopped, and no CLAIM is sent. -/
def Obligations.ClaimOpensSlot : Prop :=
  ∀ (b : Block) (s : State), s.portFree = true → s.member.state = .live → s.owned b = false →
    s.claimSlot b = none → s.claim.slots.length < 4 →
    let u := s.tickStamp.setPort { s.port with command := wordOf 2 (byteOf b.val), result := wordOf 2 1 }
    let slots := fun (target : Station) (timer : Option Nat) => s.claim.slots ++
      [{ block := b, target := target, attempt := 1, timer := timer, held := false }]
    (s.orphan b = false → (s.entry b).owner ≠ 0 → (s.entry b).owner ≠ s.member.own →
      let t := (u.setClaim { s.claim with slots := slots (s.entry b).owner (some 0) }).makeDue (.claim b 1) (s.entry b).owner
      exec (.claim b) s = .next t.settleEvent ∧ (t.still = true → exec (.claim b) s = .next t.closes))
    ∧ exec (.claim b) s = .next (u.openClaim b false).settleEvent
    ∧ (s.orphan b = true → s.member.registrar ≠ s.member.own → s.member.registrar ≠ 0 → u.openClaim b false =
        (u.setClaim { s.claim with slots := slots s.member.registrar (some 0) }).makeDue (.claim b 1) s.member.registrar)
    ∧ (s.orphan b = true → s.member.registrar = s.member.own → u.openClaim b false =
        (u.setClaim { s.claim with slots := slots s.member.own none }).withdraw (.claim b))

/-- A claim slot whose timer has run out goes on to the next attempt, or after the eighth is abandoned: it closes, its
CLAIM is withdrawn, and where its held flag is set the block's held writes are discarded with WRITES_DISCARDED. The
discard takes every held entry of the block and no other, and its detail is their number. -/
def Obligations.ClaimTimeoutRetriesOrAbandons : Prop :=
  (∀ (b : Block) (c : ClaimSlot) (n : Nat) (s : State), s.resetLow = false → s.claimSlot b = some c → c.timer = some n →
    1024 ≤ n →
    (c.attempt = 8 → (let t := if c.held then (s.tickStamp.closeClaim b).discardHeld b else s.tickStamp.closeClaim b
      t.still = true → exec (.claimTimeout b) s = .next t.closes))
    ∧ (c.attempt < 8 → s.orphan b = false → (s.entry b).owner ≠ 0 → (s.entry b).owner ≠ s.member.own →
      let t := (s.tickStamp.setClaim { s.claim with slots := s.claim.slots.map (fun x => if x.block = b then
          { c with attempt := c.attempt + 1, target := (s.entry b).owner, timer := some 0 } else x) }).makeDue
        (.claim b (c.attempt + 1)) (s.entry b).owner
      t.still = true → exec (.claimTimeout b) s = .next t.closes))
  ∧ (∀ (b : Block) (s : State),
    let gone := s.write.held.filter (fun h => blockOf h.addr = b)
    let t := s.setWrite { s.write with held := s.write.held.filter (fun h => blockOf h.addr ≠ b) }
    (gone = [] → s.discardHeld b = t)
    ∧ (gone ≠ [] → s.discardHeld b = t.offer
      { cls := .writesDiscarded, block := some b, detail := BitVec.ofNat 16 gone.length }))

/-- A free claim slot is given to the block that wants one and whose held entry stands first in the held-write list: it is
open with attempt 1, its timer at 0 and its held flag set, its target the owner, or the registrar for an orphan, and a CLAIM
is due to the target; where the target is this station none is, and the timer is stopped. So opens every claim slot. -/
def Obligations.FreedSlotIsGranted : Prop :=
  ∀ (b : Block) (s : State), s.claimSlot b = none → s.owned b = false → (s.entry b).owner ≠ 0 →
    let target := if (s.peer (s.entry b).owner).state = .excluded then s.member.registrar else (s.entry b).owner
    let slot := fun (timer : Option Nat) (held : Bool) => s.claim.slots ++
      [{ block := b, target := target, attempt := 1, timer := timer, held := held }]
    let opened := fun (u : State) (held : Bool) =>
      if target = s.member.own ∨ target = 0 then (u.setClaim { s.claim with slots := slot none held }).withdraw (.claim b)
      else (u.setClaim { s.claim with slots := slot (some 0) held }).makeDue (.claim b 1) target
    (∀ held, s.openClaim b held = opened s held)
    ∧ (s.resetLow = false → s.member.state = .live → s.claim.slots.length < 4 →
      ∀ pre h rest, s.write.held = pre ++ h :: rest → blockOf h.addr = b →
        (∀ y ∈ pre, s.claimSlot (blockOf y.addr) ≠ none ∨ s.owned (blockOf y.addr) = true
          ∨ (s.entry (blockOf y.addr)).owner = 0) →
        exec .claimSlotGrant s = .next (opened s.tickStamp true).settleEvent)

/-- A HANDOVER of blocks to a station: it is enqueued with epoch + 1 and the version of each, and each block has the new
owner and epoch, yields no more, has no claim left, and keeps its copy state and version; every other block keeps its
entry and its claims. Each of its blocks with held writes asks for a claim slot in the same event, before anything else:
a free slot goes to the block that wants one and whose held entry stands first (among the blocks of one HANDOVER the
model's choice, log entry 26). -/
def Obligations.HandoverGivesBlocks : Prop :=
  (∀ (c : Station) (bs : List Block) (s : State), bs.Nodup →
    let t := s.handOver c bs
    let u := s.passOn c bs
    t.seq.queue = s.seq.queue ++ [{
        seq := s.seq.next
        frame := { sender := s.member.own, target := 0, seq := s.seq.next
                   payload := .handover c (bs.map (fun b => { block := b, epoch := (s.entry b).epoch + 1
                                                              version := (s.entry b).version })) }
        sent := false, marked := false, count := 0, timer := none }]
    ∧ t.seq.next = s.seq.next + 1 ∧ t.window = s.window ∧ t.write = s.write ∧ t.log = s.log
    ∧ (∀ b ∈ bs, t.entry b = { s.entry b with owner := c, epoch := (s.entry b).epoch + 1, yielding := false })
    ∧ (∀ b ∉ bs, t.entry b = s.entry b)
    ∧ (∀ x, x ∈ t.claim.list ↔ x ∈ s.claim.list ∧ x.1 ∉ bs)
    ∧ u.claim.slots = s.claim.slots ∧ u.claim.list = t.claim.list ∧ u.dir = t.dir ∧ u.write = t.write
    ∧ u.member = t.member ∧ t = bs.foldl (fun v _ => v.grantSlot) u)
  ∧ (∀ s : State,
    let wants := fun b : Block => s.claimSlot b = none ∧ s.owned b = false ∧ (s.entry b).owner ≠ 0
    (s.member.state ≠ .live ∨ 4 ≤ s.claim.slots.length ∨ (∀ h ∈ s.write.held, ¬ wants (blockOf h.addr)) →
      s.grantSlot = s)
    ∧ (s.member.state = .live → s.claim.slots.length < 4 → ∀ pre h rest, s.write.held = pre ++ h :: rest →
        wants (blockOf h.addr) → (∀ y ∈ pre, ¬ wants (blockOf y.addr)) →
      s.grantSlot = s.openClaim (blockOf h.addr) true))

/-- HANDOVER_SERVE hands the ready blocks of the oldest ready claimant to it; HEIR_HANDOVER hands up to 16 handable
blocks to the heir. Both need a free general slot. A block is ready that is owned, CURRENT and yielding, handable that
is owned, CURRENT and with no batch open, each with no UPDATE of it in the replay queue; the claimant served is that of
the oldest claim-list entry whose block is ready; an heir is served in LEAVING, before the own EXCLUDE is enqueued (log
entry 17). -/
def Obligations.ServingHandsOver : Prop :=
  (∀ (s : State), s.resetLow = false → s.freeGeneral = true →
    (∀ c, s.servedClaimant = some c →
      let t := s.tickStamp.handOver c (blocks.filter (fun b => s.firstClaimant b = some c && s.servable b))
      t.still = true → exec .handoverServe s = .next t.closes)
    ∧ (s.heirReady = true →
      let t := s.tickStamp.handOver s.member.registrar (firstWith s.handable 16 blocks)
      t.still = true → exec .heirHandover s = .next t.closes))
  ∧ (∀ (b : Block) (s : State),
    let noUpdate := ∀ e ∈ s.seq.queue, ∀ ep v es, e.frame.payload ≠ .update b ep v es
    (s.servable b = true ↔
      s.owned b = true ∧ (s.entry b).copy = .current ∧ (s.entry b).yielding = true ∧ noUpdate)
    ∧ (s.handable b = true ↔
      s.owned b = true ∧ (s.entry b).copy = .current ∧ (∀ x, s.write.batch = some x → x.block ≠ b) ∧ noUpdate)
    ∧ (∀ c, s.firstClaimant b = some c ↔
      ∃ pre rest, s.claim.list = pre ++ (b, c) :: rest ∧ ∀ x ∈ pre, x.1 ≠ b))
  ∧ (∀ s : State,
    (∀ c, s.servedClaimant = some c ↔ ∃ pre b rest, s.claim.list = pre ++ (b, c) :: rest ∧ s.servable b = true
      ∧ ∀ x ∈ pre, s.servable x.1 = false)
    ∧ (s.heirReady = true ↔ s.member.state = .leaving ∧ s.member.registrar ≠ 0
      ∧ (∀ e ∈ s.seq.queue, ∀ c, e.frame.payload ≠ .exclude s.member.own c) ∧ ∃ b, s.handable b = true)
    ∧ firstWith s.handable 16 blocks = (blocks.filter s.handable).take 16)

/-! ## Replay and receipts -/

/-- The replay timeout with the head's count below 6 marks every sent entry, advances the head's count and
leaves the head's timer stopped until its next take (log entry 5), and nothing else of the queue changes; at 6 it excludes
every required receiver that has not receipted the head, or the station departs where the head is its own EXCLUDE. An owed
receipt whose age has reached 64 ct becomes urgent. The members a LIVE or LEAVING station excludes are all EXCLUDED in the
event, in one PEER_EXCLUDED each (their order is the model's choice, log entry 27), and the EXCLUDE of each is enqueued or
waits. -/
def Obligations.ReplayAndReceiptTimers : Prop :=
  (∀ (e : ReplayEntry) (rest : List ReplayEntry) (n : Nat) (s : State), s.resetLow = false → s.seq.queue = e :: rest →
      e.timer = some n → 512 ≤ n → e.count < 6 →
      let t := s.tickStamp.setSeq { s.seq with
        queue := { e with marked := e.marked || e.sent, count := e.count + 1, timer := none }
          :: rest.map (fun x => { x with marked := x.marked || x.sent }) }
      t.still = true → exec .replayTimeout s = .next t.closes)
  ∧ (∀ (n : Nat) (s : State), s.resetLow = false → s.seq.owed = true → s.seq.age = some n → 64 ≤ n →
      let t := s.tickStamp.setSeq { s.seq with urgent := true }
      t.still = true → exec .receiptAgeLimit s = .next t.closes)
  ∧ (∀ (e : ReplayEntry) (rest : List ReplayEntry) (n : Nat) (s : State), s.resetLow = false → s.seq.queue = e :: rest →
      e.timer = some n → 512 ≤ n → 6 ≤ e.count →
      ((∃ c, e.frame.payload = .exclude s.member.own c) → exec .replayTimeout s
        = .next ((s.tickStamp.offer { cls := .departed }).teardown .departed).settleEvent)
      ∧ ((∀ c, e.frame.payload ≠ .exclude s.member.own c) → exec .replayTimeout s
        = .next (s.tickStamp.decideExcludes (s.laggards e.seq) .replay true).settleEvent))
  ∧ (∀ (p : Station) (q : SeqNo) (s : State), p ∈ s.laggards q ↔ p ≠ 0 ∧ (s.peer p).state.member = true
      ∧ (∀ b, (s.peer p).base = some b → later8 b q = false)
      ∧ ∀ r, (s.peer p).receipt = some r → later8 r q = false)
  ∧ (∀ (ps : List Station) (cause : Cause) (restart : Bool) (s : State),
      (s.member.state = .live ∨ s.member.state = .leaving) → ps.Nodup → (∀ p ∈ ps, (s.peer p).state.member = true) →
      let t := s.decideExcludes ps cause restart
      (∀ p, t.peer p = if p ∈ ps then { Peer.empty with state := .excluded } else s.peer p)
      ∧ (∀ p ∈ ps, (∃ x ∈ t.seq.queue, x.frame.payload = .exclude p cause) ∨ ∃ c, (p, c) ∈ t.member.waitingExcludes)
      ∧ ∃ more, t.log.offered = s.log.offered ++ (ps.map (fun p => ((.membership : IncidentUnit),
          ({ cls := .peerExcluded, peer := some p, detail := cause.code.setWidth 16 } : Offer))) ++ more))

/-- The head retires exactly when every required receiver's receipt of us is later than its seq: members whose base is not
later than it, and no others. Then it leaves the queue in the event, and the next entry is head, its timer at 0 where it
has been sent and stopped where it has not; where it is this station's own EXCLUDE the station enters DEPARTED. That the
retirement comes before every other act of its event is the model's order (log entry 6). -/
def Obligations.HeadRetiresWhenReceipted : Prop :=
  ∀ (e : ReplayEntry) (rest : List ReplayEntry) (s : State), s.seq.queue = e :: rest →
    (s.headReceipted = true ↔ ∀ p : Station, p ≠ 0 → (s.peer p).state.member = true →
      (∀ b, (s.peer p).base = some b → later8 b e.seq = false) →
      ∃ r, (s.peer p).receipt = some r ∧ later8 r e.seq = true)
    ∧ (s.headReceipted = true →
      let u := s.setSeq { s.seq with queue := match rest with
        | [] => []
        | x :: more => { x with timer := if x.sent then some 0 else none } :: more }
      ∀ n, ((∀ c, e.frame.payload ≠ .exclude s.member.own c) → State.quiesceFor (n + 1) s = State.quiesceFor n u)
        ∧ ((∃ c, e.frame.payload = .exclude s.member.own c) →
          State.quiesceFor (n + 1) s = State.quiesceFor n ((u.offer { cls := .departed }).teardown .departed)))

/-! ## Membership -/

/-- Founding: LIVE, registrar, the window and the directory cleared to this station's; every peer entry stays as it is,
ABSENT in LISTENING and JOINING; the Incident Log takes FOUNDED, detail 0. -/
def Obligations.ListenTimeoutFounds : Prop :=
  ∀ (n : Nat) (s : State), s.resetLow = false → (s.member.state = .listening ∨ s.member.state = .joining) →
    s.member.listen = some n → 8192 ≤ n → (s.tickStamp.found).still = true →
      exec .listenTimeout s = .next (s.tickStamp.found).closes
      ∧ (let t := (s.tickStamp.found).closes
         t.member.state = .live ∧ t.member.registrar = s.member.own ∧ t.window = [] ∧ t.select.heartbeat ≠ none
         ∧ (s.log.offered = [] → t.log = s.log.record s.clock { cls := .founded }) ∧ (∀ p, t.peer p = s.peer p)
         ∧ ∀ b, t.entry b = { owner := s.member.own, epoch := 0, version := 0, copy := .current, seen := none
                              donor := none, yielding := false })

/-- The JOIN timer makes a new JOIN due, in place of one that waits, and restarts; COMMAND REJOIN in DEPARTED or HALTED enters
LISTENING with next seq 0 and the listen timer at 0 ct where a lane is UP. A good frame heard, of a kind other than JOIN,
takes a LISTENING station to JOINING, with a JOIN due and both timers at 0 ct, and restarts the listen timer of a JOINING
one; a JOIN heard does neither. -/
def Obligations.JoinTimerAndRejoin : Prop :=
  (∀ (n : Nat) (s : State), s.resetLow = false → s.member.state = .joining → s.member.join = some n → 2048 ≤ n →
      let t := (s.tickStamp.setMember { s.member with join := some 0 }).makeDue .join 0
      t.still = true → exec .joinTimeout s = .next t.closes)
  ∧ (∀ (low : Byte) (s : State), s.portFree = true → (s.member.state = .departed ∨ s.member.state = .halted) →
      let t := ((s.tickStamp.setPort { s.port with command := wordOf 5 low, result := wordOf 5 1 }).setMember { s.member with
        state := .listening, listen := if s.anyLaneUp then some 0 else none, join := none }).setSeq { s.seq with next := 0 }
      t.still = true → exec (.rejoin low) s = .next t.closes)
  ∧ (∀ (l : LaneId) (f : Frame) (s : State), s.canHear l f = true →
      let row := f.payload.kind.row (cleanFrame l f)
      let u := s.carried l f.sender
      (s.member.state = .listening → f.payload ≠ .join → exec row s = .next
        ((u.setMember { u.member with state := .joining, listen := some 0, join := some 0 }).makeDue .join 0).settleEvent)
      ∧ (s.member.state = .joining → f.payload ≠ .join → (∀ m, f.payload ≠ .admission s.member.own m) →
        exec row s = .next (u.setMember { u.member with listen := some 0 }).settleEvent)
      ∧ ((s.member.state = .listening ∨ s.member.state = .joining) → f.payload = .join →
        exec row s = .next u.settleEvent))

/-- A member silent for 3H is excluded for SILENCE and its EXCLUDE is asked for, whatever the station is doing: the registrar, a
claimant and a fetch source as any other. A decided exclusion excludes a member, and then, where this station is still of
the group, its EXCLUDE is enqueued, or listed where no entry is free and it is not listed yet. A waiting EXCLUDE is enqueued
where an entry is free, and leaves the list. -/
def Obligations.SilenceAndWaitingExclude : Prop :=
  (∀ (p : Station) (n : Nat) (s : State), s.resetLow = false → s.untroubled = true → (s.peer p).state.member = true →
      (s.peer p).silence = some n → 6144 ≤ n → p ≠ s.member.registrar → s.claim = ClaimUnit.reset → s.freeEntry = true →
      let u := (s.tickStamp.setPeer p { Peer.empty with state := .excluded }).dropAnswers p
      let t := (u.offer { cls := .peerExcluded, peer := some p, detail := 1 }).enqueue (.exclude p .silence)
      t.still = true → exec (.silenceTimeout p) s = .next t.closes)
  ∧ (∀ (p : Station) (c : Cause) (s : State), s.resetLow = false → s.freeEntry = true →
      s.member.waitingExcludes.find? (fun w => w.1 = p) = some (p, c) →
      let t := (s.tickStamp.setMember { s.member with
        waitingExcludes := s.member.waitingExcludes.filter (fun x => x.1 ≠ p) }).enqueue (.exclude p c)
      t.still = true → exec (.waitingExcludeEnqueue p) s = .next t.closes)
  ∧ (∀ (p : Station) (n : Nat) (s : State), s.resetLow = false → (s.peer p).silence = some n → 6144 ≤ n →
      exec (.silenceTimeout p) s = .next (s.tickStamp.decideExclude p .silence true).settleEvent)
  ∧ (∀ (p : Station) (c : Cause) (restart : Bool) (s : State),
      let grouped := fun x : State => x.member.state = .catchup ∨ x.member.state = .live ∨ x.member.state = .leaving
      let u := s.exclude p c restart
      let t := s.decideExclude p c restart
      (¬ grouped s ∨ (s.peer p).state.member = false → t = s)
      ∧ (grouped s → (s.peer p).state.member = true →
        (¬ grouped u → t = u)
        ∧ (grouped u → u.freeEntry = true → t = u.enqueue (.exclude p c))
        ∧ (grouped u → u.freeEntry = false → (∃ x, (p, x) ∈ u.member.waitingExcludes) → t = u)
        ∧ (grouped u → u.freeEntry = false → (∀ x, (p, x) ∉ u.member.waitingExcludes) → t = u.setMember { u.member with
            waitingExcludes := u.member.waitingExcludes ++ [(p, c)] })))

/-- Teardown (Table 5-3): what is emptied, and what is kept; a waiting write is refused with the new state's code, and
the entries of the batch and of the held list are reported in one WRITES_DISCARDED with their number, its block where
all are of one. That WRITE_REFUSED is offered before WRITES_DISCARDED is the model's choice (log entry 32). -/
def Obligations.TeardownTable : Prop :=
  ∀ (new : StationState) (s : State),
    let t := s.teardown new
    t.member.state = new ∧ t.seq = { SeqUnit.reset with next := s.seq.next } ∧ t.copy = CopyUnit.reset
    ∧ (∀ p, t.peer p = Peer.empty) ∧ t.member.registrar = 0 ∧ t.claim = ClaimUnit.reset ∧ t.write = WriteUnit.reset
    ∧ t.settle = { SettleUnit.reset with round := s.settle.round } ∧ t.audit.pointer = s.audit.pointer
    ∧ (∀ b, t.entry b = { s.entry b with owner := 0, copy := .unknown, seen := none, donor := none, yielding := false })
    ∧ t.window = s.window ∧ t.port = s.port ∧ t.log.records = s.log.records ∧ t.log.mask = s.log.mask
    ∧ t.select.current = none ∧ t.select.requests = []
    ∧ (∀ l, (t.lane l).state = (s.lane l).state ∧ (t.lane l).score = (s.lane l).score ∧ (t.lane l).access = .idle)
    ∧ (let refused : List (IncidentUnit × Offer) := match s.write.waiting with
        | none => []
        | some w => [(.write, { cls := .writeRefused, block := some (blockOf w.addr), detail := new.code })]
      let gone := (match s.write.batch with | none => [] | some x => x.entries.map (fun _ => x.block))
        ++ s.write.held.map (fun h => blockOf h.addr)
      (gone = [] → t.log.offered = s.log.offered ++ refused)
      ∧ (gone ≠ [] → ∃ o, t.log.offered = s.log.offered ++ refused
            ++ [(.write, { cls := .writesDiscarded, block := o, detail := BitVec.ofNat 16 gone.length })]
          ∧ ∀ b, o = some b ↔ ∀ x ∈ gone, x = b))

/-- The departure: LEAVE in LISTENING or JOINING departs at once; in LIVE it enters LEAVING with an urgent STATUS and
the registrar computed afresh, closes the open batch or makes it due, discards the held writes with one
WRITES_DISCARDED, closes the claim slots and empties the claim list, its blocks yielding no more; in CATCHUP it sets
leave pending and asks for the own EXCLUDE, enqueued or waiting. DEPARTURE_END departs with the queue empty and no heir,
or when the own EXCLUDE at the head is receipted; LEAVE_EXCLUDE_REQUEST asks for that EXCLUDE. -/
def Obligations.DepartureSteps : Prop :=
  ∀ (low : Byte) (s : State), s.resetLow = false →
    (s.portFree = true → (s.member.state = .listening ∨ s.member.state = .joining) →
      let u := s.tickStamp.setPort { s.port with command := wordOf 4 low, result := wordOf 4 1 }
      let t := (u.offer { cls := .departed }).teardown .departed
      t.still = true → exec (.leave low) s = .next t.closes)
    ∧ (s.portFree = true → s.untroubled = true → s.member.registrar ≠ s.member.own → s.write = WriteUnit.reset →
      s.claim = ClaimUnit.reset →
      let u := s.tickStamp.setPort { s.port with command := wordOf 4 low, result := wordOf 4 1 }
      let t := u.setMember { s.member with state := .leaving, urgentStatus := true }
      t.still = true → exec (.leave low) s = .next t.closes)
    ∧ (s.portFree = true → s.member.state = .live → ∃ t : State, exec (.leave low) s = .next t.settleEvent
      ∧ t.member.state = .leaving ∧ t.member.urgentStatus = true ∧ t.member.registrar = t.computeRegistrar
      ∧ t.member.peers = s.member.peers
      ∧ t.port = { s.port with command := wordOf 4 low, result := wordOf 4 1 } ∧ t.window = s.window
      ∧ t.claim.slots = [] ∧ t.claim.list = [] ∧ t.write.held = []
      ∧ (s.write.batch = none → t.write.batch = none ∧ t.seq = s.seq)
      ∧ (∀ x, s.write.batch = some x →
        (s.freeGeneral = true → t.write.batch = none ∧ t.seq = s.closeBatch.seq)
        ∧ (s.freeGeneral = false → t.write.batch = some { x with due := true } ∧ t.seq = s.seq))
      ∧ (∀ b, t.entry b = { s.entry b with
          version := if s.batchFor b = true ∧ s.freeGeneral = true then (s.entry b).version + 1 else (s.entry b).version
          yielding := (s.entry b).yielding && !s.claimed b })
      ∧ (s.write.held = [] → t.log.offered = s.log.offered)
      ∧ (s.write.held ≠ [] → ∃ o, t.log.offered = s.log.offered
            ++ [(.write, { cls := .writesDiscarded, block := o, detail := BitVec.ofNat 16 s.write.held.length })]
          ∧ ∀ b, o = some b ↔ ∀ h ∈ s.write.held, blockOf h.addr = b))
    ∧ (s.portFree = true → s.member.state = .catchup → s.member.leavePending = false →
      let u := s.tickStamp.setPort { s.port with command := wordOf 4 low, result := wordOf 4 1 }
      let v := u.setMember { s.member with leavePending := true }
      let listed := s.member.waitingExcludes.any (fun w => w.1 = s.member.own)
      (s.freeEntry = true → exec (.leave low) s = .next (v.enqueue (.exclude s.member.own .leave)).settleEvent)
      ∧ (s.freeEntry = false → listed = true → exec (.leave low) s = .next v.settleEvent)
      ∧ (s.freeEntry = false → listed = false → exec (.leave low) s = .next (v.setMember { v.member with
          waitingExcludes := s.member.waitingExcludes ++ [(s.member.own, .leave)] }).settleEvent))
    ∧ (s.departsAlone = true →
      let t := (s.tickStamp.offer { cls := .departed }).teardown .departed
      t.still = true → exec .departureEnd s = .next t.closes)
    ∧ (s.departsAlone = false → s.ownExcludeReceipted = true →
      let t := (s.tickStamp.dropHead.offer { cls := .departed }).teardown .departed
      t.still = true → exec .departureEnd s = .next t.closes)
    ∧ (s.asksLeave = true → (s.tickStamp.enqueue (.exclude s.member.own .leave)).still = true →
      exec .leaveExcludeRequest s = .next (s.tickStamp.enqueue (.exclude s.member.own .leave)).closes)

/-! ## Catch-up and fetch -/

/-- A new SNAPQ with the missing parts is due to the registrar at the SNAPQ timeout; a fetch slot opens for the lowest
eligible block, with attempt 1 and its timer at 0, the block is FETCHING, and a FETCH is due to its source, none where it
has none (log entry 13: one that waits is withdrawn). Eligible is a STALE block without a hold, with an owner or a donor,
in CATCHUP, LIVE or LEAVING. The source is Table 6-2's: a usable donor for attempts 1 and 2; the owner, if usable, or else
the lowest LIVE peer other than the owner, for the attempts after a donor's and for 1 and 2 without one; that peer, or
else the owner, for 3 and 4 without one. -/
def Obligations.SnapqTimerAndFetchOpen : Prop :=
  (∀ (n : Nat) (s : State), s.resetLow = false → s.copy.missing ≠ 0 → s.copy.snapq = some n → 1024 ≤ n →
      let t := (s.tickStamp.setCopyUnit { s.copy with snapq := some 0 }).makeDue (.snapq s.copy.missing) s.member.registrar
      t.still = true → exec .snapqTimeout s = .next t.closes)
  ∧ (∀ (b : Block) (s : State), s.resetLow = false → s.nextFetch = some b → s.fetchSlot b = none → s.fetchSource b 1 ≠ 0 →
      let t := ((s.tickStamp.setEntry b { s.entry b with copy := .fetching }).setCopyUnit { s.copy with
        slots := s.copy.slots ++ [⟨b, s.fetchSource b 1, 1, 0⟩] }).makeDue (.fetch b) (s.fetchSource b 1)
      t.still = true → exec .fetchSlotOpen s = .next t.closes)
  ∧ (∀ (b : Block) (s : State), s.resetLow = false → s.nextFetch = some b → s.fetchSlot b = none → s.fetchSource b 1 = 0 →
      let t := ((s.tickStamp.setEntry b { s.entry b with copy := .fetching }).setCopyUnit { s.copy with
        slots := s.copy.slots ++ [⟨b, 0, 1, 0⟩] }).withdraw (.fetch b)
      t.still = true → exec .fetchSlotOpen s = .next t.closes)
  ∧ (∀ (b : Block) (s : State),
      let eligible := fun x : Block => (s.entry x).copy = .stale ∧ (∀ h ∈ s.copy.holds, h.1 ≠ x)
        ∧ ((s.entry x).owner ≠ 0 ∨ (s.entry x).donor ≠ none)
      s.nextFetch = some b ↔ (s.member.state = .catchup ∨ s.member.state = .live ∨ s.member.state = .leaving)
        ∧ s.copy.slots.length < 4 ∧ eligible b ∧ ∀ x < b, ¬ eligible x)
  ∧ (∀ (b : Block) (attempt : Nat) (s : State),
      let usable := fun p : Station =>
        p ≠ 0 ∧ p ≠ s.member.own ∧ ((s.peer p).state = .live ∨ (s.peer p).state = .leaving)
      let owner := (s.entry b).owner
      let other := fun p : Station => p ≠ 0 ∧ p ≠ s.member.own ∧ p ≠ owner ∧ (s.peer p).state = .live
      let donated := ∃ d, (s.entry b).donor = some d ∧ usable d
      let source := s.fetchSource b attempt
      (∀ d, (s.entry b).donor = some d → usable d → attempt ≤ 2 → source = d)
      ∧ ((donated ∧ 2 < attempt) ∨ (¬ donated ∧ attempt ≤ 2) →
        (usable owner → source = owner)
        ∧ (¬ usable owner → (∀ p, other p → (∀ x, other x → p ≤ x) → source = p) ∧ ((∀ p, ¬ other p) → source = 0)))
      ∧ (¬ donated → 2 < attempt →
        (∀ p, other p → (∀ x, other x → p ≤ x) → source = p)
        ∧ ((∀ p, ¬ other p) → (usable owner → source = owner) ∧ (¬ usable owner → source = 0))))

/-- The fourth fetch timeout fails the fetch: STALE under its one hold, FETCH_FAILED; an earlier one starts the next
attempt. -/
def Obligations.FetchTimeoutRetriesOrFails : Prop :=
  ∀ (b : Block) (c : FetchSlot) (s : State), s.resetLow = false → s.fetchSlot b = some c → c.block = b →
    512 ≤ c.timer → (s.entry b).copy = .fetching →
    (c.attempt = 4 →
      let u := (s.tickStamp.setEntry b { s.entry b with copy := .stale }).setCopyUnit { s.copy with
        slots := s.copy.slots.filter (fun x => x.block ≠ b)
        holds := s.copy.holds.filter (fun h => h.1 ≠ b) ++ [(b, 0)] }
      let t := (u.withdraw (.fetch b)).offer { cls := .fetchFailed, peer := if c.source = 0 then none else some c.source
                                               block := some b, detail := (s.entry b).version }
      t.still = true → exec (.fetchTimeout b) s = .next t.closes)
    ∧ (c.attempt < 4 → s.fetchSource b (c.attempt + 1) ≠ 0 →
      let t := (s.tickStamp.setCopyUnit { s.copy with slots := s.copy.slots.map (fun x => if x.block = b then
          ⟨b, s.fetchSource b (c.attempt + 1), c.attempt + 1, 0⟩ else x) }).makeDue (.fetch b)
          (s.fetchSource b (c.attempt + 1))
      t.still = true → exec (.fetchTimeout b) s = .next t.closes)

/-- A hold of H ends, and COMMAND REFRESH ends one too or makes a CURRENT block STALE. -/
def Obligations.HoldEndsAndRefresh : Prop :=
  ∀ (b : Block) (s : State),
    (s.resetLow = false → (∃ n, (b, n) ∈ s.copy.holds ∧ 2048 ≤ n) →
      let t := s.tickStamp.setCopyUnit { s.copy with holds := s.copy.holds.filter (fun h => h.1 ≠ b) }
      t.still = true → exec (.holdEnd b) s = .next t.closes)
    ∧ (s.portFree = true → s.member.state = .live → s.owned b = false →
      let u := s.tickStamp.setPort { s.port with command := wordOf 3 (byteOf b.val), result := wordOf 3 1 }
      ((s.entry b).copy = .current →
        let t := u.setEntry b { s.entry b with copy := .stale }
        t.still = true → exec (.refresh b) s = .next t.closes)
      ∧ ((s.entry b).copy = .stale →
        let t := u.setCopyUnit { s.copy with holds := s.copy.holds.filter (fun h => h.1 ≠ b) }
        t.still = true → exec (.refresh b) s = .next t.closes))

/-! ## Settlement, audit and heartbeat -/

/-- A settle job starts: the round advances, the orphan set is every orphan, each LIVE or LEAVING peer is asked, and a QUERY is
due to all; where there is none to ask, the job decides at once, and no QUERY is sent. The query timer, with fewer than three
QUERYs sent, makes the same QUERY due again and restarts. At three the silent answerers are excluded for SETTLE (in the order
of the list and in one event, the model's choice, log entry 27) and leave the answerers, and the job decides: the registrar's
own values are folded in, and every block of the set that is still an orphan is settled by Table 7-3; with none left the job
is IDLE. -/
def Obligations.SettleJobAsks : Prop :=
  (∀ s : State, s.resetLow = false → s.jobWanted = true →
      let asked := stations.filter (fun p => (s.peer p).state = .live || (s.peer p).state = .leaving)
      asked ≠ [] →
      let t := (s.tickStamp.setSettle { s.settle with
          job := .querying, round := s.settle.round + 1, orphans := s.orphans
          answerers := asked.map (fun p => { station := p, answered := false, next := s.orphans.head? })
          queries := 1, queryTimer := some 0, table := s.orphans.map SettleRecord.empty, announce := []
          announced := 0 }).makeDue (.query (s.settle.round + 1) (bitmapOf (fun b => decide (b ∈ s.orphans)))) 0
      exec .settleJobStart s = .next t.settleEvent ∧ (t.still = true → exec .settleJobStart s = .next t.closes))
  ∧ (∀ s : State, s.resetLow = false → s.jobWanted = true →
      (∀ p : Station, p ≠ 0 → (s.peer p).state ≠ .live ∧ (s.peer p).state ≠ .leaving) →
      exec .settleJobStart s = .next (s.tickStamp.setSettle { s.settle with
        job := .querying, round := s.settle.round + 1, orphans := s.orphans, answerers := [], queries := 1
        queryTimer := none, table := s.orphans.map SettleRecord.empty, announce := []
        announced := 0 }).decideJob.settleEvent)
  ∧ (∀ (n : Nat) (s : State), s.resetLow = false → s.settle.job = .querying → s.settle.queryTimer = some n → 1024 ≤ n →
      s.settle.queries < 3 →
      let t := (s.tickStamp.setSettle { s.settle with queries := s.settle.queries + 1, queryTimer := some 0 }).makeDue
        (.query s.settle.round (bitmapOf (fun b => decide (b ∈ s.settle.orphans)))) 0
      t.still = true → exec .queryTimeout s = .next t.closes)
  ∧ (∀ (n : Nat) (s : State), s.resetLow = false → s.settle.job = .querying → s.settle.queryTimer = some n → 1024 ≤ n →
      3 ≤ s.settle.queries →
      let silent := (s.settle.answerers.filter (fun a => !a.answered)).map Answerer.station
      let u := s.tickStamp.decideExcludes silent .settle false
      u.settle.job = .querying →
      exec .queryTimeout s = .next (u.setSettle { u.settle with
        answerers := u.settle.answerers.filter Answerer.answered }).decideJob.settleEvent)
  ∧ (∀ s : State,
      let table := s.settle.orphans.foldl (fun t b => t.map (fun r => if r.block = b then r.fold s.member.own
        { block := b, epoch := (s.entry b).epoch, version := (s.entry b).version, owned := false
          current := (s.entry b).copy = .current } else r)) s.settle.table
      let still := table.filter (fun r => s.orphan r.block)
      (still = [] → s.decideJob = s.clearJob)
      ∧ (still ≠ [] →
        s.decideJob.settle = { s.settle with
          job := .announcing, queryTimer := none, table := table, announce := still.map s.settlement, announced := 0 }
        ∧ s.decideJob.select.requests = s.select.requests.filter (fun r => r.payload.kind ≠ .query)
        ∧ s.decideJob.log.offered = s.log.offered ++ still.filterMap (fun r =>
            match stations.filter (fun p => r.flaggers.contains p && (s.peer p).state = .live) with
            | _ :: p :: more => some ((.settle : IncidentUnit), { cls := .auditMismatch, peer := some p, block := some r.block
                                                                  detail := BitVec.ofNat 16 (more.length + 2) })
            | _ => none)))
  ∧ (∀ (r : SettleRecord) (s : State), s.settlement r =
      { block := r.block
        owner := (stations.find? (fun p => r.flaggers.contains p && (s.peer p).state = .live)).getD s.member.own
        epoch := r.epoch.getD 0 + 1
        version := r.version.getD 0
        donor := match r.currentHolder, r.holder with
          | some p, _ => p
          | none, some p => p
          | none, none => s.member.own })

/-- A SETTLE of up to 16 entries, the head of the announce list, is enqueued and applied here, and its entries leave the
list. After the last entry the job is IDLE with SETTLED; with more than 16 it stays ANNOUNCING, and the next SETTLE is asked
for. -/
def Obligations.SettleIsEnqueued : Prop :=
  (∀ s : State, s.resetLow = false → s.settle.job = .announcing → s.settle.announce ≠ [] → s.freeEntry = true →
    s.settle.announce.length ≤ 16 →
    let u := (s.tickStamp.enqueue (.settle s.settle.round s.settle.announce)).setSettle { s.settle with
      announce := [], announced := s.settle.announced + s.settle.announce.length }
    let v := s.settle.announce.foldl (fun u t => u.settleEntry s.member.own t) u
    let t := v.clearJob.offer { cls := .settled
                                detail := BitVec.ofNat 16 (s.settle.announced + s.settle.announce.length) }
    exec .settleEnqueue s = .next t.settleEvent ∧ (t.still = true → exec .settleEnqueue s = .next t.closes))
  ∧ (∀ s : State, s.resetLow = false → s.settle.job = .announcing → s.freeEntry = true → 16 < s.settle.announce.length →
    let head := s.settle.announce.take 16
    let u := (s.tickStamp.enqueue (.settle s.settle.round head)).setSettle { s.settle with
      announce := s.settle.announce.drop 16, announced := s.settle.announced + 16 }
    let t := head.foldl (fun u x => u.settleEntry s.member.own x) u
    exec .settleEnqueue s = .next t.settleEvent ∧ t.settle = u.settle ∧ t.settleWaits = true)

/-- Timers that only set or clear a mark: deference ends, the digest falls due, the heartbeat makes its STATUS
available, which this event's take may take. -/
def Obligations.PlainTimers : Prop :=
  ∀ (n : Nat) (s : State), s.resetLow = false →
    (s.settle.deference = some n → 4096 ≤ n →
      let t := s.tickStamp.setSettle { s.settle with deference := none }
      t.still = true → exec .deferenceEnd s = .next t.closes)
    ∧ (s.audit.timer = some n → 512 ≤ n →
      let t := s.tickStamp.setAudit { s.audit with timer := none, due := true }
      t.still = true → exec .digestTimeout s = .next t.closes)
    ∧ (s.select.heartbeat = some n → 2048 ≤ n → s.tickStamp.still = true →
      exec .heartbeatTimeout s = .next s.tickStamp.closes)

/-! ## Lanes -/

/-- An abort mark discards the frame in progress and moves no score, and a mark that came in this row alone holds the
line for one more character time (log entry 24); a stuck line takes the lane DOWN with LANE_DOWN; a DOWN lane whose rest
is over enters PROBATION with score 0. A lane DOWN keeps its score, rests from 0 ct and is done with its frame; where it
was the last UP, a station of a group isolates, and the timers of a LISTENING or JOINING one stop. What a lane makes of
one character time of its line (log entry 7): over mark the idle time counts; a valid start bit restarts it, and begins
a frame only after 2 ct of idle; after a stop bit at space no start bit is looked for before the line is back at mark,
and a space run of 12 bit times discards the frame. -/
def Obligations.LaneLineEvents : Prop :=
  (∀ (l : LaneId) (s : State), s.resetLow = false →
    ((s.lane l).hears = true →
      let t := s.tickStamp.setLane l { s.lane l with
        buffer := FrameBuffer.empty, shift := [], spaceRun := max 12 (s.lane l).spaceRun, idle := 0
        line := if (s.lane l).spaceRun < 12 then .space :: (s.lane l).line else (s.lane l).line }
      t.still = true → exec (.abortMarkReceived l) s = .next t.closes)
    ∧ ((s.lane l).hears = true → 640 < (s.lane l).spaceRun → ((s.lane l).state = .probation ∨ ∃ m, m ≠ l ∧ s.laneUp m = true) →
      let t := ((s.tickStamp.setLane l { (s.lane l).release with
        state := .down, rest := some 0, good := 0, idle := 0, spaceRun := 0, shift := []
        buffer := FrameBuffer.empty }).markDone l).offer
          { cls := .laneDown, lane := some l, detail := 2 }
      t.still = true → exec (.stuckLine l) s = .next t.closes)
    ∧ ((s.lane l).hears = true → 640 < (s.lane l).spaceRun →
      exec (.stuckLine l) s = .next (s.tickStamp.laneDown l 2).settleEvent)
    ∧ (∀ n, (s.lane l).state = .down → (s.lane l).rest = some n → 65536 ≤ n →
      let t := s.tickStamp.setLane l { s.lane l with
        state := .probation, score := 0, good := 0, rest := none, idle := 0, spaceRun := 0, shift := []
        buffer := FrameBuffer.empty }
      t.still = true → exec (.laneRestEnd l) s = .next t.closes))
  ∧ (∀ (l : LaneId) (detail : Word) (s : State),
      let t := ((s.setLane l { (s.lane l).release with
        state := .down, rest := some 0, good := 0, idle := 0, spaceRun := 0, shift := []
        buffer := FrameBuffer.empty }).markDone l).offer
          { cls := .laneDown, lane := some l, detail := detail }
      let last := s.laneUp l = true ∧ ∀ m, m ≠ l → s.laneUp m = false
      (¬ last → s.laneDown l detail = t)
      ∧ (last → s.active = true → s.laneDown l detail = t.isolate)
      ∧ (last → (s.member.state = .listening ∨ s.member.state = .joining) →
        s.laneDown l detail = t.setMember { s.member with listen := none, join := none }))
  ∧ (∀ (lane : Lane) (c : RxChar), lane.shift = [] → c.data.length = 8 →
      (lane.spaceRun ≤ 640 → lane.sample .mark = { lane with idle := lane.idle + 1, spaceRun := 0 })
      ∧ (lane.spaceRun = 0 → c.falseStart = false → lane.sample (.char c) = { lane with
          idle := 0, spaceRun := if c.framing then c.trailing else 0
          buffer := if 0 < lane.buffer.count ∨ 2 ≤ lane.idle then lane.buffer.take c else lane.buffer })
      ∧ (lane.spaceRun = 0 → c.falseStart = true → (∀ t ∈ c.data, majority t = true) → majority c.stop = true →
        lane.sample (.char c) = lane.sample .mark)
      ∧ (0 < lane.spaceRun → ∀ n, 0 < n → n ≤ 10 → lane.spaceRun + n ≤ 640 →
          c.bits = List.replicate n (Triple.all false) ++ List.replicate (10 - n) (Triple.all true) →
        lane.sample (.char c) = { lane with
          idle := 0, spaceRun := if n = 10 then lane.spaceRun + 10 else 0
          buffer := if 12 ≤ lane.spaceRun + n then FrameBuffer.empty else lane.buffer }))
  ∧ (∀ lane : Lane, lane.sample .space = lane.sample (.char heldChar) ∧ (lane.sample .space).idle = 0)

/-- Medium access: the attempt starts when the required idle has come; a readback that differs, has a framing error or is
missing starts the abort mark; after the mark the controller waits 3 + ((N + 7k) mod 16) ct, or after attempt 16 is done
with the frame at a weight of 8, which at 64 takes the lane DOWN for SCORE; a frame read back whole is done. What is read
back goes into the frame in progress, its noise not weighed (log entry 35); a collision discards it; a frame sent whole
ends at 2 ct of idle and goes nowhere; one cut off where the station may no longer send stays, and ends as a bad frame,
which weighs 4. TX carries the bits of the character being sent, space in an abort mark, and mark at all other times. That
a lane reads back one cell a character time, the cell told or else its own character, is the model's (log entries 7 and 24). -/
def Obligations.MediumAccess : Prop :=
  (∀ (l : LaneId) (s : State), s.resetLow = false →
    ((s.lane l).access = .deferring → (s.lane l).required ≤ (s.lane l).idle →
      let t := s.tickStamp.setLane l { s.lane l with access := .sending, progress := 0, readback := none }
      t.still = true → exec (.attemptStart l) s = .next t.closes)
    ∧ (∀ readback, (s.lane l).access = .sending → collides (s.lastSent l) readback = true →
      let t := s.tickStamp.setLane l { s.lane l with
        access := .aborting, abortTime := 0, progress := 0, readback := none, buffer := FrameBuffer.empty }
      t.still = true → exec (.collision l readback) s = .next t.closes)
    ∧ ((s.lane l).access = .aborting → 2 ≤ (s.lane l).abortTime → (s.lane l).attempt < 16 →
      let t := s.tickStamp.setLane l { s.lane l with
        access := .deferring, attempt := (s.lane l).attempt + 1
        required := 3 + (s.member.own.val + 7 * (s.lane l).attempt) % 16, abortTime := 0, idle := 0 }
      t.still = true → exec (.abortMarkEnd l) s = .next t.closes)
    ∧ ((s.lane l).access = .aborting → 2 ≤ (s.lane l).abortTime → (s.lane l).attempt = 16 → (s.lane l).score + 8 < 64 →
      let t := (s.tickStamp.setLane l { (s.lane l).release with score := (s.lane l).score + 8 }).markDone l
      t.still = true → exec (.abortMarkEnd l) s = .next t.closes)
    ∧ ((s.lane l).access = .aborting → 2 ≤ (s.lane l).abortTime → (s.lane l).attempt = 16 → 64 ≤ (s.lane l).score + 8 →
      (s.lane l).receives = true → exec (.abortMarkEnd l) s = .next
        (((s.tickStamp.setLane l { (s.lane l).release with score := 64 }).markDone l).laneDown l 1).settleEvent)
    ∧ ((s.lane l).access = .sending → s.currentLength ≤ (s.lane l).progress →
      collides (s.lastSent l) (s.lane l).readback = false →
      let t := (s.tickStamp.setLane l { (s.lane l).release with
        buffer := { (s.lane l).buffer with own := (s.lane l).buffer.count } }).markDone l
      t.still = true → exec (.frameSent l) s = .next t.closes)
    ∧ (∀ i, (s.lane l).access = .aborting → s.txPin l i = false)
    ∧ (∀ i, (s.lane l).access = .idle ∨ (s.lane l).access = .deferring → s.txPin l i = true)
    ∧ ((s.lane l).access = .sending → s.txPin l 0 = false ∧ s.txPin l 9 = true
      ∧ ∀ i : Fin 8, s.txPin l (Fin.ofNat 10 (i.val + 1)) = (s.currentBytes.getD (s.lane l).progress 0).getLsbD i.val))
  ∧ (∀ (l : LaneId) (i : Fin 10) (s : State), s.resetLow = true → s.txPin l i = true)
  ∧ (∀ (lane : Lane) (sent : Byte) (c : RxChar), lane.receives = true → lane.access = .sending → lane.shift = [] →
      lane.spaceRun = 0 → (0 < lane.buffer.count ∨ 2 ≤ lane.idle) → c.data.length = 8 → c.falseStart = false →
      (lane.line = [] ∧ c = cleanChar sent ∨ ∃ rest, lane.line = .char c :: rest) →
      lane.tick sent = { lane with
        progress := lane.progress + 1, readback := some c, idle := 0, line := lane.line.tail
        buffer := { lane.buffer.take c with noisy := lane.buffer.noisy } })
  ∧ (∀ (lane : Lane) (sent : Byte), lane.receives = true → lane.driving = false → lane.shift = [] → lane.spaceRun = 0 →
      lane.line = [] → lane.tick sent = { lane with
        idle := lane.idle + 1
        buffer := if 0 < lane.buffer.own ∧ lane.buffer.own = lane.buffer.count ∧ 1 ≤ lane.idle then FrameBuffer.empty
          else lane.buffer })
  ∧ (∀ (l : LaneId) (s : State),
      let whole := (s.lane l).access = .sending ∧ s.currentLength ≤ (s.lane l).progress
        ∧ collides (s.lastSent l) (s.lane l).readback = false
      (¬ whole → s.silence.lane l = (s.lane l).release)
      ∧ (whole → s.silence.lane l = { (s.lane l).release with
          buffer := { (s.lane l).buffer with own := (s.lane l).buffer.count } }))
  ∧ (∀ (l : LaneId) (s : State), s.resetLow = false → (s.lane l).hears = true → 0 < (s.lane l).buffer.count →
      2 ≤ (s.lane l).idle → (s.lane l).buffer.verdict ≠ none →
      let score := (s.lane l).score + 4 + (if (s.lane l).buffer.noisy then 1 else 0)
      score < 64 →
      let t := s.tickStamp.setLane l { s.lane l with score := score, buffer := FrameBuffer.empty }
      t.still = true → exec (.badFrameReceived ⟨l, [], []⟩) s = .next t.closes)

/-- A bad frame adds 4 to the score, and 1 more where it is noisy; a good frame on a PROBATION lane adds 1 to the good
count and takes 1 from the score; neither is passed to any unit. A score of 64 takes the lane DOWN for SCORE. The 32nd
good frame returns a PROBATION lane to UP with LANE_UP; where no lane was UP, an ISOLATED station enters LISTENING, the
listen timer of a LISTENING one starts, and a JOINING one sends its JOIN again. What a row tells of the line to come is
added to the lane's list (log entry 7). -/
def Obligations.FramesWeighTheirLane : Prop :=
  (∀ (rx : RxFrame) (s : State), s.resetLow = false → (s.lane rx.lane).hears = true →
    (s.lane rx.lane).awaitsFrame = true → 0 < rx.buffer.count →
    let noise := if rx.buffer.noisy then 1 else 0
    let ended := fun (score good : Nat) => { s.lane rx.lane with
      score := score, good := good, idle := 2, spaceRun := 0, buffer := FrameBuffer.empty
      line := (s.lane rx.lane).line ++ rx.line }
    (rx.buffer.verdict ≠ none → (s.lane rx.lane).score + 4 + noise < 64 →
      let t := s.tickStamp.setLane rx.lane (ended ((s.lane rx.lane).score + 4 + noise) (s.lane rx.lane).good)
      t.still = true → exec (.badFrameReceived rx) s = .next t.closes)
    ∧ (rx.buffer.verdict ≠ none → 64 ≤ (s.lane rx.lane).score + 4 + noise →
      exec (.badFrameReceived rx) s
        = .next ((s.tickStamp.setLane rx.lane (ended 64 (s.lane rx.lane).good)).laneDown rx.lane 1).settleEvent)
    ∧ (rx.buffer.verdict = none → (s.lane rx.lane).state = .probation → (s.lane rx.lane).score < 64 →
      (s.lane rx.lane).good + 1 < 32 →
      let t := s.tickStamp.setLane rx.lane (ended ((s.lane rx.lane).score + noise - 1) ((s.lane rx.lane).good + 1))
      t.still = true → exec (.probationFrameReceived rx) s = .next t.closes)
    ∧ (rx.buffer.verdict = none → (s.lane rx.lane).state = .probation → (s.lane rx.lane).score < 64 →
      (s.lane rx.lane).good + 1 = 32 → s.anyLaneUp = true →
      exec (.probationFrameReceived rx) s = .next ((s.tickStamp.setLane rx.lane
        { ended ((s.lane rx.lane).score + noise - 1) 0 with state := .up }).offer
          { cls := .laneUp, lane := some rx.lane }).settleEvent))
  ∧ (∀ (l : LaneId) (s : State),
      let t := (s.setLane l { s.lane l with state := .up, good := 0 }).offer { cls := .laneUp, lane := some l }
      (s.anyLaneUp = true → s.laneReturn l = t)
      ∧ (s.anyLaneUp = false →
        (s.member.state = .isolated → s.laneReturn l = (t.setMember { s.member with
          state := .listening, listen := some 0, join := none }).setSeq { s.seq with next := 0 })
        ∧ (s.member.state = .listening → s.laneReturn l = t.setMember { s.member with listen := some 0 })
        ∧ (s.member.state = .joining →
          s.laneReturn l = (t.setMember { s.member with listen := some 0, join := some 0 }).makeDue .join 0)
        ∧ (s.member.state ∈ [StationState.offline, .catchup, .live, .leaving, .departed, .halted] → s.laneReturn l = t)))

/-! ## Frames received -/

/-- A STATUS from a member whose mask holds this station and whose state is as held: includes-us, the receipt of us and
the welcome mark are taken from it, and nothing of the group changes; where this station's expectation of the member is
unknown, a welcome pair naming this station gives it, and a receipt is owed and urgent. One that shows another state
changes the member's, LEAVING excepted: the registrar is computed afresh, and where the member was LIVE its claims leave,
a block left without claims yields no more, and an orphan's claims leave where this station is registrar no longer (where
a CATCHUP station keeps a registrar). One whose mask lacks this station is the member's
receipt of the own EXCLUDE of a station on its way out; else, where the member's includes-us flag is set, the station
isolates with SELF_EXCLUDED: DEPARTED where it was on its way out (its incident offered second, the model's choice, log
entry 36), ISOLATED otherwise, and LISTENING at once while a lane is UP.
A change of state of a peer is told to the units, at a STATUS with the member as gained where it has become LIVE or LEAVING:
the registrar is as the tables give it; a settle job ends where this station may not hold one; a fetch slot whose source is
usable no more, or which has none and whose source is now the one gained (log entry 30), starts its attempt again at its
source, its timer at 0 and a FETCH due, none where it has no source (log entry 13), and the others stay; where the registrar
of a CATCHUP station with parts missing has changed, a SNAPQ is due to the new one and its timer is at 0; a CATCHUP station
left without a registrar isolates, with GROUP_DISSOLVED. -/
def Obligations.StatusIsTaken : Prop :=
  (∀ (l : LaneId) (p : Station) (shown : MemberState) (mask known : StationMask) (next q : SeqNo) (receipts : List Byte)
    (welcome : List (Station × SeqNo)) (s : State),
    let f : Frame := ⟨p, 0, q, .status shown mask next known receipts welcome⟩
    s.hearsFrame l f = true → (s.peer p).state.member = true → maskHas mask s.member.own = true →
    let held := s.peer p
    let now : PeerState := if held.state = .leaving then .leaving
      else match shown with | .catchup => .catchup | .live => .live | .leaving => .leaving
    let taken : Peer := { held with
      state := now, silence := some 0, includesUs := true
      receipt := if maskHas known s.member.own then some (receipts.getD (s.member.own.val - 1) 0) else none
      welcome := held.welcome && !maskHas known s.member.own }
    (now = held.state → (held.expect ≠ none ∨ ∀ x ∈ welcome, x.1 ≠ s.member.own) →
      let t := (s.carried l p).setPeer p taken
      t.still = true → exec (.statusReceived (cleanFrame l f)) s = .next t.closes)
    ∧ (now = held.state → held.expect = none → ∀ base pre rest, welcome = pre ++ (s.member.own, base) :: rest →
      (∀ x ∈ pre, x.1 ≠ s.member.own) →
      let t := ((s.carried l p).setPeer p { taken with expect := some base }).setSeq { s.seq with
        owed := true, urgent := true, age := if s.seq.owed then s.seq.age else some 0 }
      t.still = true → exec (.statusReceived (cleanFrame l f)) s = .next t.closes)
    ∧ (now ≠ held.state → (held.expect ≠ none ∨ ∀ x ∈ welcome, x.1 ≠ s.member.own) →
      let registrar := (stations.find? (fun x =>
        if x = s.member.own then s.member.state = .live else (if x = p then now else (s.peer x).state) = .live)).getD 0
      (s.member.state = .catchup → registrar ≠ 0) →
      ∃ t : State, exec (.statusReceived (cleanFrame l f)) s = .next t.settleEvent
        ∧ (∀ x, t.peer x = if x = p then taken else s.peer x)
        ∧ t.member.state = s.member.state ∧ t.member.registrar = registrar
        ∧ t.window = s.window ∧ t.write = s.write ∧ t.port = s.port ∧ t.seq = s.seq ∧ t.log = s.log
        ∧ (∀ x, x ∈ t.claim.list ↔ x ∈ s.claim.list ∧ (held.state = .live → x.2 ≠ p)
            ∧ ¬ (s.isRegistrar = true ∧ registrar ≠ s.member.own ∧ s.orphan x.1 = true))
        ∧ (∀ b, let ends := held.state = .live ∧ (b, p) ∈ s.claim.list ∧ ∀ c, (b, c) ∈ s.claim.list → c = p
            (ends → t.entry b = { s.entry b with yielding := false }) ∧ (¬ ends → t.entry b = s.entry b)))
    ∧ (now ≠ held.state →
      let gained := if (now = .live ∨ now = .leaving) ∧ held.state = .catchup then some p else none
      let told := fun u : State => if held.state = .live then u.dropClaimant p else u
      ((held.expect ≠ none ∨ ∀ x ∈ welcome, x.1 ≠ s.member.own) → exec (.statusReceived (cleanFrame l f)) s
        = .next ((told ((s.carried l p).setPeer p taken)).peersChanged gained).settleEvent)
      ∧ (held.expect = none → ∀ base pre rest, welcome = pre ++ (s.member.own, base) :: rest →
        (∀ x ∈ pre, x.1 ≠ s.member.own) → exec (.statusReceived (cleanFrame l f)) s
        = .next ((told (((s.carried l p).setPeer p { taken with expect := some base }).setSeq { s.seq with
          owed := true, urgent := true, age := if s.seq.owed then s.seq.age else some 0 })).peersChanged gained).settleEvent)))
  ∧ (∀ (l : LaneId) (p : Station) (shown : MemberState) (mask known : StationMask) (next q : SeqNo) (receipts : List Byte)
    (welcome : List (Station × SeqNo)) (s : State),
    let f : Frame := ⟨p, 0, q, .status shown mask next known receipts welcome⟩
    let out := s.member.state = .leaving ∨ (s.member.state = .catchup ∧ s.member.leavePending = true)
    s.hearsFrame l f = true → (s.peer p).state.member = true → maskHas mask s.member.own = false →
    (∀ pre e rest, out → s.seq.queue = pre ++ e :: rest → (∃ c, e.frame.payload = .exclude s.member.own c) →
        (∀ x ∈ pre, ∀ c, x.frame.payload ≠ .exclude s.member.own c) →
      exec (.statusReceived (cleanFrame l f)) s = .next ((s.carried l p).setPeer p { s.peer p with
        silence := some 0, receipt := some (e.seq + 1) }).settleEvent)
    ∧ (¬ out ∨ (∀ e ∈ s.seq.queue, ∀ c, e.frame.payload ≠ .exclude s.member.own c) → (s.peer p).includesUs = true →
      exec (.statusReceived (cleanFrame l f)) s
        = .next ((s.carried l p).offer { cls := .selfExcluded, peer := some p }).isolate.settleEvent))
  ∧ (∀ s : State,
    let out := s.member.state = .leaving ∨ (s.member.state = .catchup ∧ s.member.leavePending = true)
    let t := s.teardown .isolated
    (out → s.isolate = (s.offer { cls := .departed, detail := 1 }).teardown .departed)
    ∧ (¬ out → s.anyLaneUp = false → s.isolate = t)
    ∧ (¬ out → s.anyLaneUp = true → s.isolate = (t.setMember { t.member with
        state := .listening, listen := some 0, join := none }).setSeq { t.seq with next := 0 }))
  ∧ (∀ (gained : Option Station) (s : State),
    let registrar := s.computeRegistrar
    let t := s.peersChanged gained
    (s.member.state = .catchup → registrar = 0 → ∃ u : State, t = (u.offer { cls := .groupDissolved }).isolate
      ∧ u.member = { s.member with registrar := 0 } ∧ u.window = s.window ∧ u.dir = s.dir ∧ u.log = s.log ∧ u.write = s.write)
    ∧ ((s.member.state = .catchup → registrar ≠ 0) →
      let holds := s.member.state = .live ∧ s.member.own ≠ 0 ∧ registrar = s.member.own
      let asks := s.member.state = .catchup ∧ registrar ≠ s.member.registrar ∧ s.copy.missing ≠ 0
      let usable := fun p : Station =>
        p ≠ 0 ∧ p ≠ s.member.own ∧ ((s.peer p).state = .live ∨ (s.peer p).state = .leaving)
      let source := fun k : FetchSlot => s.fetchSource k.block k.attempt
      let moves := fun k : FetchSlot =>
        (k.source ≠ 0 ∧ ¬ usable k.source) ∨ (k.source = 0 ∧ source k ≠ 0 ∧ gained = some (source k))
      t.member = { s.member with registrar := registrar } ∧ t.dir = s.dir ∧ t.window = s.window ∧ t.write = s.write
      ∧ t.seq = s.seq ∧ t.port = s.port ∧ t.log = s.log
      ∧ (s.settle.job = .idle ∨ holds → t.settle = s.settle)
      ∧ (s.settle.job ≠ .idle → ¬ holds → (∀ r ∈ t.select.requests, r.payload.kind ≠ .query)
        ∧ t.settle = { s.settle with
          job := .idle, orphans := [], answerers := [], queries := 0, queryTimer := none, table := [], announce := []
          announced := 0 })
      ∧ (t.copy.missing = s.copy.missing ∧ t.copy.answers = s.copy.answers ∧ t.copy.holds = s.copy.holds)
      ∧ (asks → t.copy.snapq = some 0
        ∧ ∀ m x n, ⟨.snapq m, x, n⟩ ∈ t.select.requests ↔ m = s.copy.missing ∧ x = registrar ∧ n = s.stamp)
      ∧ (¬ asks → t.copy.snapq = s.copy.snapq
        ∧ ∀ m x n, ⟨.snapq m, x, n⟩ ∈ t.select.requests ↔ ⟨.snapq m, x, n⟩ ∈ s.select.requests)
      ∧ ((s.copy.slots.map FetchSlot.block).Nodup →
        (∃ f : FetchSlot → FetchSlot, t.copy.slots = s.copy.slots.map f
          ∧ ∀ k, (moves k → f k = { k with source := source k, timer := 0 }) ∧ (¬ moves k → f k = k))
        ∧ ∀ k ∈ s.copy.slots, ∀ x n,
          (moves k → (⟨.fetch k.block, x, n⟩ ∈ t.select.requests ↔ source k ≠ 0 ∧ x = source k ∧ n = s.stamp))
          ∧ (¬ moves k → (⟨.fetch k.block, x, n⟩ ∈ t.select.requests ↔ ⟨.fetch k.block, x, n⟩ ∈ s.select.requests)))))

/-- A JOIN at the registrar from a station that is no member, owns nothing here and has no ADMIT queued: its ADMIT is
enqueued with its mask, and its entry is CATCHUP with base the ADMIT's seq and expectation 0. By Table 5-5 a JOIN is
ignored where an ADMIT for the joiner is queued; one from a member excludes it for REJOIN; one from another is ignored
where the directory names the joiner as an owner, or no entry is free. Elsewhere than at the registrar it is discarded. -/
def Obligations.JoinIsAdmitted : Prop :=
  (∀ (l : LaneId) (j : Station) (q : SeqNo) (s : State),
    let f : Frame := ⟨j, 0, q, .join⟩
    s.hearsFrame l f = true → s.untroubled = true → s.isRegistrar = true → s.isMember j = false →
    s.admitQueued j = false → s.ownsAny j = false → s.freeEntry = true →
    let u := (s.carried l j).setPeer j { state := .catchup, silence := some 0, expect := some 0, receipt := none
                                         base := some s.seq.next, welcome := false, includesUs := false }
    let t := u.enqueue (.admission j (maskOf (fun p => p = j || p = s.member.own || s.isMember p)))
    t.still = true → exec (.joinReceived (cleanFrame l f)) s = .next t.closes)
  ∧ (∀ (l : LaneId) (j : Station) (q : SeqNo) (s : State),
    let f : Frame := ⟨j, 0, q, .join⟩
    s.hearsFrame l f = true →
    let ignored := exec (.joinReceived (cleanFrame l f)) s = .next (s.carried l j).settleEvent
    let queued := ∃ e ∈ s.seq.queue, ∃ mask, e.frame.payload = .admission j mask
    let owns := ∃ b, (s.entry b).owner = j
    (s.isRegistrar = false → ignored)
    ∧ (s.isRegistrar = true → queued → ignored)
    ∧ (s.isRegistrar = true → ¬ queued → s.isMember j = false → owns → ignored)
    ∧ (s.isRegistrar = true → ¬ queued → s.isMember j = false → ¬ owns → s.freeEntry = false → ignored)
    ∧ (s.isRegistrar = true → ¬ queued → s.isMember j = true →
      exec (.joinReceived (cleanFrame l f)) s = .next ((s.carried l j).decideExclude j .rejoin true).settleEvent)
    ∧ (s.isRegistrar = true → ¬ queued → s.isMember j = true → s.untroubled = true → s.claim = ClaimUnit.reset →
      s.freeEntry = true →
      let u := ((s.carried l j).setPeer j { Peer.empty with state := .excluded }).dropAnswers j
      let t := (u.offer { cls := .peerExcluded, peer := some j, detail := 5 }).enqueue (.exclude j .rejoin)
      t.still = true → exec (.joinReceived (cleanFrame l f)) s = .next t.closes)
    ∧ (s.admitQueued j = true ↔ queued) ∧ (s.ownsAny j = true ↔ owns))

/-- An ADMIT for another station, in sequence from a member: the joiner's entry is CATCHUP with this station's next seq as
base, expectation 0 and its welcome pending; an urgent STATUS is asked for and a receipt is owed. A joiner that is still a
member here is excluded for REJOIN first, as this station's own decision (log entry 12), and then admitted in the same event
(their order, and what sees it, is the model's choice, log entry 29), unless the exclusion has put this station out of its
group. So it is in CATCHUP, LIVE and LEAVING. -/
def Obligations.AdmitIsAccepted : Prop :=
  (∀ (l : LaneId) (p j : Station) (q : SeqNo) (mask : StationMask) (s : State),
    let f : Frame := ⟨p, 0, q, .admission j mask⟩
    s.hearsFrame l f = true → s.untroubled = true → (s.peer p).state.member = true → (s.peer p).expect = some q →
    j ≠ s.member.own → s.isMember j = false →
    let u := (((s.carried l p).setPeer p { s.peer p with silence := some 0, expect := some (q + 1) }).setSeq
      s.seq.oweAccepted).setPeer j { state := .catchup, silence := some 0, expect := some 0, receipt := none
                                     base := some s.seq.next, welcome := true, includesUs := false }
    let t := u.setMember { u.member with urgentStatus := true }
    t.still = true → exec (.admitReceived (cleanFrame l f)) s = .next t.closes)
  ∧ (∀ (l : LaneId) (p j : Station) (q : SeqNo) (mask : StationMask) (s : State),
    let f : Frame := ⟨p, 0, q, .admission j mask⟩
    s.hearsFrame l f = true → (s.peer p).state.member = true → (s.peer p).expect = some q → j ≠ s.member.own →
    let u := s.acceptedFrom l p q
    let v := if (s.peer j).state.member then u.decideExclude j .rejoin true else u
    let w := v.setPeer j { state := .catchup, silence := some 0, expect := some 0, receipt := none
                           base := some v.seq.next, welcome := true, includesUs := false }
    (v.active = true → exec (.admitReceived (cleanFrame l f)) s
      = .next ((w.setMember { w.member with urgentStatus := true }).peersChanged none).settleEvent)
    ∧ (v.active = false → exec (.admitReceived (cleanFrame l f)) s = .next v.settleEvent)
    ∧ ((s.peer j).state.member = false → v.active = true))

/-- The ADMIT naming this station, heard in JOINING: CATCHUP, every other station of the mask LIVE with base next seq, the
sender's expectation known and no other's, the registrar the lowest-numbered of them, every part missing and a SNAPQ for
all due to the registrar. -/
def Obligations.JoinerIsAdmitted : Prop :=
  ∀ (l : LaneId) (sender : Station) (q : SeqNo) (mask : StationMask) (s : State),
    let f : Frame := ⟨sender, 0, q, .admission s.member.own mask⟩
    s.canHear l f = true → s.member.state = .joining → (∀ p, s.peer p = Peer.empty) → s.copy = CopyUnit.reset →
    s.claim = ClaimUnit.reset → s.settle.job = .idle → s.member.registrar = 0 →
    ∃ t : State, exec (.admitReceived (cleanFrame l f)) s = .next t.settleEvent
      ∧ t.member.state = .catchup ∧ t.member.urgentStatus = true ∧ t.member.join = none ∧ t.member.listen = none
      ∧ t.copy.missing = 0xFFFF ∧ t.copy.snapq = some 0 ∧ t.seq.owed = true ∧ t.seq.urgent = true
      ∧ t.select.heartbeat = some 0 ∧ t.window = s.window ∧ t.dir = s.dir
      ∧ t.member.registrar ≠ 0 ∧ t.member.registrar ≠ s.member.own ∧ maskHas mask t.member.registrar = true
      ∧ (∀ p, p ≠ s.member.own → maskHas mask p = true → t.member.registrar ≤ p)
      ∧ { payload := .snapq 0xFFFF, target := t.member.registrar, stamp := s.stamp + 1 } ∈ t.select.requests
      ∧ ∀ p, t.peer p = if p ≠ s.member.own ∧ maskHas mask p = true then
          { state := .live, silence := some 0, expect := if p = sender then some (q + 1) else none, receipt := none
            base := some s.seq.next, welcome := false, includesUs := false }
        else Peer.empty

/-- An UPDATE in sequence from the recorded owner, its epoch not later, at the local version + 1 of a CURRENT copy: every
entry is written in list order, the version advances, a watched block is posted, a receipt is owed; words of other
blocks stay. One out of sequence is judged by Table 4-3. An accepted one is judged by the ownership step (a later epoch makes
the sender owner, no donor stands, and a claim slot for the block is retargeted) and, where its sender then is the owner, by
the content step: a gap makes a CURRENT copy STALE with the version seen, an old version does nothing, a STALE or FETCHING
copy raises its seen version, an UNKNOWN one becomes STALE only with a later epoch. A watched block is posted once in the
notice queue, of 16 places. -/
def Obligations.UpdateIsApplied : Prop :=
  (∀ (l : LaneId) (p : Station) (q : SeqNo) (b : Block) (e : Epoch) (es : List WordWrite) (s : State),
    let v := (s.entry b).version + 1
    let f : Frame := ⟨p, 0, q, .update b e v es⟩
    s.hearsFrame l f = true → s.window.wf = true → (s.peer p).state.member = true → (s.peer p).expect = some q →
    (s.entry b).owner = p → (s.entry b).copy = .current → later8 e (s.entry b).epoch = false →
    let u := ((s.carried l p).setPeer p { s.peer p with silence := some 0, expect := some (q + 1) }).setSeq s.seq.oweAccepted
    let t := ((u.setWindow (es.foldl (fun w x => w.store (32 * b.val + x.offset.val) x.value) s.window)).setEntry b
      { s.entry b with version := v }).notice b
    t.still = true → exec (.updateReceived (cleanFrame l f)) s = .next t.closes
      ∧ ∀ c : Nat, c / 32 ≠ b.val → t.window.read c = s.window.read c)
  ∧ (∀ (l : LaneId) (p : Station) (q : SeqNo) (b : Block) (e : Epoch) (v : Version) (es : List WordWrite) (s : State),
    let f : Frame := ⟨p, 0, q, .update b e v es⟩
    let row : Instr := .updateReceived (cleanFrame l f)
    s.hearsFrame l f = true →
    ((s.peer p).state.member = true → (s.peer p).expect = some q →
      exec row s = .next ((s.acceptedFrom l p q).updateArrive p b e v es).settleEvent)
    ∧ (∀ x, (s.peer p).state.member = true → (s.peer p).expect = some x → later8 q x = true →
      exec row s = .next ((s.carried l p).setSeq { s.seq with
        owed := true, urgent := true, age := if s.seq.owed then s.seq.age else some 0 }).settleEvent)
    ∧ (∀ x, (s.peer p).state.member = true → (s.peer p).expect = some x → q ≠ x → later8 q x = false →
      exec row s = .next ((s.carried l p).setSeq { s.seq with
        owed := true, age := if s.seq.owed then s.seq.age else some 0 }).settleEvent)
    ∧ ((s.peer p).state.member = false ∨ (s.peer p).expect = none → exec row s = .next (s.carried l p).settleEvent))
  ∧ (∀ q : SeqUnit, q.oweAccepted = { q with
      owed := true, accepted := min (q.accepted + 1) 8, urgent := q.urgent || decide (8 ≤ q.accepted + 1)
      age := if q.owed then q.age else some 0 })
  ∧ (∀ (p : Station) (b : Block) (e : Epoch) (v : Version) (es : List WordWrite) (s : State),
      (later8 e (s.entry b).epoch = true →
        s.updateArrive p b e v es = ((s.takeOwner b p p e none).sendClaim b).grantSlot.updateContent b v es true)
      ∧ (later8 e (s.entry b).epoch = false → (s.entry b).owner = p →
        s.updateArrive p b e v es = s.updateContent b v es false)
      ∧ (later8 e (s.entry b).epoch = false → (s.entry b).owner ≠ p → s.owned b = false → s.updateArrive p b e v es = s)
      ∧ (later8 e (s.entry b).epoch = false → (s.entry b).owner ≠ p → s.owned b = true → s.updateArrive p b e v es
        = s.offer { cls := .auditMismatch, peer := some p, block := some b, detail := v }))
  ∧ (∀ (b : Block) (v : Version) (es : List WordWrite) (passed : Bool) (s : State),
      let t := s.updateContent b v es passed
      let d := s.entry b
      (d.copy = .current → v = d.version + 1 → t = ((s.setWindow (es.foldl
        (fun w x => w.store (32 * b.val + x.offset.val) x.value) s.window)).setEntry b { d with version := v }).notice b)
      ∧ (d.copy = .current → later16 v (d.version + 1) = true → t = s.setEntry b { d with copy := .stale, seen := some v })
      ∧ (d.copy = .current → v ≠ d.version + 1 → later16 v (d.version + 1) = false → t = s)
      ∧ (d.copy = .stale ∨ d.copy = .fetching →
        (d.seen = none → t = s.setEntry b { d with seen := some v })
        ∧ (∀ w, d.seen = some w → t = if later16 v w then s.setEntry b { d with seen := some v } else s))
      ∧ (d.copy = .unknown → t = if passed then s.setEntry b { d with copy := .stale, seen := some v } else s))
  ∧ (∀ (b : Block) (s : State), s.notice b =
      if s.watched b = true ∧ b ∉ s.port.notices then
        if s.port.notices.length < 16 then s.setPort { s.port with notices := s.port.notices ++ [b] }
        else s.setPort { s.port with overflow := true }
      else s)

/-- A CLAIM for a block this LIVE station owns, from a LIVE peer, new and with a place free, joins the claim list. Where the
block is CURRENT, not yielding and holds nothing back, its release follows in the event: it yields, or its open batch closes
first, or is made due where no general slot is free. So does one for an orphan at the registrar, which is not released nor
served while it is one. Any other CLAIM is dropped: one at a station that is not LIVE, for a block neither owned here nor an
orphan at its registrar, from a peer not LIVE, one that stands in the list, one that finds 8 entries there. -/
def Obligations.ClaimIsEntered : Prop :=
  (∀ (l : LaneId) (p : Station) (q : SeqNo) (b : Block) (a : Nat) (s : State),
    let f : Frame := ⟨p, s.member.own, q, .claim b a⟩
    s.hearsFrame l f = true → s.member.state = .live → s.owned b = true → (s.peer p).state = .live →
    (b, p) ∉ s.claim.list → s.claim.list.length < 8 →
    let t := (s.carried l p).setClaim { s.claim with list := s.claim.list ++ [(b, p)] }
    let row : Instr := .claimReceived (cleanFrame l f)
    (t.still = true → exec row s = .next t.closes)
    ∧ exec row s = .next t.settleEvent
    ∧ (t.nextActs = [.release b] →
      (s.batchFor b = false → exec row s = .next (t.setEntry b { s.entry b with yielding := true }).goesOn)
      ∧ (s.batchFor b = true → s.freeGeneral = true → exec row s = .next t.closeBatch.goesOn)
      ∧ (∀ x, s.write.batch = some x → x.block = b → s.freeGeneral = false →
        exec row s = .next (t.setWrite { s.write with batch := some { x with due := true } }).goesOn))
    ∧ (s.releasable b = true ↔ (s.entry b).copy = .current ∧ (s.entry b).yielding = false ∧ s.hasHeld b = false
        ∧ ∀ x, s.write.batch = some x → x.block = b → x.due = false))
  ∧ (∀ (l : LaneId) (p : Station) (q : SeqNo) (b : Block) (a : Nat) (s : State),
    let f : Frame := ⟨p, s.member.own, q, .claim b a⟩
    s.hearsFrame l f = true → s.member.state = .live → s.owned b = false → s.orphan b = true →
    s.member.registrar = s.member.own → (s.peer p).state = .live → (b, p) ∉ s.claim.list → s.claim.list.length < 8 →
    let t := (s.carried l p).setClaim { s.claim with list := s.claim.list ++ [(b, p)] }
    let row : Instr := .claimReceived (cleanFrame l f)
    exec row s = .next t.settleEvent ∧ (t.still = true → exec row s = .next t.closes)
    ∧ t.entry b = s.entry b ∧ t.releasable b = false ∧ t.servable b = false)
  ∧ (∀ (l : LaneId) (p : Station) (q : SeqNo) (b : Block) (a : Nat) (s : State),
    let f : Frame := ⟨p, s.member.own, q, .claim b a⟩
    let row : Instr := .claimReceived (cleanFrame l f)
    s.hearsFrame l f = true →
    (s.member.state ≠ .live ∨ (s.owned b = false ∧ ¬ (s.orphan b = true ∧ s.member.registrar = s.member.own))
      ∨ (s.peer p).state ≠ .live ∨ (b, p) ∈ s.claim.list ∨ 8 ≤ s.claim.list.length) →
    exec row s = .next (s.carried l p).settleEvent)

/-- A HANDOVER entry, or a SETTLE entry, in sequence, naming another station at a later epoch for a block owned
elsewhere and CURRENT at its version: owner and epoch are taken, the copy stays CURRENT and has no donor. The entries of
a frame are judged one after another: one whose epoch is not later is discarded; one that names another station takes
owner, epoch and donor, this station losing the block where it owned it, and moves the copy by Table 1-4 (versions not
32,768 apart), and the block's claim slot is retargeted; one that names this station gains the block in LIVE or LEAVING,
ready or behind, and is reported in any other state. The model's: a slot is asked for entry by entry (log entry 6), a
CLAIM whose target is this station is withdrawn (log entry 13), and a HANDOVER naming this station for a block it owns
is judged as a SETTLE is (log entry 14). -/
def Obligations.HandoverAndSettleMoveOwner : Prop :=
  (∀ (l : LaneId) (p n d : Station) (q : SeqNo) (r : Round) (b : Block) (e : Epoch) (s : State),
    (s.peer p).state.member = true → (s.peer p).expect = some q → n ≠ s.member.own → later8 e (s.entry b).epoch = true →
    s.owned b = false → s.orphan b = false → (s.entry b).copy = .current → s.claimSlot b = none →
    let u := ((s.carried l p).setPeer p { s.peer p with silence := some 0, expect := some (q + 1) }).setSeq s.seq.oweAccepted
    let t := u.setEntry b { s.entry b with owner := n, epoch := e, donor := none }
    let f : Frame := ⟨p, 0, q, .handover n [⟨b, e, (s.entry b).version⟩]⟩
    let g : Frame := ⟨p, 0, q, .settle r [⟨b, n, e, (s.entry b).version, d⟩]⟩
    t.still = true →
      (s.hearsFrame l f = true → exec (.handoverReceived (cleanFrame l f)) s = .next t.closes)
      ∧ (s.hearsFrame l g = true → exec (.settleReceived (cleanFrame l g)) s = .next t.closes))
  ∧ (∀ (l : LaneId) (p n : Station) (q : SeqNo) (r : Round) (hs : List HandoverEntry) (ts : List SettleEntry) (s : State),
    (s.peer p).state.member = true → (s.peer p).expect = some q →
    let f : Frame := ⟨p, 0, q, .handover n hs⟩
    let g : Frame := ⟨p, 0, q, .settle r ts⟩
    (s.hearsFrame l f = true → exec (.handoverReceived (cleanFrame l f)) s = .next (hs.foldl (fun u h =>
      u.ownershipEntry p h.block n h.epoch h.version (if n = u.member.own then some p else none))
        (s.acceptedFrom l p q)).settleEvent)
    ∧ (s.hearsFrame l g = true → exec (.settleReceived (cleanFrame l g)) s = .next (ts.foldl (fun u x =>
      u.ownershipEntry p x.block x.owner x.epoch x.version (if x.donor = u.member.own then none else some x.donor))
        (s.acceptedFrom l p q)).settleEvent))
  ∧ (∀ (p : Station) (b : Block) (n : Station) (e : Epoch) (v : Version) (donor : Option Station) (s : State),
    let t := s.ownershipEntry p b n e v donor
    let d := s.entry b
    let mismatch : Offer := { cls := .auditMismatch, peer := some p, block := some b, detail := v }
    (later8 e d.epoch = false → t = s)
    ∧ (later8 e d.epoch = true → n ≠ s.member.own →
      t = ((((s.takeOwner b p n e donor).copyNotGained b p v).dropDonorIfCurrent b).sendClaim b).grantSlot)
    ∧ (later8 e d.epoch = true → n = s.member.own → s.member.state ≠ .live → s.member.state ≠ .leaving →
      t = s.offer { mismatch with detail := e.setWidth 16 })
    ∧ (later8 e d.epoch = true → n = s.member.own → (s.member.state = .live ∨ s.member.state = .leaving) →
      let u := s.closeClaim b
      let gained : DirEntry := { d with owner := s.member.own, epoch := e, donor := donor }
      (d.copy = .current → d.version = v → t = (u.setEntry b { gained with donor := none }).grantSlot)
      ∧ (d.copy = .current → later16 d.version v = true →
        t = ((u.offer mismatch).setEntry b { gained with donor := none }).grantSlot)
      ∧ (d.copy = .current → d.version ≠ v → later16 d.version v = false →
        t = ((u.setEntry b { gained with copy := .stale }).discardBatch b).grantSlot)
      ∧ (d.copy = .unknown ∨ d.copy = .stale → t = (u.setEntry b { gained with copy := .stale }).grantSlot)
      ∧ (d.copy = .fetching → t = ((u.setEntry b { gained with copy := .stale }).closeFetch b).grantSlot)))
  ∧ (∀ (b : Block) (p n : Station) (e : Epoch) (donor : Option Station) (s : State),
    let t := s.takeOwner b p n e donor
    (s.owned b = false → t = (if s.orphan b = true ∧ (s.peer n).state ≠ .excluded then
        s.setClaim { s.claim with list := s.claim.list.filter (fun c => c.1 ≠ b) } else s).setEntry b
          { s.entry b with owner := n, epoch := e, donor := donor })
    ∧ (s.owned b = true →
      let u := (s.setEntry b { s.entry b with yielding := false }).discardBatch b
      t = ((u.setClaim { s.claim with list := s.claim.list.filter (fun c => c.1 ≠ b) }).offer
        { cls := .auditMismatch, peer := some p, block := some b, detail := e.setWidth 16 }).setEntry b
          { u.entry b with owner := n, epoch := e, donor := donor }))
  ∧ (∀ (b : Block) (p : Station) (v : Version) (s : State),
    let t := s.copyNotGained b p v
    let d := s.entry b
    let stale := s.setEntry b { d with copy := .stale }
    (d.copy = .unknown → t = stale) ∧ (d.copy = .stale → t = s)
    ∧ (d.copy = .fetching → t = if later16 v d.version then stale.closeFetch b else s)
    ∧ (d.copy = .current → later16 v d.version = true → t = stale)
    ∧ (d.copy = .current → d.version = v → t = s)
    ∧ (d.copy = .current → later16 d.version v = true →
      t = s.offer { cls := .auditMismatch, peer := some p, block := some b, detail := v })
    ∧ s.dropDonorIfCurrent b = if d.copy = .current then s.setEntry b { d with donor := none } else s)
  ∧ (∀ (b : Block) (s : State),
    s.closeClaim b = (s.setClaim { s.claim with slots := s.claim.slots.filter (fun c => c.block ≠ b) }).withdraw (.claim b)
    ∧ s.closeFetch b = (s.setCopyUnit { s.copy with slots := s.copy.slots.filter (fun c => c.block ≠ b) }).withdraw (.fetch b)
    ∧ (s.claimSlot b = none → s.sendClaim b = s)
    ∧ (∀ c, s.claimSlot b = some c →
      let target := if s.orphan b then s.member.registrar else (s.entry b).owner
      let slot := fun timer : Option Nat => s.setClaim { s.claim with slots := s.claim.slots.map (fun x =>
        if x.block = b then { c with target := target, timer := timer } else x) }
      s.sendClaim b = if target = s.member.own ∨ target = 0 then (slot none).withdraw (.claim b)
        else (slot (some 0)).makeDue (.claim b c.attempt) target)
    ∧ (∀ x, s.write.batch = some x → x.block = b →
      s.discardBatch b = ((s.setWrite { s.write with batch := none }).setEntry b { s.entry b with copy := .stale }).offer
        { cls := .writesDiscarded, block := some b, detail := BitVec.ofNat 16 x.entries.length })
    ∧ ((∀ x, s.write.batch = some x → x.block ≠ b) → s.discardBatch b = s))

/-- An EXCLUDE of another member, its own sender or a third, not the registrar, in sequence: its entry is EXCLUDED with
nothing known, its answers leave, PEER_EXCLUDED is offered. One naming this station isolates it, with SELF_EXCLUDED. One
naming any other excludes it: an EXCLUDED one without effect; any other with an entry EXCLUDED, the registrar computed
afresh (where a CATCHUP station keeps one), its claims, and the yielding of blocks left without claims, gone, the claim
slots aimed at it or for its blocks retargeted, and PEER_EXCLUDED unless it was ABSENT. A fetch slot whose source it was
starts its attempt again at its source now, its timer at 0 and a FETCH due, none where it has no source (log entry 13); a
change of registrar at a CATCHUP station with parts missing makes a SNAPQ due to the new one; a settle job ends where this
station may not hold one any more, and a QUERYING one that stays is restarted, by a decision at once where there is none to
ask, and is over with no orphan left (log entry 15). A CATCHUP station left without a registrar isolates, with GROUP_DISSOLVED;
its PEER_EXCLUDED is offered before it, and the DEPARTED of a station on its way out last (the model's choice, log entry 36). -/
def Obligations.ExcludeIsAccepted : Prop :=
  (∀ (l : LaneId) (p x : Station) (q : SeqNo) (c : Cause) (s : State),
    let f : Frame := ⟨p, 0, q, .exclude x c⟩
    s.hearsFrame l f = true → s.untroubled = true → (s.peer p).state.member = true → (s.peer p).expect = some q →
    x ≠ s.member.own → s.isMember x = true → x ≠ s.member.registrar → s.claim = ClaimUnit.reset →
    let u := ((s.carried l p).setPeer p { s.peer p with silence := some 0, expect := some (q + 1) }).setSeq s.seq.oweAccepted
    let t := ((u.setPeer x { Peer.empty with state := .excluded }).dropAnswers x).offer
      { cls := .peerExcluded, peer := some x, detail := c.code.setWidth 16 }
    t.still = true → exec (.excludeReceived (cleanFrame l f)) s = .next t.closes)
  ∧ (∀ (l : LaneId) (p : Station) (q : SeqNo) (c : Cause) (s : State),
    let f : Frame := ⟨p, 0, q, .exclude s.member.own c⟩
    s.hearsFrame l f = true → (s.peer p).state.member = true → (s.peer p).expect = some q →
    exec (.excludeReceived (cleanFrame l f)) s = .next ((s.acceptedFrom l p q).offer
      { cls := .selfExcluded, peer := some p, detail := c.code.setWidth 16 }).isolate.settleEvent)
  ∧ (∀ (l : LaneId) (p x : Station) (q : SeqNo) (c : Cause) (s : State),
    let f : Frame := ⟨p, 0, q, .exclude x c⟩
    s.hearsFrame l f = true → (s.peer p).state.member = true → (s.peer p).expect = some q → x ≠ s.member.own →
    exec (.excludeReceived (cleanFrame l f)) s = .next ((s.acceptedFrom l p q).exclude x c true).settleEvent)
  ∧ (∀ (x : Station) (c : Cause) (restart : Bool) (s : State),
    let t := s.exclude x c restart
    let registrar := (stations.find? (fun y =>
      if y = s.member.own then s.member.state = .live else y ≠ x ∧ (s.peer y).state = .live)).getD 0
    ((s.peer x).state = .excluded → t = s)
    ∧ ((s.peer x).state ≠ .excluded → x ≠ s.member.own → x ≠ 0 →
      (s.member.state = .catchup ∨ s.member.state = .live ∨ s.member.state = .leaving) →
      (s.member.state = .catchup → registrar ≠ 0) → s.computeRegistrar = s.member.registrar →
      (∀ y, t.peer y = if y = x then { Peer.empty with state := .excluded } else s.peer y)
      ∧ t.member.state = s.member.state ∧ t.member.registrar = registrar
      ∧ t.window = s.window ∧ t.write = s.write ∧ t.port = s.port ∧ t.seq = s.seq
      ∧ (∀ a, a ∈ t.copy.answers ↔ a ∈ s.copy.answers ∧ a.requester ≠ x)
      ∧ (∀ e, e ∈ t.claim.list ↔ e ∈ s.claim.list ∧ e.2 ≠ x)
      ∧ (∀ b, let ends := (b, x) ∈ s.claim.list ∧ ∀ y, (b, y) ∈ s.claim.list → y = x
          (ends → t.entry b = { s.entry b with yielding := false }) ∧ (¬ ends → t.entry b = s.entry b))
      ∧ (∀ b k, s.claimSlot b = some k → (k.target = x ∨ (s.entry b).owner = x) →
          let target := if s.orphan b = true ∨ (s.entry b).owner = x then registrar else (s.entry b).owner
          t.claimSlot b = some { k with
            target := target, timer := if target = s.member.own ∨ target = 0 then none else some 0 })
      ∧ ((restart = false ∨ s.settle.job ≠ .querying) → t.log.offered = s.log.offered
          ++ (if (s.peer x).state = .absent then []
            else [(.membership, { cls := .peerExcluded, peer := some x, detail := c.code.setWidth 16 })]))))
  ∧ (∀ (x : Station) (c : Cause) (s : State),
    let registrar := (stations.find? (fun y =>
      if y = s.member.own then s.member.state = .live else y ≠ x ∧ (s.peer y).state = .live)).getD 0
    (s.peer x).state ≠ .excluded → x ≠ s.member.own → x ≠ 0 →
    (s.member.state = .catchup ∨ s.member.state = .live ∨ s.member.state = .leaving) →
    (s.member.state = .catchup → registrar ≠ 0) →
    let v := s.setPeer x { Peer.empty with state := .excluded }
    let t := s.exclude x c false
    let kept := { s.settle with reply := s.settle.reply.filter (fun r => r.requester ≠ x) }
    let holds := s.member.state = .live ∧ s.member.own ≠ 0 ∧ registrar = s.member.own
    let asks := s.member.state = .catchup ∧ registrar ≠ s.member.registrar ∧ s.copy.missing ≠ 0
    let usable := fun p : Station =>
      p ≠ 0 ∧ p ≠ s.member.own ∧ p ≠ x ∧ ((s.peer p).state = .live ∨ (s.peer p).state = .leaving)
    let moves := fun k : FetchSlot => k.source ≠ 0 ∧ ¬ usable k.source
    let source := fun k : FetchSlot => v.fetchSource k.block k.attempt
    s.exclude x c true = t.restartJob
    ∧ (s.settle.job = .idle ∨ holds → t.settle = kept)
    ∧ (s.settle.job ≠ .idle → ¬ holds → (∀ r ∈ t.select.requests, r.payload.kind ≠ .query) ∧ t.settle = { kept with
        job := .idle, orphans := [], answerers := [], queries := 0, queryTimer := none, table := [], announce := []
        announced := 0 })
    ∧ (t.copy.missing = s.copy.missing ∧ t.copy.holds = s.copy.holds)
    ∧ (asks → t.copy.snapq = some 0
      ∧ ∀ m y n, ⟨.snapq m, y, n⟩ ∈ t.select.requests ↔ m = s.copy.missing ∧ y = registrar ∧ n = s.stamp)
    ∧ (¬ asks → t.copy.snapq = s.copy.snapq
      ∧ ∀ m y n, ⟨.snapq m, y, n⟩ ∈ t.select.requests ↔ ⟨.snapq m, y, n⟩ ∈ s.select.requests)
    ∧ ((s.copy.slots.map FetchSlot.block).Nodup →
      (∃ f : FetchSlot → FetchSlot, t.copy.slots = s.copy.slots.map f
        ∧ ∀ k, (moves k → f k = { k with source := source k, timer := 0 }) ∧ (¬ moves k → f k = k))
      ∧ ∀ k ∈ s.copy.slots, ∀ y n,
        (moves k → (⟨.fetch k.block, y, n⟩ ∈ t.select.requests ↔ source k ≠ 0 ∧ y = source k ∧ n = s.stamp))
        ∧ (¬ moves k → (⟨.fetch k.block, y, n⟩ ∈ t.select.requests ↔ ⟨.fetch k.block, y, n⟩ ∈ s.select.requests))))
  ∧ (∀ (x : Station) (c : Cause) (restart : Bool) (s : State), s.member.state = .catchup →
    (s.peer x).state ≠ .excluded → x ≠ s.member.own → x ≠ 0 →
    (∀ y : Station, y ≠ 0 → y ≠ s.member.own → y ≠ x → (s.peer y).state ≠ .live) →
    ∃ u : State, s.exclude x c restart = (u.offer { cls := .groupDissolved }).isolate
      ∧ (∀ y, u.peer y = if y = x then { Peer.empty with state := .excluded } else s.peer y)
      ∧ u.member.state = .catchup ∧ u.member.leavePending = s.member.leavePending ∧ u.member.registrar = 0
      ∧ u.window = s.window ∧ u.write = s.write ∧ u.port = s.port ∧ u.seq = s.seq
      ∧ u.log.offered = s.log.offered ++ (if (s.peer x).state = .absent then []
          else [(.membership, { cls := .peerExcluded, peer := some x, detail := c.code.setWidth 16 })]))
  ∧ (∀ s : State,
    let asked := stations.filter (fun p => (s.peer p).state = .live || (s.peer p).state = .leaving)
    let started := s.setSettle { s.settle with
      job := .querying, round := s.settle.round + 1, orphans := s.orphans
      answerers := asked.map (fun p => { station := p, answered := false, next := s.orphans.head? })
      queries := 1, queryTimer := if asked = [] then none else some 0, table := s.orphans.map SettleRecord.empty
      announce := [], announced := 0 }
    (s.settle.job ≠ .querying → s.restartJob = s)
    ∧ (s.settle.job = .querying →
      (s.orphans = [] → s.restartJob = (s.setSettle { s.settle with
        job := .idle, orphans := [], answerers := [], queries := 0, queryTimer := none, table := [], announce := []
        announced := 0 }).withdraw .query)
      ∧ (s.orphans ≠ [] → asked = [] → s.restartJob = started.decideJob)
      ∧ (s.orphans ≠ [] → asked ≠ [] → s.restartJob = started.makeDue
        (.query (s.settle.round + 1) (bitmapOf (fun b => decide (b ∈ s.orphans)))) 0)))

/-- A FETCH is entered in the answer queue of a LIVE or LEAVING station, and a SNAPQ at the registrar part by part in
ascending order: an entry that stands keeps its place, and past four places what is left is dropped. -/
def Obligations.RequestsAreQueued : Prop :=
  ∀ (l : LaneId) (p : Station) (q : SeqNo) (b : Block) (m : Word) (s : State),
    let push := fun (as : List Answer) (a : Answer) => if a ∈ as ∨ 4 ≤ as.length then as else as ++ [a]
    let f : Frame := ⟨p, s.member.own, q, .fetch b⟩
    let g : Frame := ⟨p, s.member.own, q, .snapq m⟩
    (s.peer p).state ≠ .excluded →
    (s.hearsFrame l f = true → (s.member.state = .live ∨ s.member.state = .leaving) →
      let t := (s.carried l p).setCopyUnit { s.copy with answers := push s.copy.answers (.copy p b) }
      t.still = true → exec (.fetchReceived (cleanFrame l f)) s = .next t.closes)
    ∧ (s.hearsFrame l g = true → s.isRegistrar = true →
      let parts := (List.finRange 16).filter (fun i => m.getLsbD i.val)
      let t := (s.carried l p).setCopyUnit { s.copy with
        answers := parts.foldl (fun as i => push as (.snap p i)) s.copy.answers }
      t.still = true → exec (.snapqReceived (cleanFrame l g)) s = .next t.closes)

/-- A COPY with status OK for the open slot of a FETCHING block of a LIVE station, at or after the local version and not
behind a seen version: all 32 words are written, the version is taken, the block is CURRENT with no seen version and no
donor, the slot closes. For a block with no slot it is discarded; an earlier version changes nothing; a later seen
version restarts the slot at attempt 1; a watched block that it changes is posted. NOT-CURRENT from the slot's source
ends the attempt. The last block to be CURRENT takes a CATCHUP station to LIVE, with JOINED. Where no source is found
the FETCH that waits is withdrawn (log entry 13). -/
def Obligations.CopyIsApplied : Prop :=
  (∀ (l : LaneId) (p : Station) (q : SeqNo) (b : Block) (v : Version) (ws : List Word) (s : State),
    let f : Frame := ⟨p, s.member.own, q, .copyOk b v ws⟩
    s.hearsFrame l f = true → s.member.state = .live → (s.peer p).state ≠ .excluded → (s.fetchSlot b).isSome = true →
    later16 (s.entry b).version v = false → (∀ w, (s.entry b).seen = some w → later16 w v = false) →
    s.watched b = false →
    let u := (s.carried l p).setWindow (s.window.storeBlock b (writesOf ws))
    let t := ((u.setEntry b { s.entry b with version := v, copy := .current, seen := none, donor := none }).setCopyUnit
      { s.copy with slots := s.copy.slots.filter (fun c => c.block ≠ b) }).withdraw (.fetch b)
    t.still = true → exec (.copyReceived (cleanFrame l f)) s = .next t.closes)
  ∧ (∀ (l : LaneId) (p : Station) (q : SeqNo) (b : Block) (v : Version) (ws : List Word) (s : State),
    let f : Frame := ⟨p, s.member.own, q, .copyOk b v ws⟩
    let row : Instr := .copyReceived (cleanFrame l f)
    s.hearsFrame l f = true → (s.peer p).state ≠ .excluded →
    (s.fetchSlot b = none → exec row s = .next (s.carried l p).settleEvent)
    ∧ (s.fetchSlot b ≠ none → exec row s = .next ((s.carried l p).copyArrive b v ws).settleEvent))
  ∧ (∀ (b : Block) (v : Version) (ws : List Word) (s : State),
    let t := s.copyArrive b v ws
    let d := s.entry b
    let u := (s.setWindow (s.window.storeBlock b (writesOf ws))).setEntry b { d with version := v }
    let w := if s.window.blockWords b = ws ∧ d.version = v then u else u.notice b
    (later16 d.version v = true → t = s)
    ∧ (later16 d.version v = false → ∀ x, d.seen = some x → later16 x v = true → t = w.nextAttempt b 1)
    ∧ (later16 d.version v = false → (∀ x, d.seen = some x → later16 x v = false) →
      t = ((w.setEntry b { d with version := v, copy := .current, seen := none, donor := none }).closeFetch b).testLive))
  ∧ (∀ (b : Block) (k : Nat) (s : State),
    let slot := s.setCopyUnit { s.copy with slots := s.copy.slots.map (fun c =>
      if c.block = b then ⟨b, s.fetchSource b k, k, 0⟩ else c) }
    s.nextAttempt b k = if s.fetchSource b k = 0 then slot.withdraw (.fetch b)
      else slot.makeDue (.fetch b) (s.fetchSource b k))
  ∧ (∀ (l : LaneId) (p : Station) (q : SeqNo) (b : Block) (v : Version) (c : FetchSlot) (s : State),
    let f : Frame := ⟨p, s.member.own, q, .copyNotCurrent b v⟩
    let row : Instr := .copyReceived (cleanFrame l f)
    s.hearsFrame l f = true → (s.peer p).state ≠ .excluded → s.fetchSlot b = some c →
    (c.source ≠ p → exec row s = .next (s.carried l p).settleEvent)
    ∧ (c.source = p → c.attempt < 4 → exec row s = .next ((s.carried l p).nextAttempt b (c.attempt + 1)).settleEvent)
    ∧ (c.source = p → 4 ≤ c.attempt → exec row s = .next ((s.carried l p).failFetch b p).settleEvent))
  ∧ (∀ s : State,
    ((s.member.state ≠ .catchup ∨ s.member.leavePending = true ∨ ∃ b, (s.entry b).copy ≠ .current) → s.testLive = s)
    ∧ (s.member.state = .catchup → s.member.leavePending = false → (∀ b, (s.entry b).copy = .current) →
      let t := s.testLive
      t.member.state = .live ∧ t.member.urgentStatus = true ∧ t.copy.missing = 0 ∧ t.copy.snapq = none
      ∧ t.audit.timer = some 0 ∧ t.audit.due = false ∧ t.member.registrar = t.computeRegistrar
      ∧ t.member.peers = s.member.peers ∧ t.dir = s.dir ∧ t.window = s.window
      ∧ t.log.offered = s.log.offered ++ [(.membership,
          { cls := .joined, peer := if s.member.registrar = 0 then none else some s.member.registrar })]))

/-- A SNAP part still missing, from a LIVE or LEAVING peer in CATCHUP: its entries are judged in block order, its flag
clears, and while parts are missing a new SNAPQ is due; with the last part the SNAPQ timer stops and a waiting SNAPQ is
withdrawn. A part not missing, one in another state, and one from any other sender change nothing. -/
def Obligations.SnapIsTaken : Prop :=
  (∀ (l : LaneId) (p : Station) (q : SeqNo) (i : Part) (es : List SnapEntry) (s : State),
    let f : Frame := ⟨p, s.member.own, q, .snap i es⟩
    s.hearsFrame l f = true → s.member.state = .catchup → s.copy.missing.getLsbD i.val = true →
    ((s.peer p).state = .live ∨ (s.peer p).state = .leaving) →
    let u := es.zipIdx.foldl (fun u x => u.snapEntry (Fin.ofNat 256 (16 * i.val + x.2)) x.1) (s.carried l p)
    let m := s.copy.missing &&& ~~~(1#16 <<< i.val)
    (m ≠ 0 →
      let t := (u.setCopyUnit { u.copy with missing := m, snapq := some 0 }).makeDue (.snapq m) s.member.registrar
      t.still = true → exec (.snapReceived (cleanFrame l f)) s = .next t.closes)
    ∧ (m = 0 →
      let t := (u.setCopyUnit { u.copy with missing := 0, snapq := none }).withdraw .snapq
      t.still = true → exec (.snapReceived (cleanFrame l f)) s = .next t.closes))
  ∧ (∀ (l : LaneId) (p : Station) (q : SeqNo) (i : Part) (es : List SnapEntry) (s : State),
    let f : Frame := ⟨p, s.member.own, q, .snap i es⟩
    s.hearsFrame l f = true →
    (s.member.state ≠ .catchup ∨ s.copy.missing.getLsbD i.val = false
      ∨ ((s.peer p).state ≠ .live ∧ (s.peer p).state ≠ .leaving)) →
    exec (.snapReceived (cleanFrame l f)) s = .next (s.carried l p).settleEvent)

/-- One SNAP entry: taken on an UNKNOWN block, or at a later epoch; then owner (0 for this station) and epoch are its, the donor
is absent, the copy is STALE and the version stays; one that is not taken changes nothing. One DIGEST entry (Tables 8-1 and
8-2, versions not 32,768 apart): another owner's is ignored; a copy that is behind becomes STALE with that seen version; one
that is later, or equal with another check, becomes STALE with AUDIT_MISMATCH; an equal one stays. -/
def Obligations.SnapAndDigestEntryRules : Prop :=
  (∀ (b : Block) (x : SnapEntry) (s : State),
      ((s.entry b).copy = .unknown ∨ later8 x.epoch (s.entry b).epoch = true →
        (s.snapEntry b x).entry b = { s.entry b with
          owner := if x.owner = s.member.own then 0 else x.owner, epoch := x.epoch, donor := none, copy := .stale })
      ∧ ((s.entry b).copy ≠ .unknown → later8 x.epoch (s.entry b).epoch = false → s.snapEntry b x = s)
      ∧ (s.snapEntry b x).window = s.window ∧ ∀ c, c ≠ b → (s.snapEntry b x).entry c = s.entry c)
  ∧ (∀ (p : Station) (d : DigestEntry) (s : State),
      let e := s.entry d.block
      let mismatch : Offer := { cls := .auditMismatch, peer := some p, block := some d.block, detail := d.version }
      (e.owner ≠ p → s.digestEntry p d = s)
      ∧ (e.owner = p → e.copy = .current → later16 d.version e.version = true →
        s.digestEntry p d = s.setEntry d.block { e with copy := .stale, seen := some d.version })
      ∧ (e.owner = p → e.copy = .current → later16 e.version d.version = true →
        s.digestEntry p d = (s.setEntry d.block { e with copy := .stale }).offerBy .audit mismatch)
      ∧ (e.owner = p → e.copy = .current → e.version = d.version →
        s.digestEntry p d = if s.blockCheck d.block = d.check then s
          else (s.setEntry d.block { e with copy := .stale }).offerBy .audit mismatch)
      ∧ (e.owner = p → e.copy = .unknown → s.digestEntry p d = s)
      ∧ (e.owner = p → e.copy = .stale ∨ e.copy = .fetching →
        (e.seen = none → s.digestEntry p d = s.setEntry d.block { e with seen := some d.version })
        ∧ (∀ w, e.seen = some w → s.digestEntry p d =
          if later16 d.version w then s.setEntry d.block { e with seen := some d.version } else s)))

/-- A QUERY from a higher-numbered member at a LIVE or LEAVING station with no VERSIONS answer standing and a place free: the
reply record is set up and the answer queued. A taken QUERY is answered by Table 7-2: ignored where the record is its own
and its VERSIONS entry stands; else a standing entry takes it in its place with a record replaced; else, where a place is
free, an entry is appended and the record restarted where it is its own, replaced where not; else it is dropped. One from a
lower-numbered member ends this station's job and starts its deference; a CATCHUP station answers none. A VERSIONS frame the job takes: its entries are folded into the settle table and
its sender's place moves on; with the last answerer's the job decides. It is taken in QUERYING, of the round, from an answerer
still missing, where it begins at the set's lowest block or the sender's next and names consecutive blocks of the set. -/
def Obligations.QueryAndVersions : Prop :=
  (∀ (l : LaneId) (p : Station) (q : SeqNo) (r : Round) (bm : List Byte) (s : State),
      let f : Frame := ⟨p, 0, q, .query r bm⟩
      s.hearsFrame l f = true → (s.member.state = .live ∨ s.member.state = .leaving) → (s.peer p).state.member = true →
      s.member.own.val < p.val → (∃ b, bitmapHas bm b = true) → s.copy.answers.any Answer.isVersions = false →
      s.copy.answers.length < 4 → (∀ x, s.settle.reply = some x → x.requester ≠ p ∨ x.round ≠ r) →
      let t := ((s.carried l p).setSettle { s.settle with reply := some {
        requester := p, round := r, bitmap := bm, next := (List.finRange 256).find? (bitmapHas bm), finished := false } }).setCopyUnit
          { s.copy with answers := s.copy.answers ++ [.versions p r] }
      t.still = true → exec (.queryReceived (cleanFrame l f)) s = .next t.closes)
  ∧ (∀ (l : LaneId) (p : Station) (q : SeqNo) (r : Round) (last : Bool) (es : List VersionsEntry) (s : State),
      let f : Frame := ⟨p, s.member.own, q, .versions r last es⟩
      s.hearsFrame l f = true → (s.peer p).state ≠ .excluded → s.takesVersions p r es = true →
      let t := (s.carried l p).setSettle { s.settle with
        table := es.foldl (fun table e => table.map (fun x => if x.block = e.block then x.fold p e else x)) s.settle.table
        answerers := s.settle.answerers.map (fun a => if a.station = p then
          { a with next := (es.getLast?).bind (fun e => ((s.setFrom e.block).drop 1).head?), answered := a.answered || last }
          else a) }
      ((s.settle.answerers.any (fun a => a.station ≠ p && !a.answered)) = true →
        t.still = true → exec (.versionsReceived (cleanFrame l f)) s = .next t.closes)
      ∧ (t.settle.answerers.all Answerer.answered = true →
        exec (.versionsReceived (cleanFrame l f)) s = .next t.decideJob.settleEvent))
  ∧ (∀ (l : LaneId) (p : Station) (q : SeqNo) (r : Round) (bm : List Byte) (s : State),
      let f : Frame := ⟨p, 0, q, .query r bm⟩
      s.hearsFrame l f = true → (s.peer p).state.member = true → p.val < s.member.own.val →
      let u := ((s.carried l p).setSettle { s.settle with
        job := .idle, orphans := [], answerers := [], queries := 0, queryTimer := none, table := [], announce := []
        announced := 0, deference := some 0 }).withdraw .query
      (s.member.state = .catchup ∨ (∀ b, bitmapHas bm b = false) →
        exec (.queryReceived (cleanFrame l f)) s = .next u.settleEvent)
      ∧ ((s.member.state = .live ∨ s.member.state = .leaving) → (∃ b, bitmapHas bm b = true) →
        exec (.queryReceived (cleanFrame l f)) s = .next (u.replyToQuery p r bm).settleEvent))
  ∧ (∀ (l : LaneId) (p : Station) (q : SeqNo) (r : Round) (bm : List Byte) (s : State),
      let f : Frame := ⟨p, 0, q, .query r bm⟩
      s.hearsFrame l f = true → (s.peer p).state.member = true → s.member.own.val < p.val →
      (s.member.state = .catchup ∨ (∀ b, bitmapHas bm b = false) →
        exec (.queryReceived (cleanFrame l f)) s = .next (s.carried l p).settleEvent)
      ∧ ((s.member.state = .live ∨ s.member.state = .leaving) → (∃ b, bitmapHas bm b = true) →
        exec (.queryReceived (cleanFrame l f)) s = .next ((s.carried l p).replyToQuery p r bm).settleEvent))
  ∧ (∀ (p : Station) (r : Round) (bm : List Byte) (s : State),
      let own := ∃ x, s.settle.reply = some x ∧ x.requester = p ∧ x.round = r
      let stands := ∃ a ∈ s.copy.answers, ∃ y n, a = .versions y n
      let replaced := s.setSettle { s.settle with reply := some {
        requester := p, round := r, bitmap := bm, next := (List.finRange 256).find? (bitmapHas bm), finished := false } }
      let queued := { s.copy with answers := s.copy.answers ++ [.versions p r] }
      (own → stands → s.replyToQuery p r bm = s)
      ∧ (¬ own → stands → s.replyToQuery p r bm = replaced.setCopyUnit { s.copy with
          answers := s.copy.answers.map (fun a => match a with | .versions _ _ => .versions p r | a => a) })
      ∧ (∀ x, s.settle.reply = some x → x.requester = p → x.round = r → ¬ stands → s.copy.answers.length < 4 →
        s.replyToQuery p r bm = (s.setSettle { s.settle with reply := some { x with
          next := (List.finRange 256).find? (bitmapHas x.bitmap), finished := false } }).setCopyUnit queued)
      ∧ (¬ own → ¬ stands → s.copy.answers.length < 4 → s.replyToQuery p r bm = replaced.setCopyUnit queued)
      ∧ (¬ stands → 4 ≤ s.copy.answers.length → s.replyToQuery p r bm = s))
  ∧ (∀ (p : Station) (r : Round) (e : VersionsEntry) (es : List VersionsEntry) (s : State),
      s.takesVersions p r (e :: es) = true ↔ s.settle.job = .querying ∧ r = s.settle.round
        ∧ (∃ a, s.settle.answerers.find? (fun x => x.station = p) = some a ∧ a.answered = false
          ∧ (s.settle.orphans.head? = some e.block ∨ a.next = some e.block))
        ∧ ((e :: es).map VersionsEntry.block) <+: s.settle.orphans.dropWhile (fun o => o ≠ e.block))
  ∧ (∀ (r : SettleRecord) (p : Station) (e : VersionsEntry), p ≠ 0 →
      let t := r.fold p e
      let better := r.version = none ∨ ∃ x, r.version = some x ∧ later16 e.version x = true
      t.block = r.block
      ∧ (r.epoch = none → t.epoch = some e.epoch)
      ∧ (∀ x, r.epoch = some x → t.epoch = some (if later8 e.epoch x then e.epoch else x))
      ∧ (better → t.version = some e.version ∧ t.holder = some p ∧ t.currentHolder = if e.current then some p else none)
      ∧ (¬ better → t.version = r.version)
      ∧ (r.version = some e.version →
        t.holder = some (match r.holder with | none => p | some x => if p.val < x.val then p else x)
        ∧ t.currentHolder = if e.current then
            some (match r.currentHolder with | none => p | some x => if p.val < x.val then p else x) else r.currentHolder)
      ∧ (¬ better → r.version ≠ some e.version → t.holder = r.holder ∧ t.currentHolder = r.currentHolder)
      ∧ (e.owned = true → ∀ x, x ∈ t.flaggers ↔ x ≠ 0 ∧ (x = p ∨ x ∈ r.flaggers))
      ∧ (e.owned = false → t.flaggers = r.flaggers))

/-- A DIGEST from a station that is not EXCLUDED: its entries are judged one after another. -/
def Obligations.DigestIsJudged : Prop :=
  ∀ (l : LaneId) (p : Station) (q : SeqNo) (es : List DigestEntry) (s : State),
    let f : Frame := ⟨p, 0, q, .digest es⟩
    s.hearsFrame l f = true → (s.peer p).state ≠ .excluded →
    let t := es.foldl (fun u d => u.digestEntry p d) (s.carried l p)
    t.still = true → exec (.digestReceived (cleanFrame l f)) s = .next t.closes

/-- A frame whose sender field is this station's own number halts it with NUMBER_CLASH, in any state but OFFLINE and
HALTED; in HALTED nothing happens; the frame goes no further. The side whose lowest station is higher dissolves, then
the one of fewer stations, then the one of the smaller mask: in a collision of groups exactly one of two sides with
different masks dissolves: a LIVE stranger's STATUS whose mask lacks this station isolates it, with GROUP_DISSOLVED,
where its own side is to dissolve, and is discarded where not (where it was on its way out its DEPARTED is offered second,
log entry 36). A good frame on an UP lane is judged step by step:
sender, clash, silence, kind, target class, addressee, payload; a malformed one is reported, and one addressed to
another station is heard and no more. The row that brings a frame decides nothing, its kind byte does (log entry 18),
and what the row tells of the line to come is added to the lane's list (log entry 7). -/
def Obligations.GroupConflicts : Prop :=
  (∀ (l : LaneId) (r : RawFrame) (s : State), r.sender ≠ 0 → r.sender = s.member.own →
      (s.member.state = .halted → s.judgeFrame l r = s)
      ∧ (s.member.state ≠ .halted →
        s.judgeFrame l r = (s.offer { cls := .numberClash, peer := some s.member.own, lane := some l
                                      detail := r.kind.setWidth 16 }).teardown .halted))
  ∧ (∀ (mine theirs : StationMask) (p q : Station),
      let lowest := fun (m : StationMask) (x : Station) =>
        x ≠ 0 ∧ maskHas m x = true ∧ ∀ y : Station, y ≠ 0 → maskHas m y = true → x ≤ y
      let size := fun m : StationMask => (stations.filter (maskHas m)).length
      lowest mine p → lowest theirs q →
      (q < p → dissolves mine theirs = true) ∧ (p < q → dissolves mine theirs = false)
      ∧ (p = q → size mine < size theirs → dissolves mine theirs = true)
      ∧ (p = q → size theirs < size mine → dissolves mine theirs = false)
      ∧ (p = q → size mine = size theirs → dissolves mine theirs = decide (mine.toNat < theirs.toNat)))
  ∧ (∀ a b : StationMask, a ≠ b → a.getLsbD 0 = false → b.getLsbD 0 = false → dissolves a b = !dissolves b a)
  ∧ (∀ (l : LaneId) (p : Station) (shown : MemberState) (mask known : StationMask) (next q : SeqNo) (receipts : List Byte)
      (welcome : List (Station × SeqNo)) (s : State),
      let f : Frame := ⟨p, 0, q, .status shown mask next known receipts welcome⟩
      let loses := shown = .live ∧ maskHas mask s.member.own = false ∧ dissolves s.membershipMask mask = true
      s.hearsFrame l f = true → (s.peer p).state.member = false →
      (loses → exec (.statusReceived (cleanFrame l f)) s = .next ((s.carried l p).offer
        { cls := .groupDissolved, peer := some (maskLowest mask) }).isolate.settleEvent)
      ∧ (¬ loses → exec (.statusReceived (cleanFrame l f)) s = .next (s.carried l p).settleEvent))
  ∧ (∀ (k : Kind) (rx : RxFrame) (s : State), s.resetLow = false → s.member.state ≠ .offline → s.laneUp rx.lane = true →
      (s.lane rx.lane).hears = true → (s.lane rx.lane).awaitsFrame = true → (s.lane rx.lane).score < 64 →
      rx.buffer.verdict = none →
      exec (k.row rx) s = .next ((s.tickStamp.setLane rx.lane { s.lane rx.lane with
        score := (s.lane rx.lane).score + (if rx.buffer.noisy then 1 else 0) - 1
        idle := 2, spaceRun := 0, buffer := FrameBuffer.empty
        line := (s.lane rx.lane).line ++ rx.line }).judgeFrame rx.lane (rawFrame rx.buffer.chars)).settleEvent)
  ∧ (∀ (l : LaneId) (r : RawFrame) (s : State),
      let bad : Offer := { cls := .malformedFrame, peer := if r.sender = 0 then none else some r.sender, lane := some l
                           detail := r.kind.setWidth 16 }
      let u := if (s.peer r.sender).state.member then s.setPeer r.sender { s.peer r.sender with silence := some 0 } else s
      (r.sender = 0 → s.judgeFrame l r = s.offer bad)
      ∧ (r.sender ≠ 0 → r.sender ≠ s.member.own →
        (Kind.ofCode r.kind = none → s.judgeFrame l r = u.offer bad)
        ∧ (∀ k, Kind.ofCode r.kind = some k →
          (k.toOne ≠ decide (r.target ≠ 0) → s.judgeFrame l r = u.offer bad)
          ∧ (k.toOne = true → r.target ≠ 0 → r.target ≠ s.member.own → s.judgeFrame l r = u.heard k)
          ∧ (k.toOne = decide (r.target ≠ 0) → (r.target = 0 ∨ r.target = s.member.own) →
            (readPayload k r.sender r.payload = none → s.judgeFrame l r = u.offer bad)
            ∧ (∀ x, readPayload k r.sender r.payload = some x →
              s.judgeFrame l r = u.deliver ⟨r.sender, r.target, r.seq, x⟩)))))
  ∧ (∀ (k : Kind) (f : Frame) (s : State), s.member.state ∈ [StationState.departed, .halted, .isolated] →
      s.heard k = s ∧ s.deliver f = s)
end

