-- ==== Sys2Proof/Laws/CommandWords.lean ====
section
/-! SUPPORT. No operation of the units changes the command word or the result word (R173): only a COMMAND row does. One lemma per operation. -/

set_option linter.unusedSimpArgs false

namespace Sys2Proof.Machine

/-- The command word and the result word. -/
def State.commandWords (s : State) : Word × Word := (s.port.command, s.port.result)

theorem foldl_commandWords {α : Type} (f : State → α → State) (h : ∀ s x, (f s x).commandWords = s.commandWords) (l : List α) (s : State) :
    (l.foldl f s).commandWords = s.commandWords := by
  induction l generalizing s with
  | nil => rfl
  | cons x l ih => rw [List.foldl_cons, ih, h]

@[simp] theorem State.commandWords_setWindow (s : State) x : (s.setWindow x).commandWords = s.commandWords := rfl
@[simp] theorem State.commandWords_setDir (s : State) x : (s.setDir x).commandWords = s.commandWords := rfl
@[simp] theorem State.commandWords_setWrite (s : State) x : (s.setWrite x).commandWords = s.commandWords := rfl
@[simp] theorem State.commandWords_setClaim (s : State) x : (s.setClaim x).commandWords = s.commandWords := rfl
@[simp] theorem State.commandWords_setSeq (s : State) x : (s.setSeq x).commandWords = s.commandWords := rfl
@[simp] theorem State.commandWords_setCopyUnit (s : State) x : (s.setCopyUnit x).commandWords = s.commandWords := rfl
@[simp] theorem State.commandWords_setSettle (s : State) x : (s.setSettle x).commandWords = s.commandWords := rfl
@[simp] theorem State.commandWords_setAudit (s : State) x : (s.setAudit x).commandWords = s.commandWords := rfl
@[simp] theorem State.commandWords_setSelect (s : State) x : (s.setSelect x).commandWords = s.commandWords := rfl
@[simp] theorem State.commandWords_setLog (s : State) x : (s.setLog x).commandWords = s.commandWords := rfl
@[simp] theorem State.commandWords_setLane (s : State) (l : LaneId) x : (s.setLane l x).commandWords = s.commandWords := by cases l <;> rfl
@[simp] theorem State.commandWords_offerBy (s : State) (u : IncidentUnit) (x : Offer) : (s.offerBy u x).commandWords = s.commandWords := rfl
@[simp] theorem State.commandWords_offer (s : State) (x : Offer) : (s.offer x).commandWords = s.commandWords := rfl
@[simp] theorem State.commandWords_recordOffers (s : State) : s.recordOffers.commandWords = s.commandWords := rfl
@[simp] theorem State.commandWords_tickStamp (s : State) : s.tickStamp.commandWords = s.commandWords := rfl

@[simp] theorem State.commandWords_setMember (s : State) x : (s.setMember x).commandWords = s.commandWords := rfl

@[simp] theorem State.commandWords_choose (s : State) (k : Nat) : (s.choose k).2.commandWords = s.commandWords := by
  unfold State.choose
  split <;> rfl

@[simp] theorem State.commandWords_setPeer (s : State) (p : Station) (x : Peer) : (s.setPeer p x).commandWords = s.commandWords := by
  rfl

@[simp] theorem State.commandWords_setEntry (s : State) (b : Block) (e : DirEntry) : (s.setEntry b e).commandWords = s.commandWords := by
  rfl

@[simp] theorem State.commandWords_notice (s : State) (b : Block) : (s.notice b).commandWords = s.commandWords := by
  unfold State.notice
  (repeat' split) <;> rfl

@[simp] theorem State.commandWords_withdraw (s : State) (k : RequestKey) : (s.withdraw k).commandWords = s.commandWords := by
  rfl

@[simp] theorem State.commandWords_makeDue (s : State) (p : Payload) (target : Station) : (s.makeDue p target).commandWords = s.commandWords := by
  rfl

@[simp] theorem State.commandWords_enqueue (s : State) (p : Payload) : (s.enqueue p).commandWords = s.commandWords := by
  rfl

@[simp] theorem State.commandWords_dropHead (s : State) : (s.dropHead).commandWords = s.commandWords := by
  rfl

@[simp] theorem State.commandWords_noteJudgement (s : State) (p : Station) (q : SeqNo) (j : Judgement) : (s.noteJudgement p q j).commandWords = s.commandWords := by
  unfold State.noteJudgement
  (repeat' split) <;> simp [State.commandWords_setMember, foldl_commandWords]

@[simp] theorem State.commandWords_setClaimSlot (s : State) (b : Block) (c : ClaimSlot) : (s.setClaimSlot b c).commandWords = s.commandWords := by
  rfl

@[simp] theorem State.commandWords_sendClaim (s : State) (b : Block) : (s.sendClaim b).commandWords = s.commandWords := by
  unfold State.sendClaim
  dsimp only
  (repeat' split) <;> simp [apply_ite State.commandWords, State.commandWords_setMember, foldl_commandWords]

@[simp] theorem State.commandWords_openClaim (s : State) (b : Block) (held : Bool) : (s.openClaim b held).commandWords = s.commandWords := by
  unfold State.openClaim
  simp

@[simp] theorem State.commandWords_grantSlot (s : State) : (s.grantSlot).commandWords = s.commandWords := by
  unfold State.grantSlot
  (repeat' split) <;> simp [State.commandWords_setMember, foldl_commandWords]

@[simp] theorem State.commandWords_closeClaim (s : State) (b : Block) : (s.closeClaim b).commandWords = s.commandWords := by
  rfl

@[simp] theorem State.commandWords_retargetClaims (s : State) (bs : List Block) : (s.retargetClaims bs).commandWords = s.commandWords := by
  unfold State.retargetClaims
  simp [apply_ite State.commandWords, State.commandWords_setMember, foldl_commandWords]

@[simp] theorem State.commandWords_dropClaims (s : State) (b : Block) : (s.dropClaims b).commandWords = s.commandWords := by
  rfl

@[simp] theorem State.commandWords_endYield (s : State) (b : Block) : (s.endYield b).commandWords = s.commandWords := by
  unfold State.endYield
  simp [apply_ite State.commandWords, State.commandWords_setMember, foldl_commandWords]

@[simp] theorem State.commandWords_dropClaimant (s : State) (p : Station) : (s.dropClaimant p).commandWords = s.commandWords := by
  unfold State.dropClaimant
  simp [apply_ite State.commandWords, State.commandWords_setMember, foldl_commandWords]

@[simp] theorem State.commandWords_dropOrphanClaims (s : State) : (s.dropOrphanClaims).commandWords = s.commandWords := by
  rfl

@[simp] theorem State.commandWords_startAttempt (s : State) (b : Block) (attempt : Nat) (source : Station) : (s.startAttempt b attempt source).commandWords = s.commandWords := by
  unfold State.startAttempt
  simp [apply_ite State.commandWords, State.commandWords_setMember, foldl_commandWords]

@[simp] theorem State.commandWords_nextAttempt (s : State) (b : Block) (attempt : Nat) : (s.nextAttempt b attempt).commandWords = s.commandWords := by
  unfold State.nextAttempt
  simp

@[simp] theorem State.commandWords_openFetch (s : State) (b : Block) : (s.openFetch b).commandWords = s.commandWords := by
  unfold State.openFetch
  simp

@[simp] theorem State.commandWords_closeFetch (s : State) (b : Block) : (s.closeFetch b).commandWords = s.commandWords := by
  rfl

@[simp] theorem State.commandWords_endHold (s : State) (b : Block) : (s.endHold b).commandWords = s.commandWords := by
  rfl

@[simp] theorem State.commandWords_makeStale (s : State) (b : Block) : (s.makeStale b).commandWords = s.commandWords := by
  unfold State.makeStale
  simp [apply_ite State.commandWords, State.commandWords_setMember, foldl_commandWords]

@[simp] theorem State.commandWords_raiseSeen (s : State) (b : Block) (v : Version) : (s.raiseSeen b v).commandWords = s.commandWords := by
  unfold State.raiseSeen
  (repeat' split) <;> simp [State.commandWords_setMember, foldl_commandWords]

@[simp] theorem State.commandWords_failFetch (s : State) (b : Block) (source : Station) : (s.failFetch b source).commandWords = s.commandWords := by
  unfold State.failFetch
  simp

@[simp] theorem State.commandWords_endAttempt (s : State) (c : FetchSlot) : (s.endAttempt c).commandWords = s.commandWords := by
  unfold State.endAttempt
  simp [apply_ite State.commandWords, State.commandWords_setMember, foldl_commandWords]

@[simp] theorem State.commandWords_retargetFetch (g : Option Station) (s : State) (c : FetchSlot) : (s.retargetFetch g c).commandWords = s.commandWords := by
  unfold State.retargetFetch
  simp [apply_ite State.commandWords, State.commandWords_setMember, foldl_commandWords]

@[simp] theorem State.commandWords_retargetFetches (s : State) (g : Option Station) : (s.retargetFetches g).commandWords = s.commandWords := by
  unfold State.retargetFetches
  simp [apply_ite State.commandWords, State.commandWords_setMember, foldl_commandWords]

@[simp] theorem State.commandWords_sendSnapq (s : State) : (s.sendSnapq).commandWords = s.commandWords := by
  rfl

@[simp] theorem State.commandWords_endSnapq (s : State) : (s.endSnapq).commandWords = s.commandWords := by
  rfl

@[simp] theorem State.commandWords_queueAnswer (s : State) (a : Answer) : (s.queueAnswer a).commandWords = s.commandWords := by
  unfold State.queueAnswer
  simp [apply_ite State.commandWords, State.commandWords_setMember, foldl_commandWords]

@[simp] theorem State.commandWords_clearJob (s : State) : (s.clearJob).commandWords = s.commandWords := by
  rfl

@[simp] theorem State.commandWords_offerFlaggers (s : State) (rs : List SettleRecord) : (s.offerFlaggers rs).commandWords = s.commandWords := by
  unfold State.offerFlaggers
  apply foldl_commandWords
  intro s r
  split <;> rfl

@[simp] theorem State.commandWords_decideJob (s : State) : (s.decideJob).commandWords = s.commandWords := by
  unfold State.decideJob
  simp [apply_ite State.commandWords, State.commandWords_setMember, foldl_commandWords]

@[simp] theorem State.commandWords_sendQuery (s : State) : (s.sendQuery).commandWords = s.commandWords := by
  rfl

@[simp] theorem State.commandWords_startJob (s : State) : (s.startJob).commandWords = s.commandWords := by
  unfold State.startJob
  simp [apply_ite State.commandWords, State.commandWords_setMember, foldl_commandWords]

@[simp] theorem State.commandWords_restartJob (s : State) : (s.restartJob).commandWords = s.commandWords := by
  unfold State.restartJob
  simp [apply_ite State.commandWords, State.commandWords_setMember, foldl_commandWords]

@[simp] theorem State.commandWords_checkJob (s : State) : (s.checkJob).commandWords = s.commandWords := by
  unfold State.checkJob
  simp [apply_ite State.commandWords, State.commandWords_setMember, foldl_commandWords]

@[simp] theorem State.commandWords_foldVersions (s : State) (p : Station) (last : Bool) (es : List VersionsEntry) : (s.foldVersions p last es).commandWords = s.commandWords := by
  rfl

@[simp] theorem State.commandWords_replyToQuery (s : State) (q : Station) (r : Round) (bitmap : List Byte) : (s.replyToQuery q r bitmap).commandWords = s.commandWords := by
  unfold State.replyToQuery
  simp [apply_ite State.commandWords, State.commandWords_setMember, foldl_commandWords]

@[simp] theorem State.commandWords_closeBatch (s : State) : (s.closeBatch).commandWords = s.commandWords := by
  unfold State.closeBatch
  (repeat' split) <;> simp [State.commandWords_setMember, foldl_commandWords]

@[simp] theorem State.commandWords_makeBatchDue (s : State) : (s.makeBatchDue).commandWords = s.commandWords := by
  rfl

@[simp] theorem State.commandWords_closeOrDue (s : State) : (s.closeOrDue).commandWords = s.commandWords := by
  unfold State.closeOrDue
  simp [apply_ite State.commandWords, State.commandWords_setMember, foldl_commandWords]

@[simp] theorem State.commandWords_storeWord (s : State) (a : WindowAddr) (x : Word) : (s.storeWord a x).commandWords = s.commandWords := by
  rfl

@[simp] theorem State.commandWords_offerRefused (s : State) (a : WindowAddr) : (s.offerRefused a).commandWords = s.commandWords := by
  rfl

@[simp] theorem State.commandWords_joinBatch (s : State) (a : WindowAddr) (x : Word) : (s.joinBatch a x).commandWords = s.commandWords := by
  rfl

@[simp] theorem State.commandWords_holdWrite (s : State) (a : WindowAddr) (x : Word) : (s.holdWrite a x).commandWords = s.commandWords := by
  unfold State.holdWrite
  dsimp only
  (repeat' split) <;> simp [apply_ite State.commandWords, State.commandWords_setMember, foldl_commandWords]

@[simp] theorem State.commandWords_closeIfFull (s : State) : (s.closeIfFull).commandWords = s.commandWords := by
  unfold State.closeIfFull
  simp [apply_ite State.commandWords, State.commandWords_setMember, foldl_commandWords]

@[simp] theorem State.commandWords_applyFate (s : State) (a : WindowAddr) (x : Word) (y : WriteFate) : (s.applyFate a x y).commandWords = s.commandWords := by
  unfold State.applyFate
  (repeat' split) <;> simp [State.commandWords_setMember, foldl_commandWords]

@[simp] theorem State.commandWords_judgeWaiting (s : State) : (s.judgeWaiting).commandWords = s.commandWords := by
  unfold State.judgeWaiting
  (repeat' split) <;> simp [State.commandWords_setMember, foldl_commandWords]

@[simp] theorem State.commandWords_commitHeld (s : State) (b : Block) : (s.commitHeld b).commandWords = s.commandWords := by
  unfold State.commitHeld
  simp

@[simp] theorem State.commandWords_discardHeld (s : State) (b : Block) : (s.discardHeld b).commandWords = s.commandWords := by
  unfold State.discardHeld
  simp [apply_ite State.commandWords, State.commandWords_setMember, foldl_commandWords]

@[simp] theorem State.commandWords_offerDiscarded (s : State) (bs : List Block) : (s.offerDiscarded bs).commandWords = s.commandWords := by
  unfold State.offerDiscarded
  simp [apply_ite State.commandWords, State.commandWords_setMember, foldl_commandWords]

@[simp] theorem State.commandWords_discardBatch (s : State) (b : Block) : (s.discardBatch b).commandWords = s.commandWords := by
  unfold State.discardBatch
  (repeat' split) <;> simp [State.commandWords_setMember, foldl_commandWords]

@[simp] theorem State.commandWords_silence (s : State) : (s.silence).commandWords = s.commandWords := by
  rfl

@[simp] theorem State.commandWords_refuseWaiting (s : State) : (s.refuseWaiting).commandWords = s.commandWords := by
  unfold State.refuseWaiting
  (repeat' split) <;> simp [State.commandWords_setMember, foldl_commandWords]

@[simp] theorem State.commandWords_teardown (s : State) (new : StationState) : (s.teardown new).commandWords = s.commandWords := by
  unfold State.teardown
  simp

@[simp] theorem State.commandWords_enterListening (s : State) : (s.enterListening).commandWords = s.commandWords := by
  rfl

@[simp] theorem State.commandWords_sendJoin (s : State) : (s.sendJoin).commandWords = s.commandWords := by
  rfl

@[simp] theorem State.commandWords_enterJoining (s : State) : (s.enterJoining).commandWords = s.commandWords := by
  rfl

@[simp] theorem State.commandWords_found (s : State) : (s.found).commandWords = s.commandWords := by
  unfold State.found
  simp [State.commandWords_setMember]

@[simp] theorem State.commandWords_depart (s : State) (detail : Word) : (s.depart detail).commandWords = s.commandWords := by
  unfold State.depart
  simp

@[simp] theorem State.commandWords_isolate (s : State) : (s.isolate).commandWords = s.commandWords := by
  unfold State.isolate
  simp [apply_ite State.commandWords, State.commandWords_setMember, foldl_commandWords]

@[simp] theorem State.commandWords_clash (s : State) (l : LaneId) (kind : Byte) : (s.clash l kind).commandWords = s.commandWords := by
  unfold State.clash
  simp

@[simp] theorem State.commandWords_takeRegistrar (s : State) : (s.takeRegistrar).commandWords = s.commandWords := by
  unfold State.takeRegistrar
  simp [apply_ite State.commandWords, State.commandWords_setMember, foldl_commandWords]

@[simp] theorem State.commandWords_peersChanged (s : State) (g : Option Station) : (s.peersChanged g).commandWords = s.commandWords := by
  unfold State.peersChanged
  simp [apply_ite State.commandWords, State.commandWords_setMember, foldl_commandWords]

@[simp] theorem State.commandWords_dropAnswers (s : State) (p : Station) : (s.dropAnswers p).commandWords = s.commandWords := by
  rfl

@[simp] theorem State.commandWords_retargetFrom (s : State) (p : Station) : (s.retargetFrom p).commandWords = s.commandWords := by
  unfold State.retargetFrom
  simp

@[simp] theorem State.commandWords_excludeEntry (cause : Cause) (s : State) (p : Station) : (s.excludeEntry cause p).commandWords = s.commandWords := by
  unfold State.excludeEntry
  simp [apply_ite State.commandWords]

@[simp] theorem State.commandWords_excludeAll (s : State) (ps : List Station) (cause : Cause) (restart : Bool) : (s.excludeAll ps cause restart).commandWords = s.commandWords := by
  unfold State.excludeAll
  simp [apply_ite State.commandWords, foldl_commandWords]

@[simp] theorem State.commandWords_exclude (s : State) (p : Station) (cause : Cause) (restart : Bool) : (s.exclude p cause restart).commandWords = s.commandWords := by
  unfold State.exclude
  simp

@[simp] theorem State.commandWords_askExclude (s : State) (p : Station) (cause : Cause) : (s.askExclude p cause).commandWords = s.commandWords := by
  unfold State.askExclude
  simp [apply_ite State.commandWords]

@[simp] theorem State.commandWords_decideExcludes (s : State) (ps : List Station) (cause : Cause) (restart : Bool) : (s.decideExcludes ps cause restart).commandWords = s.commandWords := by
  unfold State.decideExcludes
  simp [apply_ite State.commandWords, foldl_commandWords]

@[simp] theorem State.commandWords_decideExclude (s : State) (p : Station) (cause : Cause) (restart : Bool) : (s.decideExclude p cause restart).commandWords = s.commandWords := by
  unfold State.decideExclude
  simp

@[simp] theorem State.commandWords_enterLive (s : State) : (s.enterLive).commandWords = s.commandWords := by
  unfold State.enterLive
  simp [apply_ite State.commandWords, State.commandWords_setMember, foldl_commandWords]

@[simp] theorem State.commandWords_testLive (s : State) : (s.testLive).commandWords = s.commandWords := by
  unfold State.testLive
  simp [apply_ite State.commandWords, State.commandWords_setMember, foldl_commandWords]

@[simp] theorem State.commandWords_closeClaims (s : State) : (s.closeClaims).commandWords = s.commandWords := by
  unfold State.closeClaims
  simp [apply_ite State.commandWords, State.commandWords_setMember, foldl_commandWords]

@[simp] theorem State.commandWords_emptyClaimList (s : State) : (s.emptyClaimList).commandWords = s.commandWords := by
  unfold State.emptyClaimList
  simp [apply_ite State.commandWords, State.commandWords_setMember, foldl_commandWords]

@[simp] theorem State.commandWords_enterLeaving (s : State) : (s.enterLeaving).commandWords = s.commandWords := by
  unfold State.enterLeaving
  simp [State.commandWords_setMember]

@[simp] theorem State.commandWords_mismatch (s : State) (b : Block) (sender : Station) (detail : Word) : (s.mismatch b sender detail).commandWords = s.commandWords := by
  rfl

@[simp] theorem State.commandWords_loseBlock (s : State) (b : Block) (sender : Station) (e : Epoch) : (s.loseBlock b sender e).commandWords = s.commandWords := by
  unfold State.loseBlock
  simp

@[simp] theorem State.commandWords_takeOwner (s : State) (b : Block) (sender owner : Station) (e : Epoch) (donor : Option Station) : (s.takeOwner b sender owner e donor).commandWords = s.commandWords := by
  unfold State.takeOwner
  simp [apply_ite State.commandWords, State.commandWords_setMember, foldl_commandWords]

@[simp] theorem State.commandWords_applyBatch (s : State) (b : Block) (v : Version) (es : List WordWrite) : (s.applyBatch b v es).commandWords = s.commandWords := by
  unfold State.applyBatch
  simp

@[simp] theorem State.commandWords_updateContent (s : State) (b : Block) (v : Version) (es : List WordWrite) (passed : Bool) : (s.updateContent b v es passed).commandWords = s.commandWords := by
  unfold State.updateContent
  (repeat' split) <;> simp [State.commandWords_setMember, foldl_commandWords]

@[simp] theorem State.commandWords_updateArrive (s : State) (sender : Station) (b : Block) (e : Epoch) (v : Version) (es : List WordWrite) : (s.updateArrive sender b e v es).commandWords = s.commandWords := by
  unfold State.updateArrive
  simp [apply_ite State.commandWords, State.commandWords_setMember, foldl_commandWords]

@[simp] theorem State.commandWords_copyNotGained (s : State) (b : Block) (sender : Station) (v : Version) : (s.copyNotGained b sender v).commandWords = s.commandWords := by
  unfold State.copyNotGained
  (repeat' split) <;> simp [State.commandWords_setMember, foldl_commandWords]

@[simp] theorem State.commandWords_copyGained (s : State) (b : Block) (sender : Station) (v : Version) : (s.copyGained b sender v).commandWords = s.commandWords := by
  unfold State.copyGained
  (repeat' split) <;> simp [State.commandWords_setMember, foldl_commandWords]

@[simp] theorem State.commandWords_dropDonorIfCurrent (s : State) (b : Block) : (s.dropDonorIfCurrent b).commandWords = s.commandWords := by
  unfold State.dropDonorIfCurrent
  simp [apply_ite State.commandWords, State.commandWords_setMember, foldl_commandWords]

@[simp] theorem State.commandWords_ownershipEntry (s : State) (sender : Station) (b : Block) (owner : Station) (e : Epoch) (v : Version) (donor : Option Station) : (s.ownershipEntry sender b owner e v donor).commandWords = s.commandWords := by
  unfold State.ownershipEntry
  simp [apply_ite State.commandWords, State.commandWords_setMember, foldl_commandWords]

@[simp] theorem State.commandWords_handoverEntry (s : State) (sender owner : Station) (h : HandoverEntry) : (s.handoverEntry sender owner h).commandWords = s.commandWords := by
  unfold State.handoverEntry
  simp

@[simp] theorem State.commandWords_settleEntry (s : State) (sender : Station) (t : SettleEntry) : (s.settleEntry sender t).commandWords = s.commandWords := by
  unfold State.settleEntry
  simp

@[simp] theorem State.commandWords_snapEntry (s : State) (b : Block) (t : SnapEntry) : (s.snapEntry b t).commandWords = s.commandWords := by
  unfold State.snapEntry
  simp [apply_ite State.commandWords, State.commandWords_setMember, foldl_commandWords]

@[simp] theorem State.commandWords_snapEntries (s : State) (p : Part) (es : List SnapEntry) : (s.snapEntries p es).commandWords = s.commandWords := by
  unfold State.snapEntries
  simp [apply_ite State.commandWords, State.commandWords_setMember, foldl_commandWords]

@[simp] theorem State.commandWords_copyArrive (s : State) (b : Block) (v : Version) (ws : List Word) : (s.copyArrive b v ws).commandWords = s.commandWords := by
  unfold State.copyArrive
  simp [apply_ite State.commandWords, State.commandWords_setMember, foldl_commandWords]

@[simp] theorem State.commandWords_digestMismatch (s : State) (b : Block) (sender : Station) (v : Version) : (s.digestMismatch b sender v).commandWords = s.commandWords := rfl

@[simp] theorem State.commandWords_digestEntry (s : State) (sender : Station) (d : DigestEntry) : (s.digestEntry sender d).commandWords = s.commandWords := by
  unfold State.digestEntry
  dsimp only
  (repeat' split) <;> simp [apply_ite State.commandWords, State.commandWords_setMember, foldl_commandWords]

@[simp] theorem State.commandWords_takeStatus (s : State) (shown : MemberState) : (s.takeStatus shown).2.commandWords = s.commandWords := by
  rfl

@[simp] theorem State.commandWords_takeReplay (s : State) (e : ReplayEntry) : (s.takeReplay e).2.commandWords = s.commandWords := by
  rfl

@[simp] theorem State.commandWords_buildAnswer (s : State) (y : Answer) : (s.buildAnswer y).2.commandWords = s.commandWords := by
  unfold State.buildAnswer
  (repeat' split) <;> simp [State.commandWords_setMember, foldl_commandWords]

@[simp] theorem State.commandWords_takeAnswer (s : State) (a : Answer) : (s.takeAnswer a).2.commandWords = s.commandWords := by
  unfold State.takeAnswer
  simp

@[simp] theorem State.commandWords_takeRequest (s : State) (r : Request) : (s.takeRequest r).2.commandWords = s.commandWords := by
  rfl

@[simp] theorem State.commandWords_takeDigest (s : State) (bs : List Block) : (s.takeDigest bs).2.commandWords = s.commandWords := by
  rfl

@[simp] theorem State.commandWords_give (s : State) (f : Frame) : (s.give f).commandWords = s.commandWords := by
  unfold State.give
  dsimp only
  (repeat' split) <;> simp [apply_ite State.commandWords, State.commandWords_setMember, foldl_commandWords]

@[simp] theorem State.commandWords_release (s : State) : (s.release).commandWords = s.commandWords := by
  unfold State.release
  simp [apply_ite State.commandWords, State.commandWords_setMember, foldl_commandWords]

/-- What a take leaves keeps the commandWords. -/
theorem State.commandWords_of_take {s t : State} {f : Frame} {o : Option (Frame × State)} (h : o = some (f, t))
    (k : ∀ p ∈ o, p.2.commandWords = s.commandWords) : t.commandWords = s.commandWords := k (f, t) (by simp [h])

theorem State.commandWords_takeQueued (s : State) (p : Frame × State) (h : p ∈ s.takeQueued) : p.2.commandWords = s.commandWords := by
  unfold State.takeQueued at h
  repeat' split at h
  · simp only [Option.mem_def, Option.some.injEq] at h
    subst h
    simp
  · simp only [Option.mem_def, Option.map_eq_some_iff] at h
    obtain ⟨a, -, rfl⟩ := h
    simp
  · simp at h
  · simp at h

theorem State.commandWords_takeOther (s : State) (p : Frame × State) (h : p ∈ s.takeOther) : p.2.commandWords = s.commandWords := by
  unfold State.takeOther at h
  repeat' split at h
  all_goals first
    | (simp at h; done)
    | (simp only [Option.mem_def, Option.some.injEq] at h
       subst h
       simp)

theorem State.commandWords_nextTake (s : State) (p : Frame × State) (h : p ∈ s.nextTake) : p.2.commandWords = s.commandWords := by
  unfold State.nextTake at h
  split at h
  · simp only [Option.mem_def, Option.some.injEq] at h
    subst h
    simp
  · cases hq : s.takeQueued with
    | none => rw [hq] at h; exact s.commandWords_takeOther p h
    | some q => rw [hq] at h; exact s.commandWords_takeQueued p (by rw [hq]; exact h)

@[simp] theorem State.commandWords_pump (s : State) : s.pump.commandWords = s.commandWords := by
  unfold State.pump
  dsimp only
  split
  · split
    · simp
    · next f t h => simpa using State.commandWords_nextTake _ _ h
  · simp

@[simp] theorem State.commandWords_markDone (s : State) (y : LaneId) : (s.markDone y).commandWords = s.commandWords := by
  unfold State.markDone
  (repeat' split) <;> simp [State.commandWords_setMember, foldl_commandWords]

@[simp] theorem State.commandWords_lostLanes (s : State) : (s.lostLanes).commandWords = s.commandWords := by
  unfold State.lostLanes
  simp [apply_ite State.commandWords, State.commandWords_setMember, foldl_commandWords]

@[simp] theorem State.commandWords_gainedLane (s : State) : (s.gainedLane).commandWords = s.commandWords := by
  unfold State.gainedLane
  (repeat' split) <;> simp [State.commandWords_setMember, foldl_commandWords]

@[simp] theorem State.commandWords_laneDown (s : State) (l : LaneId) (detail : Word) : (s.laneDown l detail).commandWords = s.commandWords := by
  unfold State.laneDown
  simp [apply_ite State.commandWords, State.commandWords_setMember, foldl_commandWords]

@[simp] theorem State.commandWords_laneReturn (s : State) (l : LaneId) : (s.laneReturn l).commandWords = s.commandWords := by
  unfold State.laneReturn
  simp [apply_ite State.commandWords, State.commandWords_setMember, foldl_commandWords]

@[simp] theorem State.commandWords_weigh (s : State) (l : LaneId) (up down : Nat) : (s.weigh l up down).commandWords = s.commandWords := by
  unfold State.weigh
  simp [apply_ite State.commandWords, State.commandWords_setMember, foldl_commandWords]

@[simp] theorem State.commandWords_bring (s : State) (l : LaneId) (cells : List LineCell) : (s.bring l cells).commandWords = s.commandWords := by
  unfold State.bring
  simp

@[simp] theorem State.commandWords_frameEnds (s : State) (l : LaneId) : (s.frameEnds l).commandWords = s.commandWords := by
  unfold State.frameEnds
  simp

@[simp] theorem State.commandWords_badFrame (s : State) (l : LaneId) (f : FrameBuffer) : (s.badFrame l f).commandWords = s.commandWords := by
  unfold State.badFrame
  simp

@[simp] theorem State.commandWords_probationFrame (s : State) (l : LaneId) (f : FrameBuffer) : (s.probationFrame l f).commandWords = s.commandWords := by
  unfold State.probationFrame
  simp [apply_ite State.commandWords, State.commandWords_setMember, foldl_commandWords]

@[simp] theorem State.commandWords_laneDone (s : State) (l : LaneId) : (s.laneDone l).commandWords = s.commandWords := by
  unfold State.laneDone
  simp

@[simp] theorem State.commandWords_passOn (s : State) (c : Station) (bs : List Block) : (s.passOn c bs).commandWords = s.commandWords := by
  unfold State.passOn
  simp [apply_ite State.commandWords, State.commandWords_setMember, foldl_commandWords]

@[simp] theorem State.commandWords_handOver (s : State) (c : Station) (bs : List Block) : (s.handOver c bs).commandWords = s.commandWords := by
  unfold State.handOver
  simp [apply_ite State.commandWords, State.commandWords_setMember, foldl_commandWords]

@[simp] theorem State.commandWords_serve (s : State) : (s.serve).commandWords = s.commandWords := by
  unfold State.serve
  (repeat' split) <;> simp [State.commandWords_setMember, foldl_commandWords]

@[simp] theorem State.commandWords_retireHead (s : State) : (s.retireHead).commandWords = s.commandWords := by
  unfold State.retireHead
  simp [apply_ite State.commandWords, State.commandWords_setMember, foldl_commandWords]

@[simp] theorem State.commandWords_releaseBlock (s : State) (b : Block) : (s.releaseBlock b).commandWords = s.commandWords := by
  unfold State.releaseBlock
  simp [apply_ite State.commandWords, State.commandWords_setMember, foldl_commandWords]

@[simp] theorem State.commandWords_announceNext (s : State) : (s.announceNext).commandWords = s.commandWords := by
  unfold State.announceNext
  simp [apply_ite State.commandWords, State.commandWords_setMember, foldl_commandWords]

@[simp] theorem State.commandWords_enqueueWaiting (s : State) (p : Station) : (s.enqueueWaiting p).commandWords = s.commandWords := by
  unfold State.enqueueWaiting
  (repeat' split) <;> simp [State.commandWords_setMember, foldl_commandWords]

@[simp] theorem State.commandWords_perform (s : State) (y : Act) : (s.perform y).commandWords = s.commandWords := by
  unfold State.perform
  (repeat' split) <;> simp [State.commandWords_setMember, foldl_commandWords]

@[simp] theorem State.commandWords_foreignStatus (s : State) (shown : MemberState) (mask : StationMask) : (s.foreignStatus shown mask).commandWords = s.commandWords := by
  unfold State.foreignStatus
  simp [apply_ite State.commandWords, State.commandWords_setMember, foldl_commandWords]

@[simp] theorem State.commandWords_useStatus (s : State) (p : Station) (shown : MemberState) (mask known : StationMask) (receipts : List Byte) (welcome : List (Station × SeqNo)) : (s.useStatus p shown mask known receipts welcome).commandWords = s.commandWords := by
  unfold State.useStatus
  simp [apply_ite State.commandWords, State.commandWords_setMember, foldl_commandWords]

@[simp] theorem State.commandWords_memberStatus (s : State) (p : Station) (shown : MemberState) (mask known : StationMask) (receipts : List Byte) (welcome : List (Station × SeqNo)) : (s.memberStatus p shown mask known receipts welcome).commandWords = s.commandWords := by
  unfold State.memberStatus
  (repeat' split) <;> simp [State.commandWords_setMember, foldl_commandWords]

@[simp] theorem State.commandWords_admitJoiner (s : State) (j : Station) : (s.admitJoiner j).commandWords = s.commandWords := by
  unfold State.admitJoiner
  simp

@[simp] theorem State.commandWords_joinArrive (s : State) (j : Station) : (s.joinArrive j).commandWords = s.commandWords := by
  unfold State.joinArrive
  simp [apply_ite State.commandWords, State.commandWords_setMember, foldl_commandWords]

@[simp] theorem State.commandWords_admitArrive (s : State) (j : Station) : (s.admitArrive j).commandWords = s.commandWords := by
  unfold State.admitArrive
  simp [apply_ite State.commandWords, State.commandWords_setMember, foldl_commandWords]

@[simp] theorem State.commandWords_admitted (s : State) (sender : Station) (q : SeqNo) (mask : StationMask) : (s.admitted sender q mask).commandWords = s.commandWords := by
  unfold State.admitted
  simp [apply_ite State.commandWords, State.commandWords_setMember, foldl_commandWords]

@[simp] theorem State.commandWords_excludeArrive (s : State) (sender p : Station) (cause : Cause) : (s.excludeArrive sender p cause).commandWords = s.commandWords := by
  unfold State.excludeArrive
  simp [apply_ite State.commandWords, State.commandWords_setMember, foldl_commandWords]

@[simp] theorem State.commandWords_claimArrive (s : State) (sender : Station) (b : Block) : (s.claimArrive sender b).commandWords = s.commandWords := by
  unfold State.claimArrive
  simp [apply_ite State.commandWords, State.commandWords_setMember, foldl_commandWords]

@[simp] theorem State.commandWords_fetchArrive (s : State) (sender : Station) (b : Block) : (s.fetchArrive sender b).commandWords = s.commandWords := by
  unfold State.fetchArrive
  simp [apply_ite State.commandWords, State.commandWords_setMember, foldl_commandWords]

@[simp] theorem State.commandWords_snapqArrive (s : State) (sender : Station) (parts : Word) : (s.snapqArrive sender parts).commandWords = s.commandWords := by
  unfold State.snapqArrive
  simp [apply_ite State.commandWords, State.commandWords_setMember, foldl_commandWords]

@[simp] theorem State.commandWords_copyOkArrive (s : State) (b : Block) (v : Version) (ws : List Word) : (s.copyOkArrive b v ws).commandWords = s.commandWords := by
  unfold State.copyOkArrive
  simp [apply_ite State.commandWords, State.commandWords_setMember, foldl_commandWords]

@[simp] theorem State.commandWords_copyNotCurrentArrive (s : State) (sender : Station) (b : Block) : (s.copyNotCurrentArrive sender b).commandWords = s.commandWords := by
  unfold State.copyNotCurrentArrive
  (repeat' split) <;> simp [State.commandWords_setMember, foldl_commandWords]

@[simp] theorem State.commandWords_snapArrive (s : State) (sender : Station) (p : Part) (es : List SnapEntry) : (s.snapArrive sender p es).commandWords = s.commandWords := by
  unfold State.snapArrive
  dsimp only
  (repeat' split) <;> simp [apply_ite State.commandWords, State.commandWords_setMember, foldl_commandWords]

@[simp] theorem State.commandWords_defer (s : State) : (s.defer).commandWords = s.commandWords := by
  rfl

@[simp] theorem State.commandWords_queryArrive (s : State) (sender : Station) (r : Round) (bitmap : List Byte) : (s.queryArrive sender r bitmap).commandWords = s.commandWords := by
  unfold State.queryArrive
  simp [apply_ite State.commandWords, State.commandWords_setMember, foldl_commandWords]

@[simp] theorem State.commandWords_versionsArrive (s : State) (sender : Station) (r : Round) (last : Bool) (es : List VersionsEntry) : (s.versionsArrive sender r last es).commandWords = s.commandWords := by
  unfold State.versionsArrive
  simp [apply_ite State.commandWords, State.commandWords_setMember, foldl_commandWords]

@[simp] theorem State.commandWords_digestArrive (s : State) (sender : Station) (es : List DigestEntry) : (s.digestArrive sender es).commandWords = s.commandWords := by
  unfold State.digestArrive
  simp [apply_ite State.commandWords, State.commandWords_setMember, foldl_commandWords]

@[simp] theorem State.commandWords_accept (s : State) (f : Frame) : (s.accept f).commandWords = s.commandWords := by
  unfold State.accept
  (repeat' split) <;> simp [State.commandWords_setMember, foldl_commandWords]

@[simp] theorem State.commandWords_sequenced (s : State) (f : Frame) : (s.sequenced f).commandWords = s.commandWords := by
  unfold State.sequenced
  simp [apply_ite State.commandWords, State.commandWords_setMember, foldl_commandWords]

@[simp] theorem State.commandWords_unsequenced (s : State) (f : Frame) : (s.unsequenced f).commandWords = s.commandWords := by
  unfold State.unsequenced
  (repeat' split) <;> simp [State.commandWords_setMember, foldl_commandWords]

@[simp] theorem State.commandWords_deliverActive (s : State) (f : Frame) : (s.deliverActive f).commandWords = s.commandWords := by
  unfold State.deliverActive
  (repeat' split) <;> simp [State.commandWords_setMember, foldl_commandWords]

@[simp] theorem State.commandWords_deliverJoining (s : State) (f : Frame) : (s.deliverJoining f).commandWords = s.commandWords := by
  unfold State.deliverJoining
  (repeat' split) <;> simp [State.commandWords_setMember, foldl_commandWords]

@[simp] theorem State.commandWords_heard (s : State) (k : Kind) : (s.heard k).commandWords = s.commandWords := by
  unfold State.heard
  (repeat' split) <;> simp [State.commandWords_setMember, foldl_commandWords]

@[simp] theorem State.commandWords_deliver (s : State) (f : Frame) : (s.deliver f).commandWords = s.commandWords := by
  unfold State.deliver
  simp [apply_ite State.commandWords, State.commandWords_setMember, foldl_commandWords]

@[simp] theorem State.commandWords_malformed (s : State) (l : LaneId) (r : RawFrame) : (s.malformed l r).commandWords = s.commandWords := by
  rfl

@[simp] theorem State.commandWords_hear (s : State) (p : Station) : (s.hear p).commandWords = s.commandWords := by
  unfold State.hear
  simp [apply_ite State.commandWords, State.commandWords_setMember, foldl_commandWords]

@[simp] theorem State.commandWords_judgeKind (s : State) (l : LaneId) (r : RawFrame) (k : Kind) : (s.judgeKind l r k).commandWords = s.commandWords := by
  unfold State.judgeKind
  (repeat' split) <;> simp [State.commandWords_setMember, foldl_commandWords]

@[simp] theorem State.commandWords_judgeFrame (s : State) (l : LaneId) (r : RawFrame) : (s.judgeFrame l r).commandWords = s.commandWords := by
  unfold State.judgeFrame
  (repeat' split) <;> simp [State.commandWords_setMember, foldl_commandWords]

@[simp] theorem State.commandWords_goodFrame (s : State) (l : LaneId) (f : FrameBuffer) : (s.goodFrame l f).commandWords = s.commandWords := by
  unfold State.goodFrame
  simp [apply_ite State.commandWords, State.commandWords_setMember, foldl_commandWords]

@[simp] theorem State.commandWords_judgeBuffer (s : State) (l : LaneId) (f : FrameBuffer) : (s.judgeBuffer l f).commandWords = s.commandWords := by
  unfold State.judgeBuffer
  (repeat' split) <;> simp [State.commandWords_setMember, foldl_commandWords]

@[simp] theorem State.commandWords_frameIn (s : State) (rx : RxFrame) : (s.frameIn rx).commandWords = s.commandWords := by
  unfold State.frameIn
  simp [apply_ite State.commandWords, State.commandWords_setMember, foldl_commandWords]

@[simp] theorem State.commandWords_writeLatched (s : State) (a : WindowAddr) (x : Word) : (s.writeLatched a x).commandWords = s.commandWords := by
  unfold State.writeLatched
  simp

@[simp] theorem State.commandWords_dropWaiting (s : State) : (s.dropWaiting).commandWords = s.commandWords := by
  unfold State.dropWaiting
  (repeat' split) <;> simp [State.commandWords_setMember, foldl_commandWords]

@[simp] theorem State.commandWords_holdReached (s : State) : (s.holdReached).commandWords = s.commandWords := by
  unfold State.holdReached
  simp [apply_ite State.commandWords, State.commandWords_setMember, foldl_commandWords]

@[simp] theorem State.commandWords_closeDueBatch (s : State) : (s.closeDueBatch).commandWords = s.commandWords := by
  unfold State.closeDueBatch
  simp [apply_ite State.commandWords, State.commandWords_setMember, foldl_commandWords]

@[simp] theorem State.commandWords_commitIfReady (s : State) (b : Block) : (s.commitIfReady b).commandWords = s.commandWords := by
  unfold State.commitIfReady
  simp [apply_ite State.commandWords, State.commandWords_setMember, foldl_commandWords]

@[simp] theorem State.commandWords_leavePending (s : State) : (s.leavePending).commandWords = s.commandWords := by
  unfold State.leavePending
  simp [apply_ite State.commandWords, State.commandWords_setMember, foldl_commandWords]

@[simp] theorem State.commandWords_abortMark (s : State) (l : LaneId) : (s.abortMark l).commandWords = s.commandWords := by
  unfold State.abortMark
  simp [apply_ite State.commandWords, State.commandWords_setMember, foldl_commandWords]

@[simp] theorem State.commandWords_stuckLine (s : State) (l : LaneId) : (s.stuckLine l).commandWords = s.commandWords := by
  unfold State.stuckLine
  simp [apply_ite State.commandWords, State.commandWords_setMember, foldl_commandWords]

@[simp] theorem State.commandWords_restEnd (s : State) (l : LaneId) : (s.restEnd l).commandWords = s.commandWords := by
  unfold State.restEnd
  simp [apply_ite State.commandWords, State.commandWords_setMember, foldl_commandWords]

@[simp] theorem State.commandWords_attemptStart (s : State) (l : LaneId) : (s.attemptStart l).commandWords = s.commandWords := by
  unfold State.attemptStart
  simp [apply_ite State.commandWords, State.commandWords_setMember, foldl_commandWords]

@[simp] theorem State.commandWords_collision (s : State) (l : LaneId) (readback : Option RxChar) : (s.collision l readback).commandWords = s.commandWords := by
  unfold State.collision
  simp [apply_ite State.commandWords, State.commandWords_setMember, foldl_commandWords]

@[simp] theorem State.commandWords_abortMarkEnd (s : State) (l : LaneId) : (s.abortMarkEnd l).commandWords = s.commandWords := by
  unfold State.abortMarkEnd
  simp [apply_ite State.commandWords, State.commandWords_setMember, foldl_commandWords]

@[simp] theorem State.commandWords_frameSent (s : State) (l : LaneId) : (s.frameSent l).commandWords = s.commandWords := by
  unfold State.frameSent
  simp [apply_ite State.commandWords, State.commandWords_setMember, foldl_commandWords]

@[simp] theorem State.commandWords_claimExpires (s : State) (b : Block) : (s.claimExpires b).commandWords = s.commandWords := by
  unfold State.claimExpires
  (repeat' split) <;> simp [State.commandWords_setMember, foldl_commandWords]

@[simp] theorem State.commandWords_serveIfFree (s : State) : (s.serveIfFree).commandWords = s.commandWords := by
  unfold State.serveIfFree
  simp [apply_ite State.commandWords, State.commandWords_setMember, foldl_commandWords]

@[simp] theorem State.commandWords_replayExpires (s : State) : (s.replayExpires).commandWords = s.commandWords := by
  unfold State.replayExpires
  (repeat' split) <;> simp [State.commandWords_setMember, foldl_commandWords]

@[simp] theorem State.commandWords_receiptAges (s : State) : (s.receiptAges).commandWords = s.commandWords := by
  unfold State.receiptAges
  simp [apply_ite State.commandWords, State.commandWords_setMember, foldl_commandWords]

@[simp] theorem State.commandWords_enqueueIfFree (s : State) (p : Station) : (s.enqueueIfFree p).commandWords = s.commandWords := by
  unfold State.enqueueIfFree
  simp [apply_ite State.commandWords, State.commandWords_setMember, foldl_commandWords]

@[simp] theorem State.commandWords_listenExpires (s : State) : (s.listenExpires).commandWords = s.commandWords := by
  unfold State.listenExpires
  simp [apply_ite State.commandWords, State.commandWords_setMember, foldl_commandWords]

@[simp] theorem State.commandWords_joinExpires (s : State) : (s.joinExpires).commandWords = s.commandWords := by
  unfold State.joinExpires
  simp [apply_ite State.commandWords, State.commandWords_setMember, foldl_commandWords]

@[simp] theorem State.commandWords_silenceExpires (s : State) (p : Station) : (s.silenceExpires p).commandWords = s.commandWords := by
  unfold State.silenceExpires
  simp [apply_ite State.commandWords, State.commandWords_setMember, foldl_commandWords]

@[simp] theorem State.commandWords_handToHeir (s : State) : (s.handToHeir).commandWords = s.commandWords := by
  unfold State.handToHeir
  simp [apply_ite State.commandWords, State.commandWords_setMember, foldl_commandWords]

@[simp] theorem State.commandWords_askLeave (s : State) : (s.askLeave).commandWords = s.commandWords := by
  unfold State.askLeave
  simp [apply_ite State.commandWords, State.commandWords_setMember, foldl_commandWords]

@[simp] theorem State.commandWords_departureEnds (s : State) : (s.departureEnds).commandWords = s.commandWords := by
  unfold State.departureEnds
  simp [apply_ite State.commandWords, State.commandWords_setMember, foldl_commandWords]

@[simp] theorem State.commandWords_snapqExpires (s : State) : (s.snapqExpires).commandWords = s.commandWords := by
  unfold State.snapqExpires
  simp [apply_ite State.commandWords, State.commandWords_setMember, foldl_commandWords]

@[simp] theorem State.commandWords_openNextFetch (s : State) : (s.openNextFetch).commandWords = s.commandWords := by
  unfold State.openNextFetch
  (repeat' split) <;> simp [State.commandWords_setMember, foldl_commandWords]

@[simp] theorem State.commandWords_fetchExpires (s : State) (b : Block) : (s.fetchExpires b).commandWords = s.commandWords := by
  unfold State.fetchExpires
  (repeat' split) <;> simp [State.commandWords_setMember, foldl_commandWords]

@[simp] theorem State.commandWords_holdExpires (s : State) (b : Block) : (s.holdExpires b).commandWords = s.commandWords := by
  unfold State.holdExpires
  simp [apply_ite State.commandWords, State.commandWords_setMember, foldl_commandWords]

@[simp] theorem State.commandWords_startIfWanted (s : State) : (s.startIfWanted).commandWords = s.commandWords := by
  unfold State.startIfWanted
  simp [apply_ite State.commandWords, State.commandWords_setMember, foldl_commandWords]

@[simp] theorem State.commandWords_queryLimit (s : State) : (s.queryLimit).commandWords = s.commandWords := by
  unfold State.queryLimit
  simp [apply_ite State.commandWords, State.commandWords_setMember, foldl_commandWords]

@[simp] theorem State.commandWords_queryExpires (s : State) : (s.queryExpires).commandWords = s.commandWords := by
  unfold State.queryExpires
  simp [apply_ite State.commandWords, State.commandWords_setMember, foldl_commandWords]

@[simp] theorem State.commandWords_settleIfFree (s : State) : (s.settleIfFree).commandWords = s.commandWords := by
  unfold State.settleIfFree
  simp [apply_ite State.commandWords, State.commandWords_setMember, foldl_commandWords]

@[simp] theorem State.commandWords_deferenceExpires (s : State) : (s.deferenceExpires).commandWords = s.commandWords := by
  unfold State.deferenceExpires
  simp [apply_ite State.commandWords, State.commandWords_setMember, foldl_commandWords]

@[simp] theorem State.commandWords_digestExpires (s : State) : (s.digestExpires).commandWords = s.commandWords := by
  unfold State.digestExpires
  simp [apply_ite State.commandWords, State.commandWords_setMember, foldl_commandWords]

/-! ## Events -/

@[simp] theorem State.commandWords_quiesceFor (n : Nat) (s : State) : (State.quiesceFor n s).commandWords = s.commandWords := by
  induction n generalizing s with
  | zero => rfl
  | succ n ih =>
    unfold State.quiesceFor
    split
    · rfl
    · simp [ih]

@[simp] theorem State.commandWords_quiesce (s : State) : s.quiesce.commandWords = s.commandWords := by simp [State.quiesce]

@[simp] theorem State.commandWords_settleEvent (s : State) : s.settleEvent.commandWords = s.commandWords := by simp [State.settleEvent]

/-- An event keeps the commandWords where its effect does. -/
theorem State.commandWords_event (s : State) (f : State → State) (h : ∀ t, (f t).commandWords = t.commandWords) :
    (s.event f).commandWords = s.commandWords := by
  unfold State.event
  split
  · rfl
  · simp [h]

theorem State.commandWords_portEvent (s : State) (f : State → State) (h : ∀ t, (f t).commandWords = t.commandWords) :
    (s.portEvent f).commandWords = s.commandWords := by
  unfold State.portEvent
  split
  · exact s.commandWords_event f h
  · rfl

end Sys2Proof.Machine
end

