-- ==== Sys2Proof/Laws/Directory.lean ====
section
/-! SUPPORT. What the judgement of an arrival rests on: the serial comparison, repeated updates of one entry, and which operations of the Claim, Copy and Write Units leave the directory as it stands (R9, R10, R41, R44). -/

namespace Sys2Proof.Machine

theorem later16_irrefl (a : Version) : later16 a a = false := by simp [later16]

theorem later8_irrefl (a : Epoch) : later8 a a = false := by simp [later8]

/-- Of two versions at most one is later (R9). -/
theorem later16_asymm {a b : Version} (h : later16 a b = true) : later16 b a = false := by
  simp only [later16, Bool.and_eq_true, decide_eq_true_eq] at h
  have e : b - a = -(a - b) := by simp
  rw [later16, e]
  simp only [BitVec.toNat_neg, Bool.and_eq_false_iff, decide_eq_false_iff_not]
  omega

theorem ne_of_later16 {a b : Version} (h : later16 a b = true) : a ≠ b := by
  rintro rfl
  simp [later16_irrefl] at h

/-- What the free value of log entry 4 never decides: versions that R9 orders. -/
theorem orderVersion_of_later {a b : Version} (h : later16 a b = true) :
    orderVersion a b = .later ∧ orderVersion b a = .earlier := by
  simp [orderVersion, h, later16_asymm h, ne_of_later16 h, (ne_of_later16 h).symm]

@[simp] theorem orderVersion_self (a : Version) : orderVersion a a = .equal := by simp [orderVersion]

@[simp] theorem State.setEntry_setEntry (s : State) (b : Block) (x y : DirEntry) :
    (s.setEntry b x).setEntry b y = s.setEntry b y := by
  simp [State.setEntry, State.setDir, put, Vector.set_set]

/-! ## Operations that leave the directory -/

@[simp] theorem State.dir_withdraw (s : State) (k : RequestKey) : (s.withdraw k).dir = s.dir := rfl

@[simp] theorem State.dir_makeDue (s : State) (p : Payload) (t : Station) : (s.makeDue p t).dir = s.dir := rfl

@[simp] theorem State.dir_closeClaim (s : State) (b : Block) : (s.closeClaim b).dir = s.dir := rfl

@[simp] theorem State.dir_closeFetch (s : State) (b : Block) : (s.closeFetch b).dir = s.dir := rfl

@[simp] theorem State.dir_sendClaim (s : State) (b : Block) : (s.sendClaim b).dir = s.dir := by
  unfold State.sendClaim
  split
  · rfl
  · simp only []
    split <;> rfl

@[simp] theorem State.dir_openClaim (s : State) (b : Block) (held : Bool) : (s.openClaim b held).dir = s.dir := by
  simp [State.openClaim]

/-- What a grant can do: nothing, or open a slot for one block with its held flag set (R41). -/
theorem State.grantSlot_cases (s : State) :
    s.grantSlot = s ∨ ∃ b rest, s.wanting = b :: rest ∧ s.grantSlot = s.openClaim b true := by
  unfold State.grantSlot
  split
  · split
    · exact Or.inl rfl
    · next b rest h => exact Or.inr ⟨b, rest, h, rfl⟩
  · exact Or.inl rfl

@[simp] theorem State.dir_grantSlot (s : State) : s.grantSlot.dir = s.dir := by
  obtain h | ⟨b, _, _, h⟩ := s.grantSlot_cases <;> simp [h]

@[simp] theorem State.dir_notice (s : State) (b : Block) : (s.notice b).dir = s.dir := by
  unfold State.notice
  repeat' split
  all_goals rfl

/-- After an arrival has passed the epoch test the entry's owner and epoch are the arrival's, and its donor too (R10). -/
theorem State.entry_takeOwner (s : State) (b : Block) (p n : Station) (e : Epoch) (d : Option Station) :
    ((s.takeOwner b p n e d).entry b).owner = n ∧ ((s.takeOwner b p n e d).entry b).epoch = e
      ∧ ((s.takeOwner b p n e d).entry b).donor = d := by
  have drop : ∀ (c : Prop) [Decidable c] (u : State), (if c then u.dropClaims b else u).entry b = u.entry b := by
    intro c _ u
    split <;> rfl
  simp only [State.takeOwner, drop, State.entry_setEntry_same, and_self]

end Sys2Proof.Machine
end

