-- ==== Sys2Proof/Laws/Receiver.lean ====
section
/-! SUPPORT. The receiver, bit by bit: a whole character, mark, space held on, what a lane that awaits a frame makes of the characters of a frame row, and that a lane stays settled (R140 to R144). -/

namespace Sys2Proof

open Machine

@[simp] theorem Receiver.hear_nil (r : Receiver) : r.hear [] = r := rfl

@[simp] theorem Receiver.hear_cons (r : Receiver) (t : Triple) (ts : List Triple) :
    r.hear (t :: ts) = (r.hearBit t).hear ts := rfl

theorem Receiver.hear_append (r : Receiver) (xs ys : List Triple) : r.hear (xs ++ ys) = (r.hear xs).hear ys :=
  List.foldl_append

/-- Once space has been heard, more of it changes nothing of the idle time. -/
theorem Receiver.hearSpace_heard {r : Receiver} (hi : r.idle = 0) (hh : r.heard = true) (t : Triple) : r.hearSpace t = r := by
  cases r
  simp only at hi hh
  subst hi hh
  simp [Receiver.hearSpace]

/-- Mark, outside a character. -/
theorem Receiver.hear_marks {r : Receiver} (hs : r.shift = []) (hr : r.spaceRun = 0) (n : Nat) :
    r.hear (List.replicate n (Triple.all true)) = r := by
  induction n with
  | zero => rfl
  | succ n ih =>
    have step : r.hearBit (Triple.all true) = r := by
      simp [Receiver.hearBit, hs, hr, Receiver.seekStart, majority, Triple.all]
    rw [List.replicate_succ, Receiver.hear_cons, step, ih]

/-- A whole character, from mark: it is one more of the frame in progress, or begins one, or is ignored (R140, R143). -/
theorem Receiver.hear_char {r : Receiver} {c : RxChar} (hs : r.shift = []) (hr : r.spaceRun = 0) (h8 : c.data.length = 8)
    (hc : c.falseStart = false) :
    r.hear c.bits =
      { buffer := if 0 < r.buffer.count ∨ Config.frameEnd ≤ r.idle then r.buffer.take c else r.buffer
        shift := [], spaceRun := if c.framing then c.trailing else 0, idle := 0, heard := true } := by
  obtain ⟨start, data, stop⟩ := c
  have hm : majority start = false := hc
  match data, h8 with
  | [d0, d1, d2, d3, d4, d5, d6, d7], _ =>
    have first : r.hearBit start =
        { r with
          shift := [start], idle := 0, heard := true
          buffer := if 0 < r.buffer.count ∨ Config.frameEnd ≤ r.idle then r.buffer.next else r.buffer } := by
      simp [Receiver.hearBit, hs, hr, Receiver.seekStart, hm]
    simp only [RxChar.bits, List.cons_append, List.nil_append, Receiver.hear_cons, Receiver.hear_nil, first]
    simp only [Receiver.hearBit, Receiver.hearSpace_heard, List.length_cons, List.length_nil, List.cons_append,
      List.nil_append, Nat.reduceAdd, Nat.reduceLT, if_true, if_false, Receiver.endChar, hr]
    by_cases h : 0 < r.buffer.count ∨ Config.frameEnd ≤ r.idle
    · simp [h, FrameBuffer.take, hc, FrameBuffer.next]
    · simp only [if_neg h, if_neg (not_or.mp h).1]

/-- Space held on for n bit times after a stop bit at space (R141, R142). -/
theorem Receiver.hear_spaces {r : Receiver} (hs : r.shift = []) (hr : 0 < r.spaceRun) (n : Nat)
    (hn : r.spaceRun + n ≤ Config.stuckRun + 1) :
    r.hear (List.replicate n (Triple.all false)) =
      if n = 0 then r
      else
        { r with
          spaceRun := r.spaceRun + n, idle := 0, heard := true
          buffer := if Config.abortRun ≤ r.spaceRun + n then FrameBuffer.empty else r.buffer } := by
  induction n generalizing r with
  | zero => rfl
  | succ n ih =>
    have hns : ¬ Config.stuckRun < r.spaceRun := by omega
    have step : r.hearBit (Triple.all false) =
        { r with
          spaceRun := r.spaceRun + 1, idle := 0, heard := true
          buffer := if Config.abortRun ≤ r.spaceRun + 1 then FrameBuffer.empty else r.buffer } := by
      have h0 : ¬ r.spaceRun = 0 := by omega
      simp [Receiver.hearBit, hs, h0, Receiver.hearSpace, Receiver.awaitMark, Triple.all, Triple.isMark, Triple.isSpace, hns]
    rw [List.replicate_succ, Receiver.hear_cons, step]
    have := ih (r := { r with
          spaceRun := r.spaceRun + 1, idle := 0, heard := true
          buffer := if Config.abortRun ≤ r.spaceRun + 1 then FrameBuffer.empty else r.buffer }) hs (Nat.succ_pos _)
          (by simp only; omega)
    rw [this]
    by_cases h : n = 0
    · subst h; simp
    · simp only [h, if_false, Nat.add_eq_zero_iff, Nat.one_ne_zero, and_false, Nat.add_assoc, Nat.add_comm 1 n]
      by_cases h2 : Config.abortRun ≤ r.spaceRun + (n + 1)
      · simp [h2]
      · have h3 : ¬ Config.abortRun ≤ r.spaceRun + 1 := by omega
        simp [h2, h3]

/-- Two receivers that differ in an idle time of 2 ct or more hear alike. -/
theorem Receiver.hear_idle (bits : List Triple) {r q : Receiver} (h : q = { r with idle := q.idle })
    (hi : q.idle = r.idle ∨ (Config.frameEnd ≤ r.idle ∧ Config.frameEnd ≤ q.idle)) :
    q.hear bits = { r.hear bits with idle := (q.hear bits).idle } := by
  induction bits generalizing r q with
  | nil => exact h
  | cons t ts ih =>
    obtain ⟨_, _, _, i, _⟩ := r
    obtain ⟨b, sh, n, j, hd⟩ := q
    simp only [Receiver.mk.injEq] at h hi
    obtain ⟨rfl, rfl, rfl, -, rfl⟩ := h
    rw [Receiver.hear_cons, Receiver.hear_cons]
    apply ih
    all_goals
      have hk : (0 < b.count ∨ Config.frameEnd ≤ i) = (0 < b.count ∨ Config.frameEnd ≤ j) := by
        rcases hi with rfl | ⟨h1, h2⟩
        · rfl
        · simp [h1, h2]
      clear ih
      cases sh <;>
        simp only [Receiver.hearBit, Receiver.seekStart, Receiver.awaitMark, Receiver.endChar, Receiver.hearSpace, hk] <;>
        (repeat' split) <;> first | rfl | exact hi | exact .inl rfl

/-- A receiver whose buffer has a character has heard space, where it began with none. -/
theorem Receiver.heard_of_count (bits : List Triple) {r : Receiver} (h : 0 < r.buffer.count → r.heard = true)
    (hc : 0 < (r.hear bits).buffer.count) : (r.hear bits).heard = true := by
  induction bits generalizing r with
  | nil => exact h hc
  | cons t ts ih =>
    rw [Receiver.hear_cons] at hc ⊢
    refine ih ?_ hc
    unfold Receiver.hearBit Receiver.seekStart Receiver.awaitMark Receiver.endChar Receiver.hearSpace
    (repeat' split) <;> simp_all [FrameBuffer.fill, FrameBuffer.empty]

/-- What a lane that awaits a frame makes of a frame row's characters: the row's buffer (R143). -/
theorem Machine.Lane.hearAll_of_awaits {lane : Lane} (h : lane.awaitsFrame = true) {rx : RxFrame}
    (hc : 0 < rx.buffer.count) :
    lane.hearAll rx.chars = { lane with buffer := rx.buffer, idle := Config.frameEnd } := by
  simp only [Lane.awaitsFrame, Bool.and_eq_true, decide_eq_true_eq, List.isEmpty_iff] at h
  obtain ⟨⟨⟨hi, hb⟩, hs⟩, hr⟩ := h
  have e : lane.receiver = { Receiver.awaiting with idle := lane.receiver.idle } := by
    simp [Lane.receiver, Receiver.awaiting, hb, hs, hr]
  have hh := Receiver.hear_idle (withIdle rx.chars) e (.inr ⟨Nat.le_refl _, hi⟩)
  have heard := Receiver.heard_of_count (withIdle rx.chars) (r := Receiver.awaiting)
    (by simp [Receiver.awaiting, FrameBuffer.empty]) hc
  have hne : rx.chars ≠ [] := by
    intro h0
    rw [RxFrame.buffer, h0] at hc
    revert hc
    decide
  rw [Lane.hearAll, hh]
  simp only [heard, hne, ne_eq, not_false_eq_true, and_self, if_true, RxFrame.buffer]
  rw [← hs, ← hr]

/-- Where the bits have read no space and leave no character in progress, there is no space run (R140, R141). -/
theorem Receiver.spaceRun_of_silent (bits : List Triple) (r : Receiver) (hne : bits ≠ [])
    (hh : (r.hear bits).heard = false) (hs : (r.hear bits).shift = []) : (r.hear bits).spaceRun = 0 := by
  obtain ⟨ts, t, rfl⟩ := List.eq_nil_or_concat bits |>.resolve_left hne
  rw [List.concat_eq_append, Receiver.hear_append] at *
  generalize r.hear ts = q at *
  simp only [Receiver.hear_cons, Receiver.hear_nil] at *
  have valid : ∀ c : RxChar, c.stop.isMark = true → c.framing = false := by
    intro c h
    simp only [Triple.isMark, Bool.and_eq_true] at h
    simp [RxChar.framing, majority, h]
  revert hh hs
  unfold Receiver.hearBit Receiver.seekStart Receiver.awaitMark Receiver.endChar Receiver.hearSpace
  (repeat' split) <;> simp_all [Triple.isMark, Triple.isSpace]

/-- A lane is settled after every character time of its line. -/
theorem Machine.Lane.settled_sample (l : Lane) (c : LineCell) : (l.sample c).settled = true := by
  have hne : c.bits ≠ [] := by cases c <;> simp [LineCell.bits, RxChar.bits]
  simp only [Lane.settled, Lane.sample]
  by_cases hh : (l.receiver.hear c.bits).heard = true
  · simp [hh]
  · by_cases hs : (l.receiver.hear c.bits).shift = []
    · simp [hs, Receiver.spaceRun_of_silent _ _ hne (by simpa using hh) hs]
    · simp [hs]

/-- A lane stays settled over a character time, whether it rests, sends, drives its abort mark or samples its line. -/
theorem Machine.Lane.settled_tick {l : Lane} (h : l.settled = true) (sent : Byte) : (l.tick sent).settled = true := by
  have listen : l.listenOn.settled = true := l.settled_sample (l.line.headD .mark)
  have send : (l.sendOn sent).settled = true := by simp [Lane.sendOn, Lane.settled]
  unfold Lane.tick
  split
  · exact h
  · exact h
  · exact send
  · simp [Lane.settled]
  · exact listen
  · exact listen

/-- When a lane's controller has sent its frame whole (R144, R149). -/
theorem Machine.State.sentWhole_iff (s : State) (l : LaneId) : s.sentWhole l = true ↔
    (s.lane l).access = .sending ∧ s.currentLength ≤ (s.lane l).progress
      ∧ collides (s.lastSent l) (s.lane l).readback = false := by
  simp [State.sentWhole, State.readsBackEqual, and_assoc]

end Sys2Proof
end

