-- ==== Sys2Proof/Laws/Received.lean ====
section
/-! SUPPORT. A frame that comes in without noise: its characters are its bytes, and where the station hears it and reads it back it is delivered (R140, R143, R144, R161). -/

namespace Sys2Proof

open Machine

/-- A clean character has the value it was sent with. -/
theorem cleanChar_value (b : Byte) : (cleanChar b).value = b := by
  revert b; decide +kernel

/-- The receiver takes in a clean character. -/
theorem FrameBuffer.take_cleanChar (g : FrameBuffer) (b : Byte) (h : g.count < Config.frameMax) :
    g.take (cleanChar b) = { g with chars := g.chars ++ [b], count := g.count + 1 } := by
  have h1 : (cleanChar b).falseStart = false := rfl
  have h2 : (cleanChar b).framing = false := rfl
  have h3 : (cleanChar b).noisy = false := by
    simp [RxChar.noisy, cleanChar, disagrees, Triple.all]
  have h4 : ¬ Config.frameMax < g.count + 1 := by omega
  have h5 : g.count + 1 ≤ Config.frameMax := h
  simp [FrameBuffer.take, FrameBuffer.next, FrameBuffer.fill, h1, h2, h3, cleanChar_value, h4, h5]

/-- The receiver takes in a run of clean characters. -/
theorem foldl_take_clean (bs : List Byte) (g : FrameBuffer) (h : g.count + bs.length ≤ 126) :
    (bs.map cleanChar).foldl FrameBuffer.take g = { g with chars := g.chars ++ bs, count := g.count + bs.length } := by
  induction bs generalizing g with
  | nil => simp
  | cons b bs ih =>
    simp only [List.length_cons] at h
    have hlt : g.count < Config.frameMax := by simp only [Config.frameMax]; omega
    rw [List.map_cons, List.foldl_cons, FrameBuffer.take_cleanChar _ _ hlt, ih _ (by simp only; omega)]
    simp [Nat.add_assoc, Nat.add_comm 1]

/-- A receiver that takes characters, a frame in progress or about to begin, buffers clean ones one after another. -/
theorem Receiver.hear_clean (bs : List Byte) {r : Receiver} (hs : r.shift = []) (hr : r.spaceRun = 0)
    (h : 0 < r.buffer.count ∨ Config.frameEnd ≤ r.idle) :
    r.hear ((bs.map cleanChar).flatMap RxChar.bits) =
      if bs = [] then r
      else { buffer := (bs.map cleanChar).foldl FrameBuffer.take r.buffer, shift := [], spaceRun := 0, idle := 0, heard := true } := by
  induction bs generalizing r with
  | nil => rfl
  | cons b bs ih =>
    have hf : (cleanChar b).falseStart = false := rfl
    rw [List.map_cons, List.flatMap_cons, Receiver.hear_append, Receiver.hear_char hs hr rfl hf, if_pos h,
      show (cleanChar b).framing = false from rfl, ih rfl rfl (.inl (by simp [FrameBuffer.take, hf, FrameBuffer.fill, FrameBuffer.next]))]
    cases bs <;> simp

/-- The buffer of a frame that comes in without noise. -/
theorem buffer_cleanFrame {l : LaneId} {f : Frame} (h : f.bytes.length ≤ 126) : (cleanFrame l f).buffer =
    { chars := f.bytes, count := f.bytes.length, noisy := false, fault := false, framing := false, own := 0 } := by
  have h0 : FrameBuffer.empty.count + f.bytes.length ≤ 126 := by simpa [FrameBuffer.empty] using h
  rw [RxFrame.buffer, cleanFrame, withIdle, Receiver.hear_append,
    Receiver.hear_clean f.bytes rfl rfl (.inr (Nat.le_refl _))]
  by_cases hb : f.bytes = []
  · rw [if_pos hb, Receiver.hear_marks rfl rfl]
    simp [hb, Receiver.awaiting, FrameBuffer.empty]
  · rw [if_neg hb, Receiver.hear_marks rfl rfl]
    simp only [Receiver.awaiting]
    rw [foldl_take_clean f.bytes FrameBuffer.empty h0]
    simp [FrameBuffer.empty]

/-- What a frame that is read back tells of its characters. -/
theorem of_readFrame {f : Frame} (h : readFrame f.bytes = some f) :
    f.bytes.length ≤ 126 ∧ 6 ≤ f.bytes.length ∧
    ({ chars := f.bytes, count := f.bytes.length, noisy := false, fault := false, framing := false, own := 0
       } : FrameBuffer).verdict = none
    ∧ ∃ k, Kind.ofCode (rawFrame f.bytes).kind = some k ∧ k.toOne = decide ((rawFrame f.bytes).target ≠ 0)
      ∧ (rawFrame f.bytes).sender = f.sender ∧ (rawFrame f.bytes).target = f.target ∧ (rawFrame f.bytes).seq = f.seq
      ∧ f.sender ≠ 0 ∧ readPayload k f.sender (rawFrame f.bytes).payload = some f.payload := by
  unfold readFrame at h
  dsimp only at h
  split at h
  · rename_i hv
    have hb : ¬ (f.bytes.length > 126 ∨ f.bytes.length < 6 ∨ f.bytes.length ≠ (f.bytes.getD 3 0).toNat + 6) := by
      intro hb
      unfold FrameBuffer.verdict at hv
      rw [if_neg (by simp [FrameBuffer.empty])] at hv
      split at hv
      · cases hv
      · next hn => exact hn (.inr hb)
    split at h
    · rename_i k hk
      split at h
      · rename_i hc
        simp only [Option.map_eq_some_iff] at h
        obtain ⟨p, hp, he⟩ := h
        have e1 := congrArg Frame.sender he
        have e2 := congrArg Frame.target he
        have e3 := congrArg Frame.seq he
        have e4 := congrArg Frame.payload he
        dsimp only at e1 e2 e3 e4
        refine ⟨by omega, by omega, hv, k, hk, ?_, e1, e2, e3, ?_, ?_⟩
        · exact hc.2.trans (decide_eq_decide.mpr (not_congr (by rw [Fin.ext_iff]; rfl)))
        · intro h0
          rw [← e1] at h0
          exact hc.1 (congrArg Fin.val h0)
        · rw [← e1, hp, e4]
      · simp at h
    · simp at h
  · simp at h
end Sys2Proof

namespace Sys2Proof.Machine

/-- A lane that awaits a frame holds a clean one whole, with the 2 ct of idle after it (R143). -/
theorem Lane.hearAll_cleanFrame {lane : Lane} {l : LaneId} {f : Frame} (h : lane.awaitsFrame = true)
    (h126 : f.bytes.length ≤ 126) (h6 : 6 ≤ f.bytes.length) :
    lane.hearAll (cleanFrame l f).chars =
      { lane with
        buffer := { chars := f.bytes, count := f.bytes.length, noisy := false, fault := false, framing := false, own := 0 }
        idle := Config.frameEnd } := by
  rw [Lane.hearAll_of_awaits h (by rw [buffer_cleanFrame h126]; simp only; omega), buffer_cleanFrame h126]

/-- A frame the station hears and reads back is delivered in the event of its end. -/
theorem State.frameIn_of_canHear {s : State} {l : LaneId} {f : Frame} (h : s.canHear l f = true)
    (hr : readFrame f.bytes = some f) :
    s.tickStamp.frameIn (cleanFrame l f) = (s.carried l f.sender).deliver f := by
  obtain ⟨h126, h6, hv, k, hk, hone, e1, e2, e3, hs0, hp⟩ := of_readFrame hr
  simp only [State.canHear, Bool.and_eq_true, Bool.or_eq_true, decide_eq_true_eq, Bool.not_eq_true', ne_eq] at h
  obtain ⟨⟨⟨⟨⟨⟨⟨⟨hr0, hoff⟩, hup⟩, hhears⟩, hwaits⟩, hscore⟩, hwf⟩, hown⟩, htarget⟩ := h
  have hbring : s.tickStamp.bring l (cleanFrame l f).line = s.tickStamp := by
    cases l <;> simp [State.bring, cleanFrame, State.setLane, State.lane, State.tickStamp]
  have hlane : s.tickStamp.lane l = s.lane l := by cases l <;> rfl
  have hl1 : (cleanFrame l f).lane = l := rfl
  simp only [State.frameIn, hl1, hbring, hlane, hhears, if_true, Lane.hearAll_cleanFrame hwaits h126 h6]
  rw [if_pos ⟨by omega, Nat.le_refl _⟩]
  set v := (s.tickStamp.setLane l { s.lane l with
    buffer := { chars := f.bytes, count := f.bytes.length, noisy := false, fault := false, framing := false, own := 0 }
    idle := Config.frameEnd }).frameEnds l with hvv
  have hup' : v.laneUp l = true := by cases l <;> exact hup
  simp only [State.judgeBuffer, hv, hup', if_true, State.goodFrame, frameNoise, State.weigh]
  have hsc : addScore (v.lane l).score 0 1 = (s.lane l).score - 1 := by
    have : (v.lane l).score = (s.lane l).score := by cases l <;> rfl
    rw [this]
    simp only [addScore, Config.scoreLimit] at *
    omega
  have hne : ¬ (s.lane l).score - 1 = Config.scoreLimit := by simp only [Config.scoreLimit] at *; omega
  simp only [Bool.false_eq_true, if_false, hsc, hne, decide_false, Bool.and_false]
  set u := v.setLane l { v.lane l with score := (s.lane l).score - 1 } with hu
  have hoff' : ¬ u.state = .offline := by
    have : u.state = s.state := by cases l <;> rfl
    rwa [this]
  have huo : u.own = s.own := by cases l <;> rfl
  have hcar : u.hear f.sender = s.carried l f.sender := by
    have hrun : (s.lane l).spaceRun = 0 := by
      simp only [Lane.awaitsFrame, Bool.and_eq_true, decide_eq_true_eq] at hwaits
      exact hwaits.2
    rw [State.carried, ← hrun]; congr 1; cases l <;> rfl
  rw [if_neg hoff']
  simp only [State.judgeFrame, e1, hs0, if_false, huo, hown, hcar, hk, State.judgeKind, hone, ne_eq, not_true, e2]
  have : ¬ (k.toOne = true ∧ ¬ f.target = (s.carried l f.sender).own) := by
    rintro ⟨h1, h2⟩
    rw [hone, e2] at h1
    rcases htarget with h3 | h3
    · simp [h3] at h1
    · have : (s.carried l f.sender).own = s.own :=
        State.own_of_setting ((State.setting_hear _ _).trans ((State.setting_setLane _ _ _).trans rfl))
      exact h2 (h3.trans this.symm)
  simp only [hone, e2, ne_eq] at this
  rw [if_neg this, hp, e3]

theorem State.canHear_of_hears {s : State} {l : LaneId} {f : Frame} (h : s.hearsFrame l f = true) :
    s.canHear l f = true := by
  simp only [State.hearsFrame, Bool.and_eq_true] at h
  exact h.2

theorem State.resetLow_of_canHear {s : State} {l : LaneId} {f : Frame} (h : s.canHear l f = true) :
    s.resetLow = false := by
  simp only [State.canHear, Bool.and_eq_true, Bool.not_eq_true'] at h
  exact h.1.1.1.1.1.1.1.1

/-- The event of that frame: its delivery, and what every event ends with. -/
theorem State.event_of_canHear {s : State} {l : LaneId} {f : Frame} (h : s.canHear l f = true)
    (hr : readFrame f.bytes = some f) :
    s.event (·.frameIn (cleanFrame l f)) = ((s.carried l f.sender).deliver f).settleEvent := by
  simp [State.event, State.resetLow_of_canHear h, State.frameIn_of_canHear h hr]

/-- The event of that frame, where delivery leaves no act to do. -/
theorem State.event_of_hears {s : State} {l : LaneId} {f : Frame} (h : s.hearsFrame l f = true)
    (hr : readFrame f.bytes = some f) (ht : ((s.carried l f.sender).deliver f).still = true) :
    s.event (·.frameIn (cleanFrame l f)) = ((s.carried l f.sender).deliver f).closes := by
  rw [State.event_of_canHear (State.canHear_of_hears h) hr, State.settleEvent_of_still ht]

end Sys2Proof.Machine
end

