-- ==== Sys2Proof/Tests/Slice0.lean ====
section
/-! SUPPORT. The model's own tests: the checks of WellFormed refuse ill-formed commands, the CRC and a frame's bytes, and for every statement a state that meets its premises, with what the command answers there. -/

namespace Sys2Proof.Tests

set_option Elab.async false

open Sys2Proof Sys2Proof.Machine

/-! ## Well-formedness, one ill-formed term a check -/

/-- A good EXCLUDE of station 2 by station 3. -/
def sampleFrame : Frame := ⟨3, 0, 7, .exclude 2 .silence⟩

/-- The same frame with its last character wrong. -/
def sampleBad : RxFrame := ⟨.A, (sampleFrame.bytes.take 7 ++ [0]).map cleanChar, []⟩

/-- A character of nine bits. -/
def shortChar : RxChar := { cleanChar 0 with data := [Triple.all true] }

theorem test_wf_local_write : Instr.wellFormed (.localWrite 0x2000 1) = false := by decide
theorem test_wf_command_unknown : Instr.wellFormed (.commandUnknown 3 0) = false := by decide
theorem test_wf_ignored_window : Instr.wellFormed (.stationAreaWriteIgnored 0x10 1) = false := by decide
theorem test_wf_ignored_command : Instr.wellFormed (.stationAreaWriteIgnored 0x2005 1) = false := by decide
theorem test_wf_frame_kind : Instr.wellFormed (.statusReceived (cleanFrame .A sampleFrame)) = false := by decide +kernel
theorem test_wf_frame_good : Instr.wellFormed (.excludeReceived (cleanFrame .A sampleFrame)) = true := by decide +kernel
theorem test_wf_frame_crc : Instr.wellFormed (.excludeReceived sampleBad) = false := by decide +kernel
theorem test_wf_frame_bits : Instr.wellFormed (.excludeReceived ⟨.A, [shortChar], []⟩) = false := by decide +kernel
theorem test_wf_line_bits : Instr.wellFormed (.excludeReceived ⟨.A, [], [.char shortChar]⟩) = false := by decide +kernel
theorem test_wf_bad_frame : Instr.wellFormed (.badFrameReceived (cleanFrame .A sampleFrame)) = false := by decide +kernel
theorem test_wf_bad_frame_good : Instr.wellFormed (.badFrameReceived sampleBad) = true := by decide +kernel
theorem test_wf_probation_frame : Instr.wellFormed (.probationFrameReceived sampleBad) = false := by decide +kernel
theorem test_wf_collision : Instr.wellFormed (.collision .A (some shortChar)) = false := by decide
theorem test_wf_waiting_exclude : Instr.wellFormed (.waitingExcludeEnqueue 0) = false := by decide
theorem test_wf_silence : Instr.wellFormed (.silenceTimeout 0) = false := by decide

/-! ## Bytes -/

/-- R157's check value. -/
theorem test_crc_digits : crc [0x31, 0x32, 0x33, 0x34, 0x35, 0x36, 0x37, 0x38, 0x39] = 0x29B1 := by decide +kernel

/-- Header and payload of a frame, written out from Tables 10-1, 10-2 and 10-5. -/
theorem test_exclude_bytes : sampleFrame.body = [0x07, 0x30, 0x07, 0x02, 0x02, 0x01] := by decide +kernel

theorem test_update_bytes : (⟨1, 0, 9, .update 0x20 3 0x0105 [⟨31, 0xABCD⟩]⟩ : Frame).body =
    [0x04, 0x10, 0x09, 0x08, 0x20, 0x03, 0x01, 0x05, 0x01, 0x1F, 0xAB, 0xCD] := by decide +kernel

theorem test_read_back : readFrame sampleFrame.bytes = some sampleFrame := by decide +kernel

theorem test_framesReadBack_premise : Frame.wellFormed sampleFrame = true := by decide +kernel

theorem test_query_bitmap : (bitmapOf (fun b => decide (b = 8))).take 3 = [0x00, 0x80, 0x00] := by decide +kernel

/-! ## States -/

/-- An UP lane whose line has been idle for 2 ct. -/
def ready : Lane := { Lane.reset .up with idle := 2 }

/-- A founder at number n, its founding done: LIVE, nothing to send. -/
def live (n : Station) : State :=
  let s := (State.released n true 0).found
  (((s.setMember { s.member with urgentStatus := false }).setLog IncidentLog.reset).setLane .A ready).setLane .B ready

/-- A LIVE peer heard from now, that has receipted everything. -/
def livePeer : Peer :=
  { state := .live, silence := some 0, expect := some 0, receipt := some 0, base := some 0, welcome := false
    includesUs := true }

/-- Station n, LIVE in a group of 1, 2 and 3. -/
def group (n : Station) : State :=
  let s := ([1, 2, 3].filter (fun p => p ≠ n)).foldl (fun (s : State) p => s.setPeer p livePeer) (live n)
  s.setMember { s.member with registrar := 1 }

/-- A block owned by another, CURRENT here. -/
def lent (s : State) (b : Block) (p : Station) : State := s.setEntry b { s.entry b with owner := p }

/-- A frame queued as entry, sent or not. -/
def entryOf (f : Frame) (sent : Bool) (timer : Option Nat) : ReplayEntry :=
  { seq := f.seq, frame := f, sent := sent, marked := false, count := 0, timer := timer }

/-- Two states are the same, field by field. -/
def same (s t : State) : Bool :=
  decide (s.setting = t.setting) && decide (s.window = t.window) && decide (s.dir.toList = t.dir.toList)
    && decide (s.write = t.write) && decide (s.claim = t.claim) && decide (s.seq = t.seq) && decide (s.member = t.member)
    && decide (s.copy = t.copy) && decide (s.settle = t.settle) && decide (s.audit = t.audit)
    && decide (s.laneA = t.laneA) && decide (s.laneB = t.laneB) && decide (s.select = t.select)
    && decide (s.log = t.log) && decide (s.port = t.port) && decide (s.stamp = t.stamp)
    && decide (s.freeCount = t.freeCount)

/-- The command answers t. -/
def answers (i : Instr) (s t : State) : Bool :=
  match exec i s with | .next u => same u t | .fault _ => false | .refused _ => false

/-- The command answers t with the take and the incidents of its event, and nothing more is to be done. -/
def completes (i : Instr) (s t : State) : Bool := t.still && answers i s t.closes

/-- The command answers t with the units' acts, the take and the incidents of its event. -/
def settles (i : Instr) (s t : State) : Bool := answers i s t.settleEvent

/-- The command's event goes on from t, the state one act has left. -/
def goesOnFrom (i : Instr) (s t : State) : Bool := answers i s t.goesOn

/-! ## The queue, reset and the setting -/

theorem test_idle_premise : State.reset.pending = [] ∧ State.reset.resetLow = false := by decide

theorem test_reset_release : (live 1).port = LocalPort.reset
    ∧ answers (.resetRelease 4 false 2) (live 1) (State.released 4 false 2) = true := by decide +kernel

theorem test_reset_low : (live 1).resetFalls.resetLow = true ∧ isReset .joinTimeout = false
    ∧ answers .joinTimeout (live 1).resetFalls (live 1).resetFalls = true := by decide +kernel

theorem test_keepSetting_premise : isReset (.stationAreaWriteIgnored 0x2000 1) = false
    ∧ answers (.stationAreaWriteIgnored 0x2000 1) State.reset State.reset = true := by decide +kernel

theorem test_canonical_premise : State.reset.window.wf = true ∧ State.reset.bounded = true
    ∧ State.reset.linesSettled = true ∧ ∃ t, step State.reset = .next t := ⟨rfl, rfl, rfl, _, rfl⟩

/-- A command put at the front is run. -/
theorem test_front : ∃ t, step (State.reset.setPending [.incidentAck 0]) = .next t ∧ t.pending = [] := ⟨_, rfl, rfl⟩

theorem test_closing_premise : State.reset.log.offered = [] := rfl

theorem test_closing_one : (State.reset.offer { cls := .founded }).log.offered = [(.membership, { cls := .founded })] := rfl

/-! ## The port -/

/-- Two incidents stand. -/
def incidents : State :=
  ((live 1).setLog { (live 1).log with
    records := [⟨0, 5, { cls := .founded }⟩, ⟨1, 6, { cls := .joined }⟩], counter := 2, mask := 0x0003 })

theorem test_incident_ack : incidents.portFree = true
    ∧ answers (.incidentAck 0) incidents (incidents.setLog { incidents.log with
        records := [⟨1, 6, { cls := .joined }⟩] }) = true
    ∧ answers (.incidentAck 1) incidents incidents = true ∧ answers (.incidentAck 0) (live 1) (live 1) = true := by
  decide +kernel

theorem test_mask_write : answers (.unrecordedMaskWrite 0x0001) incidents
    (incidents.setLog { incidents.log with mask := 0x0002 }) = true := by decide +kernel

/-- A notice stands. -/
def noticed : State := (live 1).setPort { (live 1).port with notices := [9, 8] }

theorem test_notice : noticed.portFree = true ∧ noticed.readPort 0x2012 = 9
    ∧ answers .noticeRead noticed (noticed.setPort { noticed.port with notices := [8], dataOut := 9 }) = true := by
  decide +kernel

theorem test_notice_overflow :
    let p : LocalPort := { LocalPort.reset with overflow := true }
    ((live 1).setPort p).portFree = true ∧ (live 1).portFree = true ∧ (live 1).port.overflow = false
    ∧ answers .noticeRead ((live 1).setPort p) ((live 1).setPort { p with overflow := false, dataOut := 0xFFFE }) = true
    ∧ answers .noticeRead (live 1) ((live 1).setPort { LocalPort.reset with dataOut := 0xFFFF }) = true := by
  decide +kernel

theorem test_watch_map : ((live 1).setPort { LocalPort.reset with watch := 1#256 <<< 33 }).watchWord 2 = 2
    ∧ answers (.watchMapWrite 2 2) (live 1) ((live 1).setPort { LocalPort.reset with watch := 1#256 <<< 33 }) = true := by
  decide +kernel

theorem test_attn : (live 1).attnPin = false ∧ incidents.attnPin = true ∧ noticed.attnPin = true := by decide +kernel

/-- Eight records stand. -/
def fullLog : IncidentLog := { IncidentLog.reset with records := List.replicate 8 ⟨0, 0, { cls := .founded }⟩ }

theorem test_incident_full : (fullLog.record 3 { cls := .laneUp }).mask = 2
    ∧ (fullLog.record 3 { cls := .laneUp }).counter = 1 ∧ 8 ≤ fullLog.records.length
    ∧ IncidentLog.reset.records.length < 8 := by decide +kernel

/-- The command and result words once an event of one of the COMMAND rows is over. -/
def resultOf (i : Instr) (s : State) : Option (Word × Word) :=
  match exec i s with | .next t => some (t.port.command, t.port.result) | .fault _ => none | .refused _ => none

theorem test_command_live : (live 1).portFree = true ∧ resultOf (.commit 7) (live 1) = some (0x0107, 0x0101)
    ∧ resultOf (.claim 5) (live 1) = some (0x0205, 0x0204) ∧ resultOf (.refresh 5) (live 1) = some (0x0305, 0x0304)
    ∧ ((live 1).entry 5).copy ≠ .unknown ∧ resultOf (.rejoin 0) (live 1) = some (0x0500, 0x0502) := by decide +kernel

theorem test_command_offline : let s := State.released 0 true 0
    s.portFree = true ∧ s.member.state ≠ .live ∧ (s.entry 5).copy = .unknown
    ∧ resultOf (.refresh 5) s = some (0x0305, 0x0302) ∧ resultOf (.leave 0) s = some (0x0400, 0x0402)
    ∧ resultOf (.commandUnknown 9 1) s = some (0x0901, 0x0902)
    ∧ resultOf (.commandUnknown 9 1) (live 1) = some (0x0901, 0x0904) := by decide +kernel

theorem test_command_unknown : completes (.commandUnknown 9 1) (live 1)
    ((live 1).tickStamp.setPort { LocalPort.reset with command := 0x0901, result := 0x0904 }) = true := by decide +kernel

/-! ## Local writes -/

theorem test_local_write : (live 1).portFree = true ∧ (live 1).window.wf = true ∧ (live 1).batchPath 2 = true
    ∧ (live 1).write.batch = none
    ∧ completes (.localWrite 0x41 0x1234) (live 1) (((live 1).tickStamp.setWrite { WriteUnit.reset with
        batch := some { block := 2, entries := [⟨1, 0x1234⟩], age := 0, due := false } }).setWindow [(0x41, 0x1234)])
      = true := by decide +kernel

theorem test_write_refused : State.reset.portFree = true ∧ State.reset.member.state ≠ .live
    ∧ completes (.localWrite 0x41 1) State.reset
      (State.reset.tickStamp.offer { cls := .writeRefused, block := some 2, detail := 1 }) = true := by decide +kernel

/-- A LIVE station whose block 2 is yielding, so that a write to it is held. -/
def yielding : State := (live 1).setEntry 2 { (live 1).entry 2 with yielding := true }

theorem test_write_held : yielding.portFree = true ∧ yielding.batchPath 2 = false ∧ yielding.claimSlot 2 = none
    ∧ yielding.heldBlocks.length < 4
    ∧ completes (.localWrite 0x41 7) yielding (yielding.tickStamp.setWrite { WriteUnit.reset with
        held := [{ addr := 0x41, value := 7 }] }) = true := by decide +kernel

/-- Sixteen held writes to the yielding block stand. -/
def heldFull : State := yielding.setWrite { WriteUnit.reset with
  held := (List.range 16).map (fun i => { addr := Fin.ofNat 8192 (0x40 + i), value := 1 }) }

theorem test_write_waits : heldFull.portFree = true ∧ 16 ≤ heldFull.write.held.length
    ∧ heldFull.batchPath 2 = false ∧ heldFull.claimSlot 2 = none ∧ (∀ h ∈ heldFull.write.held, h.addr ≠ 0x5F)
    ∧ completes (.localWrite 0x5F 7) heldFull (heldFull.tickStamp.setWrite { heldFull.write with
        waiting := some { addr := 0x5F, value := 7, waited := 0 } }) = true := by decide +kernel

/-- A write waits, for a block that can be written now. -/
def waitingWrite : State := (live 1).setWrite { WriteUnit.reset with
  waiting := some { addr := 0x41, value := 7, waited := 8192 } }

theorem test_waiting_judged : waitingWrite.batchPath 2 = true
    ∧ completes .waitingWriteJudged waitingWrite ((waitingWrite.tickStamp.setWrite { WriteUnit.reset with
        batch := some { block := 2, entries := [⟨1, 7⟩], age := 0, due := false } }).setWindow [(0x41, 7)]) = true := by
  decide +kernel

theorem test_wait_limit : completes .waitLimit waitingWrite ((waitingWrite.tickStamp.setWrite WriteUnit.reset).offer
    { cls := .writeDropped, block := some 2, detail := 1 }) = true := by decide +kernel

/-- A batch of one word of block 2, of the given age. -/
def batched (age : Nat) (due : Bool) : State := (group 1).setWrite { WriteUnit.reset with
  batch := some { block := 2, entries := [⟨1, 7⟩], age := age, due := due } }

/-- The replay queue holds 28 general frames, none of them sent. -/
def generals : List ReplayEntry := (List.range 28).map (fun i =>
  entryOf ⟨1, 0, BitVec.ofNat 8 i, .handover 2 [⟨7, 1, 0⟩]⟩ false none)

/-- No general slot is free, and no receiver of the queue is missing (station 2 has receipted nothing). -/
def noRoom (s : State) : State :=
  (s.setPeer 2 { livePeer with receipt := none }).setSeq { s.seq with queue := generals, next := 28 }

theorem test_batch_hold : (batched 128 false).freeGeneral = true
    ∧ completes .batchHold (batched 128 false) (batched 128 false).tickStamp.closeBatch = true := by decide +kernel

theorem test_batch_due : (noRoom (batched 128 false)).freeGeneral = false
    ∧ completes .batchHold (noRoom (batched 128 false)) ((noRoom (batched 128 false)).tickStamp.setWrite
        { WriteUnit.reset with batch := some { block := 2, entries := [⟨1, 7⟩], age := 128, due := true } }) = true := by
  decide +kernel

/-- The state a COMMIT begins from. -/
def committing (s : State) : State := s.tickStamp.setPort { s.port with command := 0x0100, result := 0x0101 }

theorem test_commit : completes (.commit 0) (batched 5 false) (committing (batched 5 false)).closeBatch = true
    ∧ completes (.commit 0) (noRoom (batched 5 false)) ((committing (noRoom (batched 5 false))).setWrite
        { WriteUnit.reset with batch := some { block := 2, entries := [⟨1, 7⟩], age := 5, due := true } }) = true := by
  decide +kernel

theorem test_due_batch : completes .dueBatchClose (batched 5 true) (batched 5 true).tickStamp.closeBatch = true := by
  decide +kernel

/-- A held write of an owned, CURRENT block that yields no more. -/
def awaiting : State := (group 1).setWrite { WriteUnit.reset with held := [{ addr := 0x41, value := 7 }] }

theorem test_held_commit : awaiting.write.batch = none ∧ awaiting.awaitingCommit 2 = true ∧ awaiting.freeGeneral = true
    ∧ completes (.heldWriteCommit 2) awaiting (((awaiting.tickStamp.setWindow [(0x41, 7)]).setWrite
        { WriteUnit.reset with batch := some { block := 2, entries := [⟨1, 7⟩], age := 0, due := false } }).closeBatch)
      = true := by decide +kernel

theorem test_held_commit_due : (noRoom awaiting).awaitingCommit 2 = true
    ∧ completes (.heldWriteCommit 2) (noRoom awaiting) ((((noRoom awaiting).tickStamp.setWindow [(0x41, 7)]).setWrite
        { WriteUnit.reset with batch := some { block := 2, entries := [⟨1, 7⟩], age := 0, due := true } })) = true := by
  decide +kernel

/-! ## Claims and handovers -/

/-- Station 1 of the group, block 5 owned by station 2. -/
def borrower : State := lent (group 1) 5 2

theorem test_claim : borrower.portFree = true ∧ borrower.member.state = .live ∧ borrower.owned 5 = false
    ∧ borrower.orphan 5 = false ∧ borrower.claimSlot 5 = none
    ∧ completes (.claim 5) borrower (((borrower.tickStamp.setPort { LocalPort.reset with
        command := 0x0205, result := 0x0201 }).setClaim { ClaimUnit.reset with
        slots := [{ block := 5, target := 2, attempt := 1, timer := some 0, held := false }] }).makeDue (.claim 5 1) 2)
      = true := by decide +kernel

/-- A claim slot for block 5 at its timeout. -/
def claiming (attempt : Nat) (held : Bool) : State := borrower.setClaim { ClaimUnit.reset with
  slots := [{ block := 5, target := 2, attempt := attempt, timer := some 1024, held := held }] }

/-- The same with a held write. -/
def claimingHeld : State := (claiming 8 true).setWrite { WriteUnit.reset with held := [{ addr := 0xA1, value := 7 }] }

theorem test_claim_abandoned : ((claiming 8 false).claimSlot 5).isSome = true
    ∧ completes (.claimTimeout 5) (claiming 8 false) ((claiming 8 false).tickStamp.closeClaim 5) = true
    ∧ completes (.claimTimeout 5) claimingHeld ((claimingHeld.tickStamp.closeClaim 5).discardHeld 5) = true := by
  decide +kernel

theorem test_claim_retried : (claiming 3 false).orphan 5 = false
    ∧ completes (.claimTimeout 5) (claiming 3 false) (((claiming 3 false).tickStamp.setClaim { ClaimUnit.reset with
        slots := [{ block := 5, target := 2, attempt := 4, timer := some 0, held := false }] }).makeDue (.claim 5 4) 2)
      = true := by decide +kernel

theorem test_discard_held : let s := claimingHeld.setWrite { WriteUnit.reset with held := [⟨0xA1, 7⟩, ⟨0x61, 8⟩, ⟨0xA2, 9⟩] }
    same (s.discardHeld 5) ((s.setWrite { WriteUnit.reset with held := [⟨0x61, 8⟩] }).offer
      { cls := .writesDiscarded, block := some 5, detail := 2 }) = true ∧ same (s.discardHeld 6) s = true := by decide +kernel

/-- A held write for block 5 that no slot is open for. -/
def wantingSlot : State := borrower.setWrite { WriteUnit.reset with held := [{ addr := 0xA1, value := 7 }] }

theorem test_slot_granted : wantingSlot.wanting = [5] ∧ wantingSlot.claim.slots.length < 4
    ∧ completes .claimSlotGrant wantingSlot (wantingSlot.tickStamp.openClaim 5 true) = true := by decide +kernel

theorem test_handover_premise : ([3, 4] : List Block).Nodup ∧ (((group 1).handOver 2 [3, 4]).entry 3).owner = 2
    ∧ ((group 1).handOver 2 [3, 4]).seq.next = 1 := by decide +kernel

/-- Station 2 claims block 3, which yields. -/
def claimed : State := ((group 1).setEntry 3 { (group 1).entry 3 with yielding := true }).setClaim
  { ClaimUnit.reset with list := [(3, 2)] }

theorem test_serve : claimed.servedClaimant = some 2 ∧ claimed.freeGeneral = true
    ∧ completes .handoverServe claimed (claimed.tickStamp.handOver 2 [3]) = true := by decide +kernel

/-- Blocks 3 and 4 of station 1 yield to stations 2 and 3, writes to both held, that to block 4 first; one claim slot is
free. -/
def givingTwo : State :=
  let s := (([3, 4] : List Block).foldl (fun (s : State) b => s.setEntry b { s.entry b with yielding := true }) (group 1)).setClaim
    { ClaimUnit.reset with
      list := [(3, 2), (4, 3)], slots := ([5, 6, 7] : List Block).map (fun b => ⟨b, 2, 1, some 0, false⟩) }
  (lent (lent (lent s 5 2) 6 2) 7 2).setWrite { WriteUnit.reset with held := [⟨0x81, 7⟩, ⟨0x61, 7⟩] }

/-- The block handed first asks first (R41, R51, R52). -/
theorem test_handovers_grant : givingTwo.servedClaimant = some 2
    ∧ goesOnFrom .handoverServe givingTwo (givingTwo.tickStamp.handOver 2 [3]) = true
    ∧ (givingTwo.handOver 2 [3]).claim.slots.map ClaimSlot.block = [5, 6, 7, 3]
    ∧ (givingTwo.handOver 2 [3, 4]).claim.slots.map ClaimSlot.block = [5, 6, 7, 4]
    ∧ givingTwo.quiesce.claim.slots.map ClaimSlot.block = [5, 6, 7, 3] ∧ givingTwo.quiesce.seq.queue.length = 2 := by
  decide +kernel

theorem test_grant_slot : (wantingSlot.claimSlot 5 = none ∧ wantingSlot.owned 5 = false ∧ (wantingSlot.entry 5).owner ≠ 0)
    ∧ same wantingSlot.grantSlot (wantingSlot.openClaim 5 true) = true
    ∧ borrower.write.held = [] ∧ same borrower.grantSlot borrower = true := by decide +kernel

/-- Station 2 of the group, LEAVING, every block but 3 owned by station 1. -/
def leaver : State :=
  let s := (group 2).setDir (Vector.replicate 256 (DirEntry.founded 1))
  lent (s.setMember { s.member with state := .leaving }) 3 2

theorem test_ready : claimed.servable 3 = true ∧ claimed.firstClaimant 3 = some 2 ∧ claimed.servable 4 = false
    ∧ leaver.handable 3 = true ∧ leaver.handable 4 = false ∧ firstWith leaver.handable 16 blocks = [3] := by decide +kernel

theorem test_heir : leaver.heirReady = true ∧ leaver.freeGeneral = true
    ∧ completes .heirHandover leaver (leaver.tickStamp.handOver 1 [3]) = true := by decide +kernel

/-! ## Replay and receipts -/

/-- An UPDATE of this station, sent. -/
def sentUpdate (n : Station) (timer : Option Nat) : ReplayEntry :=
  entryOf ⟨n, 0, 0, .update 3 0 1 [⟨0, 1⟩]⟩ true timer

/-- A state with that UPDATE alone in its queue. -/
def updated (s : State) (timer : Option Nat) : State :=
  s.setSeq { s.seq with queue := [sentUpdate s.member.own timer], next := 1 }

theorem test_replay : completes .replayTimeout (updated (group 1) (some 512))
    ((updated (group 1) (some 512)).tickStamp.setSeq { (updated (group 1) (some 512)).seq with
      queue := [{ sentUpdate 1 none with marked := true, count := 1 }] }) = true
    ∧ (updated (group 1) none).headReceipted = false := by decide +kernel

theorem test_receipt_age : let s := (group 1).setSeq { SeqUnit.reset with owed := true, accepted := 1, age := some 64 }
    completes .receiptAgeLimit s (s.tickStamp.setSeq { s.seq with urgent := true }) = true := by decide +kernel

/-! ## Membership -/

/-- The listening station's timer at 4H. -/
def listened : State := State.reset.setMember { State.reset.member with listen := some 8192 }

theorem test_listen : listened.member.state = .listening ∧ listened.log.offered = []
    ∧ listened.tickStamp.found.closes.log.records = [⟨0, 0, { cls := .founded }⟩]
    ∧ completes .listenTimeout listened listened.tickStamp.found = true := by decide +kernel

/-- The joining station. -/
def joiner : State := State.reset.setMember { State.reset.member with state := .joining, join := some 2048 }

theorem test_join_timer : completes .joinTimeout joiner ((joiner.tickStamp.setMember
    { joiner.member with join := some 0 }).makeDue .join 0) = true := by decide +kernel

/-- The departed station. -/
def departed : State := State.reset.setMember { State.reset.member with state := .departed, listen := none }

theorem test_rejoin : departed.portFree = true
    ∧ completes (.rejoin 0) departed ((departed.tickStamp.setPort { LocalPort.reset with
        command := 0x0500, result := 0x0501 }).setMember { departed.member with
        state := .listening, listen := some 0 }) = true := by decide +kernel

/-- Station 3 has been silent for 3H. -/
def silent : State := (group 1).setPeer 3 { livePeer with silence := some 6144 }

theorem test_silence : silent.untroubled = true ∧ silent.claim = ClaimUnit.reset ∧ silent.freeEntry = true
    ∧ silent.member.registrar = 1
    ∧ completes (.silenceTimeout 3) silent ((((silent.tickStamp.setPeer 3
        { Peer.empty with state := .excluded }).dropAnswers 3).offer
          { cls := .peerExcluded, peer := some 3, detail := 1 }).enqueue (.exclude 3 .silence)) = true := by decide +kernel

/-- An EXCLUDE of station 3 waits. -/
def waitingExclude : State := (group 1).setMember { (group 1).member with waitingExcludes := [(3, .silence)] }

theorem test_waiting_exclude : waitingExclude.freeEntry = true
    ∧ waitingExclude.member.waitingExcludes.find? (fun w => w.1 = 3) = some (3, .silence)
    ∧ completes (.waitingExcludeEnqueue 3) waitingExclude ((waitingExclude.tickStamp.setMember
        (group 1).member).enqueue (.exclude 3 .silence)) = true := by decide +kernel

theorem test_teardown : ((group 1).teardown .departed).member.registrar = 0
    ∧ ((group 1).teardown .departed).log.offered = [] := by decide +kernel

/-- A batch of block 2 with two words is open, a write waits, and this is held. -/
def laden (held : List HeldWrite) : State := (group 2).setWrite { WriteUnit.reset with
  batch := some { block := 2, entries := [⟨1, 7⟩, ⟨2, 7⟩], age := 0, due := true }, held := held, waiting := some ⟨0x41, 9, 3⟩ }

theorem test_teardown_incidents :
    ((laden []).teardown .isolated).log.offered = [(.write, { cls := .writeRefused, block := some 2, detail := 7 }),
      (.write, { cls := .writesDiscarded, block := some 2, detail := 2 })]
    ∧ ((laden [⟨0x61, 1⟩]).teardown .halted).log.offered = [(.write, { cls := .writeRefused, block := some 2, detail := 8 }),
      (.write, { cls := .writesDiscarded, block := none, detail := 3 })] := by decide +kernel

theorem test_leave_listening : completes (.leave 0) State.reset (((State.reset.tickStamp.setPort { LocalPort.reset with
    command := 0x0400, result := 0x0401 }).offer { cls := .departed }).teardown .departed) = true := by decide +kernel

/-- Station 2, which owns block 3 alone, STALE under a hold. -/
def leaving2 : State :=
  let s := ((group 2).setDir (Vector.replicate 256 (DirEntry.founded 1))).setCopyUnit { CopyUnit.reset with holds := [(3, 0)] }
  s.setEntry 3 { s.entry 3 with owner := 2, copy := .stale }

theorem test_leave_live : leaving2.portFree = true ∧ leaving2.untroubled = true ∧ leaving2.member.registrar = 1
    ∧ completes (.leave 0) leaving2 ((leaving2.tickStamp.setPort { LocalPort.reset with
        command := 0x0400, result := 0x0401 }).setMember { leaving2.member with
        state := .leaving, urgentStatus := true }) = true := by decide +kernel

/-- Station 2, LIVE, owning blocks 2 and 4 alone, block 4 yielding to a claim, with a batch of block 2 and these writes
held. -/
def leavingBusy (held : List HeldWrite) : State :=
  let s := lent ((group 2).setDir (Vector.replicate 256 (DirEntry.founded 1))) 2 2
  let s := (s.setEntry 4 { s.entry 4 with owner := 2, yielding := true }).setClaim
    { ClaimUnit.reset with list := [(4, 3)], slots := [⟨5, 1, 1, some 0, false⟩] }
  s.setWrite { WriteUnit.reset with
    batch := some { block := 2, entries := [⟨1, 7⟩], age := 0, due := false }, held := held }

/-- What enters LEAVING. -/
def leaves (s : State) : State :=
  (s.tickStamp.setPort { LocalPort.reset with command := 0x0400, result := 0x0401 }).enterLeaving

theorem test_leave_busy : let s := leavingBusy [⟨0x81, 1⟩, ⟨0xA1, 1⟩]
    let t := leaves s
    s.portFree = true ∧ s.member.state = .live ∧ s.freeGeneral = true ∧ t.member.registrar = 1
    ∧ t.claim = ClaimUnit.reset ∧ t.write = WriteUnit.reset ∧ t.seq = s.closeBatch.seq ∧ (t.entry 2).version = 1
    ∧ (t.entry 4).yielding = false
    ∧ t.log.offered = [(.write, { cls := .writesDiscarded, block := none, detail := 2 })] := by decide +kernel

theorem test_leave_full : let s := noRoom (leavingBusy [⟨0x81, 1⟩])
    let t := leaves s
    s.freeGeneral = false ∧ t.seq = s.seq ∧ (t.write.batch.map OpenBatch.due) = some true ∧ (t.entry 2).version = 0
    ∧ t.log.offered = [(.write, { cls := .writesDiscarded, block := some 4, detail := 1 })] := by decide +kernel

/-- Station 2 in CATCHUP, its replay queue full where told so, these EXCLUDEs waiting. -/
def leavingEarly (full : Bool) (waits : List (Station × Cause)) : State :=
  let s := (group 2).setMember { (group 2).member with state := .catchup, waitingExcludes := waits }
  if full then (s.setPeer 1 { livePeer with receipt := none }).setSeq { s.seq with
    queue := (List.range 32).map (fun i => entryOf ⟨2, 0, BitVec.ofNat 8 i, .exclude 4 .leave⟩ false none), next := 32 } else s

/-- COMMAND LEAVE at it: leave pending, with these EXCLUDEs waiting. -/
def pends (s : State) (waits : List (Station × Cause)) : State :=
  (s.tickStamp.setPort { LocalPort.reset with command := 0x0400, result := 0x0401 }).setMember { s.member with
    leavePending := true, waitingExcludes := waits }

theorem test_leave_catchup : (leavingEarly false []).freeEntry = true ∧ (leavingEarly true []).freeEntry = false
    ∧ settles (.leave 0) (leavingEarly false []) ((pends (leavingEarly false []) []).enqueue (.exclude 2 .leave)) = true
    ∧ settles (.leave 0) (leavingEarly true []) (pends (leavingEarly true []) [(2, .leave)]) = true
    ∧ settles (.leave 0) (leavingEarly true [(2, .leave)]) (pends (leavingEarly true []) [(2, .leave)]) = true := by
  decide +kernel

/-- Station 2, LEAVING, owning nothing. -/
def leaverBare : State := lent leaver 3 1

theorem test_leave_exclude : leaverBare.asksLeave = true
    ∧ completes .leaveExcludeRequest leaverBare (leaverBare.tickStamp.enqueue (.exclude 2 .leave)) = true := by
  decide +kernel

/-- The same with no heir. -/
def leaverAlone : State := leaverBare.setMember { leaverBare.member with registrar := 0 }

/-- The same with its own EXCLUDE at the head, receipted by both peers. -/
def leaverDone : State :=
  ((leaverBare.setPeer 1 { livePeer with receipt := some 1 }).setPeer 3 { livePeer with receipt := some 1 }).setSeq
    { SeqUnit.reset with queue := [entryOf ⟨2, 0, 0, .exclude 2 .leave⟩ true none], next := 1 }

theorem test_departure : leaverAlone.departsAlone = true ∧ leaverDone.departsAlone = false
    ∧ leaverDone.ownExcludeReceipted = true
    ∧ completes .departureEnd leaverAlone ((leaverAlone.tickStamp.offer { cls := .departed }).teardown .departed) = true
    ∧ completes .departureEnd leaverDone ((leaverDone.tickStamp.dropHead.offer { cls := .departed }).teardown .departed)
      = true := by decide +kernel

/-! ## Catch-up and fetch -/

/-- A CATCHUP station 2 with parts missing. -/
def catching : State :=
  ((group 2).setMember { (group 2).member with state := .catchup }).setCopyUnit
    { CopyUnit.reset with missing := 0x0003, snapq := some 1024 }

theorem test_snapq_timer : completes .snapqTimeout catching ((catching.tickStamp.setCopyUnit
    { CopyUnit.reset with missing := 0x0003, snapq := some 0 }).makeDue (.snapq 0x0003) 1) = true := by decide +kernel

/-- Station 2 with block 5 of station 3 in copy state c. -/
def copying (c : CopyState) : State := (group 2).setEntry 5 { (group 2).entry 5 with owner := 3, copy := c }

theorem test_fetch_open : (copying .stale).nextFetch = some 5 ∧ (copying .stale).fetchSlot 5 = none
    ∧ (copying .stale).fetchSource 5 1 = 3
    ∧ completes .fetchSlotOpen (copying .stale) (((copying .fetching).tickStamp.setCopyUnit
        { CopyUnit.reset with slots := [⟨5, 3, 1, 0⟩] }).makeDue (.fetch 5) 3) = true := by decide +kernel

/-- Station 2 holds nobody LIVE but itself; block 5 is STALE, with donor d. -/
def sourceless (d : Option Station) : State :=
  let s := ((copying .stale).setPeer 1 { livePeer with state := .catchup }).setPeer 3 { livePeer with state := .catchup }
  (s.setMember { s.member with registrar := 2 }).setEntry 5 { s.entry 5 with donor := d }

theorem test_fetch_sourceless : (sourceless none).nextFetch = some 5 ∧ (sourceless none).fetchSource 5 1 = 0
    ∧ completes .fetchSlotOpen (sourceless none) (((sourceless none).tickStamp.setEntry 5
        { (sourceless none).entry 5 with copy := .fetching }).setCopyUnit { CopyUnit.reset with slots := [⟨5, 0, 1, 0⟩] }) = true := by
  decide +kernel

/-- Table 6-2, with donor 1 for block 5 of station 3 and without. -/
theorem test_fetch_table : let s := (copying .stale).setEntry 5 { (copying .stale).entry 5 with donor := some 1 }
    s.fetchSource 5 2 = 1 ∧ s.fetchSource 5 3 = 3 ∧ (copying .stale).fetchSource 5 2 = 3 ∧ (copying .stale).fetchSource 5 3 = 1
    ∧ (sourceless (some 1)).fetchSource 5 1 = 0 ∧ (copying .current).nextFetch = none
    ∧ ((copying .stale).setCopyUnit { CopyUnit.reset with holds := [(5, 3)] }).nextFetch = none := by decide +kernel

/-- Block 5 FETCHING at its timeout. -/
def fetching (attempt : Nat) : State :=
  (copying .fetching).setCopyUnit { CopyUnit.reset with slots := [⟨5, 3, attempt, 512⟩] }

theorem test_fetch_failed : completes (.fetchTimeout 5) (fetching 4) (((((fetching 4).tickStamp.setEntry 5
    ((copying .stale).entry 5)).setCopyUnit { CopyUnit.reset with holds := [(5, 0)] }).withdraw (.fetch 5)).offer
      { cls := .fetchFailed, peer := some 3, block := some 5, detail := 0 }) = true := by decide +kernel

theorem test_fetch_retried : (fetching 2).fetchSource 5 3 = 1
    ∧ completes (.fetchTimeout 5) (fetching 2) (((fetching 2).tickStamp.setCopyUnit
        { CopyUnit.reset with slots := [⟨5, 1, 3, 0⟩] }).makeDue (.fetch 5) 1) = true := by decide +kernel

/-- Four fetch slots open; block 5 in copy state c, under a hold of the given times. -/
def fullFetch (c : CopyState) (holds : List (Block × Nat)) : State :=
  ([6, 7, 8, 9] : List Block).foldl (fun s b =>
    (s.setEntry b { s.entry b with owner := 3, copy := .fetching }).setCopyUnit { s.copy with
      slots := s.copy.slots ++ [⟨b, 3, 1, 0⟩] })
    ((copying c).setCopyUnit { CopyUnit.reset with holds := holds })

theorem test_hold_end : completes (.holdEnd 5) (fullFetch .stale [(5, 2048)])
    ((fullFetch .stale [(5, 2048)]).tickStamp.setCopyUnit (fullFetch .stale []).copy) = true := by decide +kernel

theorem test_refresh : (fullFetch .current []).portFree = true ∧ (fullFetch .current []).owned 5 = false
    ∧ completes (.refresh 5) (fullFetch .current []) ((fullFetch .stale []).tickStamp.setPort { LocalPort.reset with
        command := 0x0305, result := 0x0301 }) = true
    ∧ completes (.refresh 5) (fullFetch .stale [(5, 7)]) ((fullFetch .stale []).tickStamp.setPort { LocalPort.reset with
        command := 0x0305, result := 0x0301 }) = true := by decide +kernel

/-! ## Settlement, audit and heartbeat -/

/-- Station 3 is EXCLUDED, and block 5 is its orphan. -/
def orphaned : State := lent ((group 1).setPeer 3 { Peer.empty with state := .excluded }) 5 3

/-- The job over it, its QUERY sent; station 2 and others are asked. -/
def querying (others : List Station) : SettleUnit := { SettleUnit.reset with
  job := .querying, round := 1, orphans := [5]
  answerers := (2 :: others).map (fun p => { station := p, answered := false, next := some 5 })
  queries := 1, queryTimer := some 0, table := [SettleRecord.empty 5] }

theorem test_job_start : orphaned.jobWanted = true ∧ orphaned.orphans = [5]
    ∧ completes .settleJobStart orphaned ((orphaned.tickStamp.setSettle (querying [])).makeDue
        (.query 1 (bitmapOf (fun b => decide (b ∈ [5])))) 0) = true := by decide +kernel

theorem test_query_timer : let s := orphaned.setSettle { querying [] with queryTimer := some 1024 }
    completes .queryTimeout s ((s.tickStamp.setSettle { querying [] with queries := 2 }).makeDue
      (.query 1 (bitmapOf (fun b => decide (b ∈ [5])))) 0) = true := by decide +kernel

/-- The decision: block 5 comes to this station. -/
def announcing : State := orphaned.setSettle { SettleUnit.reset with
  job := .announcing, round := 1, announce := [⟨5, 1, 1, 0, 2⟩] }

theorem test_settle_enqueue : announcing.freeEntry = true
    ∧ completes .settleEnqueue announcing (((((announcing.tickStamp.enqueue (.settle 1 [⟨5, 1, 1, 0, 2⟩])).setSettle
        { announcing.settle with announce := [], announced := 1 }).settleEntry 1 ⟨5, 1, 1, 0, 2⟩).clearJob).offer
          { cls := .settled, detail := 1 }) = true := by decide +kernel

theorem test_deference : let s := (group 2).setSettle { SettleUnit.reset with deference := some 4096 }
    completes .deferenceEnd s (s.tickStamp.setSettle SettleUnit.reset) = true := by decide +kernel

theorem test_digest_timer : let s := (group 2).setAudit { AuditUnit.reset with timer := some 512 }
    completes .digestTimeout s (s.tickStamp.setAudit { AuditUnit.reset with due := true }) = true := by decide +kernel

theorem test_heartbeat : let s := (group 2).setSelect { Selector.reset with heartbeat := some 2048 }
    completes .heartbeatTimeout s s.tickStamp = true
    ∧ s.tickStamp.closes.select.current = some ⟨2, 0, 0, s.statusPayload .live⟩ := by decide +kernel

/-! ## Lanes -/

theorem test_abort_mark : ((group 1).lane .A).hears = true
    ∧ completes (.abortMarkReceived .A) (group 1) ((group 1).tickStamp.setLane .A { Lane.reset .up with
        spaceRun := 12, line := [.space] })
      = true := by decide +kernel

/-- Lane A is held at space for more than 64 ct. -/
def stuck : State := (group 1).setLane .A { Lane.reset .up with spaceRun := 650 }

theorem test_stuck_line : (stuck.lane .A).hears = true ∧ stuck.laneUp .B = true
    ∧ completes (.stuckLine .A) stuck (((stuck.tickStamp.setLane .A { Lane.reset .down with
        rest := some 0 }).markDone .A).offer { cls := .laneDown, lane := some .A, detail := 2 }) = true := by
  decide +kernel

/-- Lane B in the state given. -/
def laneB (l : Lane) : State := (group 1).setLane .B l

/-- Lane B, in PROBATION, is held at space. -/
def stuckB : State := laneB { Lane.reset .probation with spaceRun := 641 }

theorem test_stuck_probation : (stuckB.lane .B).hears = true
    ∧ completes (.stuckLine .B) stuckB ((((group 1).tickStamp.setLane .B { Lane.reset .down with
        rest := some 0 }).markDone .B).offer { cls := .laneDown, lane := some .B, detail := 2 }) = true := by
  decide +kernel

/-- Lane A, held at space, is the last UP. -/
def stuckAlone : State := stuck.setLane .B { Lane.reset .down with rest := some 0 }

theorem test_stuck_last : (stuckAlone.laneUp .B = false) ∧ stuckAlone.active = true
    ∧ (stuckAlone.laneDown .A 2).member.state = .isolated
    ∧ settles (.stuckLine .A) stuckAlone (stuckAlone.tickStamp.laneDown .A 2) = true := by decide +kernel

theorem test_last_listening : let s := State.reset.setLane .B (Lane.reset .off)
    s.member.state = .listening ∧ s.laneUp .B = false ∧ (s.laneDown .A 1).member.listen = none := by decide +kernel

theorem test_sample : (cleanChar 7).falseStart = false ∧ ({ cleanChar 7 with start := Triple.all true } : RxChar).falseStart
    = true ∧ (ready.sample (.char (cleanChar 7))).buffer.chars = [7]
    ∧ ((Lane.reset .up).sample (.char (cleanChar 7))).buffer = FrameBuffer.empty := by decide +kernel

/-- A lane whose last character had its stop bit at space, with a frame in progress. -/
def heldLane (n : Nat) : Lane := { ready with idle := 0, spaceRun := n, buffer := { FrameBuffer.empty with chars := [7], count := 1 } }

/-- A character time at space for n bits, at mark after them. -/
def spaceFor (n : Nat) : RxChar := { cleanChar (BitVec.ofNat 8 (256 - 2 ^ (n - 1))) with stop := Triple.all true }

/-- No start bit is looked for until the line is back at mark, and 12 bit times of space discard the frame (R141). -/
theorem test_wait_for_mark : (spaceFor 3).bits = List.replicate 3 (Triple.all false) ++ List.replicate 7 (Triple.all true)
    ∧ (heldLane 5).sample (.char (spaceFor 3)) = { heldLane 0 with idle := 0 }
    ∧ (heldLane 10).sample (.char (spaceFor 3)) = { ready with idle := 0 }
    ∧ (heldLane 10).sample .space = { ready with idle := 0, spaceRun := 20 }
    ∧ (heldLane 10).sample .mark = { heldLane 0 with idle := 1 } := by decide +kernel

theorem test_sample_ends : let c : RxChar := { cleanChar 0x80 with stop := Triple.all false }
    c.framing = true ∧ c.trailing = 1 ∧ { c with stop := ⟨true, false, false⟩ }.trailing = 1
    ∧ { c with stop := ⟨false, false, true⟩ }.trailing = 0 ∧ (ready.sample (.char c)).spaceRun = 1 ∧ (ready.sample (.char c)).buffer.fault = true
    ∧ ready.sample (.char { cleanChar 0xFF with start := Triple.all true }) = ready.sample .mark
    ∧ (ready.sample .space).sample .space = { ready with idle := 0, spaceRun := 20 } := by decide +kernel

/-- Twenty bit times of space are an abort mark, not a framing fault (R141). -/
theorem test_abort_in_chars : (⟨.A, [heldChar, heldChar], []⟩ : RxFrame).buffer = FrameBuffer.empty
    ∧ (⟨.A, [heldChar], []⟩ : RxFrame).buffer.framing = true
    ∧ completes (.badFrameReceived ⟨.A, [heldChar, heldChar], []⟩) (group 1) (group 1).tickStamp = true := by decide +kernel

theorem test_rest_end : completes (.laneRestEnd .B) (laneB { Lane.reset .down with score := 64, rest := some 65536 })
    ((laneB (Lane.reset .probation)).tickStamp) = true := by decide +kernel

/-- A controller of lane B at work on sampleFrame. -/
def sending (access : AccessState) (attempt progress abortTime idle : Nat) : State :=
  ((laneB { Lane.reset .up with
    access := access, attempt := attempt, progress := progress, abortTime := abortTime, idle := idle })).setSelect
      { Selector.reset with current := some sampleFrame, doneA := true, doneB := false }

theorem test_attempt_start : completes (.attemptStart .B) (sending .deferring 1 0 0 3)
    (sending .sending 1 0 0 3).tickStamp = true := by decide +kernel

theorem test_collision : collides ((sending .sending 1 2 0 0).lastSent .B) (some (cleanChar 0x31)) = true
    ∧ completes (.collision .B (some (cleanChar 0x31))) (sending .sending 1 2 0 0) (sending .aborting 1 0 0 0).tickStamp
      = true := by decide +kernel

theorem test_abort_end : completes (.abortMarkEnd .B) (sending .aborting 2 0 2 0)
    ((sending .deferring 3 0 0 0).tickStamp.setLane .B { (sending .deferring 3 0 0 0).laneB with
      required := 3 + (1 + 7 * 2) % 16 }) = true := by decide +kernel

theorem test_abandoned : completes (.abortMarkEnd .B) (sending .aborting 16 0 2 0)
    (((sending .idle 0 0 0 0).tickStamp.setLane .B { Lane.reset .up with score := 8 }).markDone .B) = true := by
  decide +kernel

/-- The sixteenth attempt has collided on a lane of score 56. -/
def worn : State := (sending .aborting 16 0 2 0).setLane .B { (sending .aborting 16 0 2 0).laneB with score := 56 }

theorem test_abandoned_down : (worn.lane .B).receives = true
    ∧ settles (.abortMarkEnd .B) worn (((worn.tickStamp.setLane .B { Lane.reset .up with score := 64 }).markDone .B).laneDown
        .B 1) = true := by decide +kernel

/-- The whole of sampleFrame is sent, and its last character read back. -/
def sentWhole : State := (sending .sending 1 8 0 0).setLane .B { (sending .sending 1 8 0 0).laneB with
  readback := some (cleanChar (sampleFrame.bytes.getD 7 0)) }

theorem test_frame_sent : sentWhole.currentLength = 8
    ∧ collides (sentWhole.lastSent .B) (sentWhole.lane .B).readback = false
    ∧ completes (.frameSent .B) sentWhole ((sending .idle 0 0 0 0).tickStamp.markDone .B) = true := by decide +kernel

/-- Lane B of a state after n character times with nothing told. -/
def onB (s : State) (n : Nat) : Lane := (List.range n).foldl (fun lane _ => lane.tick (s.sending .B)) (s.lane .B)

/-- A frame in progress of n characters. -/
def partOf (n : Nat) (own : Nat) : FrameBuffer :=
  { FrameBuffer.empty with chars := sampleFrame.bytes.take n, count := n, own := own }

/-- Lane B sends sampleFrame, n of its characters read back. -/
def sendingPart (n : Nat) : State := (sending .sending 1 n 0 0).setLane .B { (sending .sending 1 n 0 0).laneB with
  buffer := partOf n 0, readback := some (cleanChar (sampleFrame.bytes.getD (n - 1) 0)) }

/-- What is read back goes into the frame in progress, from the first character on; a collision discards it (R139, R150). -/
theorem test_readback : (onB ((sending .sending 1 0 0 3)) 1).buffer = partOf 1 0
    ∧ (onB (sendingPart 3) 1).buffer = partOf 4 0 ∧ ((sendingPart 3).lane .B).receives = true
    ∧ ((sendingPart 3).lane .B).abort.buffer = FrameBuffer.empty := by decide +kernel

/-- A frame cut off ends as a bad one after 2 ct, a frame sent whole as none (R144, R151). -/
theorem test_cut_off : let cut := ((sendingPart 3).isolate).lane .B
    let whole := ((sendingPart 8).isolate).lane .B
    cut.buffer = partOf 3 0 ∧ ((cut.tick 0).tick 0).buffer = partOf 3 0 ∧ (partOf 3 0).verdict = some .length
    ∧ whole.buffer = partOf 8 8 ∧ (whole.tick 0).buffer = partOf 8 8 ∧ ((whole.tick 0).tick 0).buffer = FrameBuffer.empty := by
  decide +kernel

theorem test_cut_off_weighs : let s := laneB { ready with buffer := partOf 3 0 }
    (s.lane .B).hears = true ∧ completes (.badFrameReceived ⟨.B, [], []⟩) s
      (s.tickStamp.setLane .B { ready with score := 4 }) = true := by decide +kernel

theorem test_sent_whole : completes (.frameSent .B) (sendingPart 8) (((sendingPart 8).tickStamp.setLane .B
    { Lane.reset .up with buffer := partOf 8 8 }).markDone .B) = true := by decide +kernel

theorem test_tx : (sending .aborting 1 0 0 0).txPin .B 4 = false ∧ (sending .deferring 1 0 0 0).txPin .B 4 = true
    ∧ (List.finRange 10).map ((sending .sending 1 0 0 0).txPin .B)
      = [false, true, true, true, false, false, false, false, false, true] := by decide +kernel

theorem test_bad_frame : ((group 1).lane .A).hears = true ∧ ((group 1).lane .A).awaitsFrame = true
    ∧ 0 < sampleBad.buffer.count ∧ sampleBad.buffer.verdict = some .crc
    ∧ completes (.badFrameReceived sampleBad) (group 1)
      ((group 1).tickStamp.setLane .A { Lane.reset .up with score := 4, idle := 2 }) = true := by decide +kernel

theorem test_bad_frame_down : let s := (group 1).setLane .A { ready with score := 60 }
    settles (.badFrameReceived sampleBad) s ((s.tickStamp.setLane .A { ready with score := 64 }).laneDown .A 1) = true := by
  decide +kernel

theorem test_probation_frame : (cleanFrame .B sampleFrame).buffer.verdict = none
    ∧ completes (.probationFrameReceived (cleanFrame .B sampleFrame))
      (laneB { Lane.reset .probation with score := 9, idle := 2 })
      ((group 1).tickStamp.setLane .B { Lane.reset .probation with score := 8, good := 1, idle := 2 }) = true := by
  decide +kernel

theorem test_probation_ends :
    let s := laneB { Lane.reset .probation with score := 9, idle := 2, good := 31 }
    s.anyLaneUp = true ∧ settles (.probationFrameReceived (cleanFrame .B sampleFrame)) s
      ((s.tickStamp.setLane .B { ready with score := 8 }).offer { cls := .laneUp, lane := some .B }) = true := by
  decide +kernel

/-- No lane is UP: A is OFF and B in PROBATION; the station is in the state given. -/
def dark (st : StationState) : State :=
  ((State.reset.setLane .A (Lane.reset .off)).setLane .B (Lane.reset .probation)).setMember
    { State.reset.member with state := st, listen := none }

theorem test_lane_returns : (dark .isolated).anyLaneUp = false
    ∧ ((dark .isolated).laneReturn .B).member.state = .listening
    ∧ ((dark .listening).laneReturn .B).member.listen = some 0
    ∧ ((dark .joining).laneReturn .B).select.requests ≠ [] ∧ ((dark .halted).laneReturn .B).member.state = .halted := by
  decide +kernel

/-! ## Frames received -/

/-- The receiver of a good frame of p on lane A, its entry for p as given. -/
def heardFrom (s : State) (p : Station) (x : Peer) : State :=
  (s.tickStamp.setLane .A { Lane.reset .up with idle := 2 }).setPeer p x

/-- A station that owes its first receipt since the last STATUS. -/
def owing (s : State) : State := s.setSeq { s.seq with owed := true, accepted := 1, age := some 0 }

/-- The row i brings frame f on lane A to s, which hears it and answers t. -/
def receives (i : RxFrame → Instr) (f : Frame) (s t : State) : Bool :=
  s.hearsFrame .A f && (i (cleanFrame .A f)).wellFormed && completes (i (cleanFrame .A f)) s t

theorem test_status : receives .statusReceived
    ⟨2, 0, 0, .status .live 0x000E 0 0x000A (4 :: List.replicate 14 0) []⟩ (group 1)
    (heardFrom (group 1) 2 { livePeer with receipt := some 4 }) = true := by decide +kernel

/-- Station 1, block 3 claimed by station 2 alone and yielding, block 4 by both others, its UPDATE queued. -/
def claimedTwice : State :=
  let s := (group 1).setSeq { SeqUnit.reset with queue := [entryOf ⟨1, 0, 0, .update 4 0 1 [⟨0, 1⟩]⟩ true none], next := 1 }
  let s := s.setEntry 3 { s.entry 3 with yielding := true }
  (s.setEntry 4 { s.entry 4 with yielding := true }).setClaim { ClaimUnit.reset with list := [(3, 2), (4, 2), (4, 3)] }

/-- Whether the row brings frame f to s, which hears it, and answers a state like t in what f tells of. -/
def bringsTo (i : RxFrame → Instr) (f : Frame) (s : State) (t : State → Bool) : Bool :=
  s.hearsFrame .A f && (match exec (i (cleanFrame .A f)) s with | .next u => t u | .fault _ => false | .refused _ => false)

/-- A member's STATUS shows LEAVING, or shows LIVE where it was CATCHUP (R88, R91, R49). -/
theorem test_status_changes : bringsTo .statusReceived
      ⟨2, 0, 0, .status .leaving 0x000E 0 0x000A (4 :: List.replicate 14 0) []⟩ claimedTwice (fun t =>
        decide (t.peer 2 = { livePeer with state := .leaving, receipt := some 4 })
          && decide (t.claim.list = [(4, 3)]) && !(t.entry 3).yielding && (t.entry 4).yielding) = true
    ∧ bringsTo .statusReceived ⟨1, 0, 0, .status .live 0x000E 0 0 (List.replicate 15 0) []⟩
      (((group 2).setPeer 1 { livePeer with state := .catchup }).setMember { (group 2).member with
        registrar := 2, peers := ((group 2).setPeer 1 { livePeer with state := .catchup }).member.peers }) (fun t =>
          decide (t.member.registrar = 1) && decide ((t.peer 1).state = .live)) = true := by decide +kernel

/-- A welcome pair is adopted where the expectation is unknown (R73). -/
theorem test_status_welcome : let s := (group 1).setPeer 2 { livePeer with expect := none }
    receives .statusReceived ⟨2, 0, 0, .status .live 0x000E 0 0x000A (4 :: List.replicate 14 0) [(1, 9), (3, 8)]⟩ s
      ((heardFrom s 2 { livePeer with receipt := some 4, expect := some 9 }).setSeq { SeqUnit.reset with
        owed := true, urgent := true, age := some 0 }) = true := by decide +kernel

/-- The rows of Table 5-5 that admit nobody, and a station that is not registrar. -/
theorem test_join_ignored : let f := fun j : Station => cleanFrame .A ⟨j, 0, 0, .join⟩
    let s := (group 1).setSeq { SeqUnit.reset with queue := [entryOf ⟨1, 0, 0, .admission 4 0x001E⟩ true (some 0)], next := 1 }
    s.admitQueued 4 = true ∧ settles (.joinReceived (f 4)) s (s.carried .A 4) = true
    ∧ settles (.joinReceived (f 4)) (lent (group 1) 5 4) ((lent (group 1) 5 4).carried .A 4) = true
    ∧ settles (.joinReceived (f 4)) (group 2) ((group 2).carried .A 4) = true := by decide +kernel

theorem test_join_full : let s := noRoom (group 1)
    let full := s.setSeq { s.seq with queue := generals ++ (List.range 4).map (fun i =>
      entryOf ⟨1, 0, BitVec.ofNat 8 (28 + i), .exclude 7 .silence⟩ false none), next := 32 }
    full.freeEntry = false ∧ full.ownsAny 4 = false
    ∧ settles (.joinReceived (cleanFrame .A ⟨4, 0, 0, .join⟩)) full (full.carried .A 4) = true := by decide +kernel

theorem test_rejoin_excludes : (group 1).isMember 3 = true ∧ receives .joinReceived ⟨3, 0, 0, .join⟩ (group 1)
    (((((group 1).carried .A 3).setPeer 3 { Peer.empty with state := .excluded }).offer
      { cls := .peerExcluded, peer := some 3, detail := 5 }).enqueue (.exclude 3 .rejoin)) = true := by decide +kernel

theorem test_join : (group 1).untroubled = true ∧ (group 1).isRegistrar = true ∧ (group 1).isMember 4 = false
    ∧ (group 1).admitQueued 4 = false ∧ (group 1).ownsAny 4 = false ∧ (group 1).freeEntry = true
    ∧ receives .joinReceived ⟨4, 0, 0, .join⟩ (group 1) ((heardFrom (group 1) 4 { livePeer with
        state := .catchup, receipt := none, includesUs := false }).enqueue (.admission 4 0x001E)) = true := by decide +kernel

theorem test_admit : (group 2).untroubled = true ∧ (group 2).isMember 4 = false
    ∧ receives .admitReceived ⟨1, 0, 0, .admission 4 0x001E⟩ (group 2)
      (let s := owing ((heardFrom (group 2) 1 { livePeer with expect := some 1 }).setPeer 4 { livePeer with
        state := .catchup, receipt := none, includesUs := false, welcome := true })
       s.setMember { s.member with urgentStatus := true }) = true := by decide +kernel

theorem test_update : (copying .current).window.wf = true
    ∧ receives .updateReceived ⟨3, 0, 0, .update 5 0 1 [⟨1, 7⟩]⟩ (copying .current)
      (let s := (owing (heardFrom (copying .current) 3 { livePeer with expect := some 1 })).setWindow [(161, 7)]
       s.setEntry 5 { s.entry 5 with version := 1 }) = true := by decide +kernel

/-- Block 3 is claimed by station 3, yields, and its UPDATE is queued. -/
def busyBlock : State := updated (claimed.setClaim { ClaimUnit.reset with list := [(3, 3)] }) none

theorem test_claim_entered : busyBlock.owned 3 = true
    ∧ receives .claimReceived ⟨2, 1, 0, .claim 3 1⟩ busyBlock ((heardFrom busyBlock 2 livePeer).setClaim
        { ClaimUnit.reset with list := [(3, 3), (3, 2)] }) = true := by decide +kernel

/-- Station 1 has become the owner of block 5 of station 2's directory, at epoch 1. -/
def moved : State :=
  let s := owing (heardFrom (copying .current) 3 { livePeer with expect := some 1 })
  s.setEntry 5 { s.entry 5 with owner := 1, epoch := 1 }

theorem test_handover_received : (copying .current).orphan 5 = false ∧ (copying .current).claimSlot 5 = none
    ∧ receives .handoverReceived ⟨3, 0, 0, .handover 1 [⟨5, 1, 0⟩]⟩ (copying .current) moved = true := by decide +kernel

theorem test_settle_received :
    receives .settleReceived ⟨3, 0, 0, .settle 1 [⟨5, 1, 1, 0, 2⟩]⟩ (copying .current) moved = true := by decide +kernel

theorem test_exclude_received : (group 1).untroubled = true
    ∧ receives .excludeReceived ⟨2, 0, 0, .exclude 3 .replay⟩ (group 1)
      (((owing (heardFrom (group 1) 2 { livePeer with expect := some 1 })).setPeer 3
        { Peer.empty with state := .excluded }).offer { cls := .peerExcluded, peer := some 3, detail := 2 }) = true := by
  decide +kernel

/-- The EXCLUDE of a leaving station names its sender (R102). -/
theorem test_exclude_sender : receives .excludeReceived ⟨2, 0, 0, .exclude 2 .leave⟩ (group 1)
    (((owing (heardFrom (group 1) 2 livePeer)).setPeer 2 { Peer.empty with state := .excluded }).offer
      { cls := .peerExcluded, peer := some 2, detail := 4 }) = true := by decide +kernel

/-- The registrar is excluded at station 2, whose claim slot for its block is aimed at it; block 3 is claimed by it. -/
theorem test_exclude_registrar :
    let s := (lent (group 2) 5 1).setClaim { ClaimUnit.reset with slots := [⟨5, 1, 3, some 7, false⟩], list := [(3, 1), (3, 3)] }
    let t := s.exclude 1 .silence false
    s.computeRegistrar = s.member.registrar ∧ t.member.registrar = 2 ∧ t.claim.slots = [⟨5, 2, 3, none, false⟩]
    ∧ t.claim.list = [(3, 3)] ∧ t.log.offered = [(.membership, { cls := .peerExcluded, peer := some 1, detail := 1 })] := by
  decide +kernel

/-- An ABSENT station is excluded without an incident, an EXCLUDED one without effect (R96). -/
theorem test_exclude_absent : ((group 1).exclude 7 .replay true).log.offered = []
    ∧ (((group 1).exclude 7 .replay true).peer 7).state = .excluded
    ∧ same (((group 1).exclude 7 .replay true).exclude 7 .silence true) ((group 1).exclude 7 .replay true) = true := by
  decide +kernel

theorem test_fetch_received : receives .fetchReceived ⟨2, 1, 0, .fetch 5⟩ (group 1)
    ((heardFrom (group 1) 2 livePeer).setCopyUnit { CopyUnit.reset with answers := [.copy 2 5] }) = true := by
  decide +kernel

theorem test_snapq_received : receives .snapqReceived ⟨2, 1, 0, .snapq 0x0005⟩ (group 1)
    ((heardFrom (group 1) 2 livePeer).setCopyUnit { CopyUnit.reset with answers := [.snap 2 0, .snap 2 2] }) = true := by
  decide +kernel

/-- A block of words whose word 0 is 7. -/
def words7 : List Word := 7 :: List.replicate 31 0

theorem test_copy_received : ((fetching 1).fetchSlot 5).isSome = true
    ∧ receives .copyReceived ⟨3, 2, 0, .copyOk 5 4 words7⟩ (fetching 1)
      (let s := heardFrom (copying .current) 3 livePeer
       (s.setEntry 5 { s.entry 5 with version := 4 }).setWindow [(160, 7)]) = true := by decide +kernel

/-- A CATCHUP station with its fetch slots full, block 0 UNKNOWN, parts 0 and 1 missing. -/
def snapping : State :=
  let s := (fullFetch .current []).setEntry 0 DirEntry.reset
  (s.setMember { s.member with state := .catchup }).setCopyUnit { s.copy with missing := 0x0003, snapq := some 9 }

theorem test_snap_received : receives .snapReceived ⟨1, 2, 0, .snap 0 (List.replicate 16 ⟨3, 0, 0⟩)⟩ snapping
    (let s := heardFrom snapping 1 livePeer
     ((s.setEntry 0 { DirEntry.reset with owner := 3, copy := .stale }).setCopyUnit { s.copy with
      missing := 0x0002, snapq := some 0 }).makeDue (.snapq 0x0002) 1) = true := by decide +kernel

theorem test_snap_last : let s := snapping.setCopyUnit { snapping.copy with missing := 0x0001 }
    receives .snapReceived ⟨1, 2, 0, .snap 0 (List.replicate 16 ⟨3, 0, 0⟩)⟩ s
      (((heardFrom s 1 livePeer).setEntry 0 { DirEntry.reset with owner := 3, copy := .stale }).setCopyUnit { s.copy with
        missing := 0, snapq := none }) = true
    ∧ settles (.snapReceived (cleanFrame .A ⟨1, 2, 0, .snap 1 (List.replicate 16 ⟨3, 0, 0⟩)⟩)) s (s.carried .A 1) = true := by
  decide +kernel

theorem test_entry_rules : (snapping.entry 0).copy = .unknown ∧ (snapping.entry 1).copy ≠ .unknown
    ∧ later8 0 (snapping.entry 1).epoch = false ∧ ((copying .current).entry 5).owner = 3
    ∧ later16 2 ((copying .current).entry 5).version = true ∧ later16 ((copying .current).entry 5).version 0xFFFF = true
    ∧ (((copying .current).digestEntry 3 ⟨5, 2, 0⟩).entry 5).seen = some 2 := by decide +kernel

/-- A QUERY's bitmap for block 5 alone. -/
def bitmap5 : List Byte := 0x04 :: List.replicate 31 0

theorem test_query_received : receives .queryReceived ⟨3, 0, 0, .query 1 bitmap5⟩ (group 2)
    (((heardFrom (group 2) 3 livePeer).setSettle { SettleUnit.reset with
      reply := some { requester := 3, round := 1, bitmap := bitmap5, next := some 5, finished := false } }).setCopyUnit
        { CopyUnit.reset with answers := [.versions 3 1] }) = true := by decide +kernel

/-- Station 2 with this reply record and these answers. -/
def replyingTo (reply : Option Reply) (answers : List Answer) : State :=
  ((group 2).setSettle { SettleUnit.reset with reply := reply }).setCopyUnit { CopyUnit.reset with answers := answers }

/-- A reply to station 3's round 1, of blocks 5 and 6. -/
def reply3 (next : Option Block) (finished : Bool) : Reply := ⟨3, 1, 0x06 :: List.replicate 31 0, next, finished⟩

/-- The rows of Table 7-2. -/
theorem test_query_table : let asks := fun (s t : State) (r : Round) => same (s.replyToQuery 3 r bitmap5) t
    let four : List Answer := [.copy 1 5, .copy 1 6, .copy 1 7, .copy 1 8]
    let fresh := fun r : Round => some (⟨3, r, bitmap5, some 5, false⟩ : Reply)
    asks (replyingTo (some (reply3 none false)) [.versions 3 1]) (replyingTo (some (reply3 none false)) [.versions 3 1]) 1
    ∧ asks (replyingTo (some (reply3 none true)) []) (replyingTo (some (reply3 (some 5) false)) [.versions 3 1]) 1
    ∧ asks (replyingTo (some (reply3 none true)) [.copy 1 5, .versions 3 1, .copy 1 6])
      (replyingTo (fresh 2) [.copy 1 5, .versions 3 2, .copy 1 6]) 2
    ∧ asks (replyingTo none [.copy 1 5]) (replyingTo (fresh 2) [.copy 1 5, .versions 3 2]) 2
    ∧ asks (replyingTo none four) (replyingTo none four) 2 := by decide +kernel

theorem test_query_empty : let f : Frame := ⟨3, 0, 0, .query 1 (List.replicate 32 0)⟩
    (group 2).hearsFrame .A f = true ∧ settles (.queryReceived (cleanFrame .A f)) (group 2) ((group 2).carried .A 3) = true := by
  decide +kernel

/-- The job asks stations 2 and 4. -/
def asking : State := (orphaned.setPeer 4 livePeer).setSettle (querying [4])

theorem test_versions_received : asking.takesVersions 2 1 [⟨5, 0, 6, false, true⟩] = true
    ∧ receives .versionsReceived ⟨2, 1, 0, .versions 1 true [⟨5, 0, 6, false, true⟩]⟩ asking
      ((heardFrom asking 2 livePeer).setSettle { querying [4] with
        table := [{ block := 5, epoch := some 0, version := some 6, holder := some 2, currentHolder := some 2, flaggers := [] }]
        answerers := [⟨2, true, none⟩, ⟨4, false, some 5⟩] }) = true := by decide +kernel

theorem test_digest_received : receives .digestReceived ⟨3, 0, 0, .digest [⟨5, 0, (copying .current).blockCheck 5⟩]⟩
    (copying .current) (heardFrom (copying .current) 3 livePeer) = true := by decide +kernel

theorem test_clash_premise : (rawFrame sampleFrame.bytes).sender = 3
    ∧ ((live 3).judgeFrame .A (rawFrame sampleFrame.bytes)).member.state = .halted := by decide +kernel

theorem test_dissolves : dissolves 0x0018 0x0006 = true ∧ dissolves 0x0006 0x0018 = false
    ∧ dissolves 0x0006 0x000E = true ∧ dissolves 0x000E 0x0006 = false ∧ dissolves 0x0006 0x000A = true
    ∧ dissolves 0x000A 0x0006 = false := by decide +kernel

/-! ## The take -/

theorem test_take_premise : (group 1).select.current = none ∧ (group 1).anyLaneUp = true
    ∧ (group 1).member.state.shown = some .live ∧ (group 1).statusUrgent = false := by decide +kernel

theorem test_take_urgent : let s := (group 1).setSeq { SeqUnit.reset with owed := true, urgent := true, accepted := 8 }
    s.pump.select.current = some ⟨1, 0, 0, s.statusPayload .live⟩ ∧ s.pump.seq = SeqUnit.reset := by decide +kernel

theorem test_take_queue : let s := (group 1).setSeq { SeqUnit.reset with queue := [entryOf sampleFrame false none] }
    s.pump.select.current = some sampleFrame ∧ s.pump.seq.queue = [entryOf sampleFrame true (some 0)] := by
  decide +kernel

theorem test_take_marked : let s := (group 1).setSeq { SeqUnit.reset with
      queue := [{ entryOf sampleFrame true none with marked := true }] }
    s.pump.select.current = some sampleFrame := by decide +kernel

theorem test_take_answer : let s := (group 1).setCopyUnit { CopyUnit.reset with answers := [.copy 2 5] }
    s.batchFor 5 = false ∧ s.pump.select.current = some ⟨1, 2, 0, .copyOk 5 0 (List.replicate 32 0)⟩
    ∧ s.pump.copy.answers = [] := by decide +kernel

theorem test_take_none : State.reset.select.current = none ∧ State.reset.anyLaneUp = true
    ∧ same State.reset.pump State.reset = true := by decide +kernel

/-! ## Character times and the words of the port -/

/-- The state one character time on, where nothing waits. -/
def later (s : State) : State := match step s with | .next t => t | .fault _ => s | .refused _ => s

theorem test_idle_row : ((batched 127 false).pending = []) ∧ (later (batched 127 false)).pending = [.batchHold]
    ∧ (later (batched 126 false)).pending = [] ∧ (later (batched 126 false)).write.batch.map OpenBatch.age = some 127 := by
  decide +kernel

theorem test_port_words : (group 3).readPort 0x2000 = 0x0134
    ∧ ((group 1).setLane .A { ready with score := 9 }).readPort 0x2001 = 0x0901 ∧ (group 1).readPort 0x2002 = 0x0001
    ∧ (group 1).readPort 0x2003 = 0x000E ∧ (group 1).readPort 0x2004 = 0x000E
    ∧ ((live 1).setWindow [(0x41, 7)]).readPort 0x41 = 7 ∧ (live 1).readPort 0x2008 = 0 := by decide +kernel

theorem test_unused_words : ([0x2007, 0x2013, 0x201F, 0x2030, 0x203F, 0x20C0, 0x3FFF] : List (BitVec 14)).all
    (fun a => decide (borrower.readPort a = 0)) = true := by decide +kernel

theorem test_port_head : incidents.readPort 0x2008 = 0x8007 ∧ incidents.readPort 0x2009 = 0
    ∧ incidents.readPort 0x200D = 5 ∧ incidents.readPort 0x200E = 2 ∧ incidents.readPort 0x2010 = 2
    ∧ borrower.readPort 0x2041 = 0x7737 ∧ borrower.readPort 0x2081 = 0x1121 := by decide +kernel

theorem test_command_words : commandOfWord 0x0205 = .claim 5 ∧ commandOfWord 0x0500 = .rejoin 0
    ∧ commandOfWord 0x0601 = .commandUnknown 6 1 ∧ commandOfWrite 0x2021 3 = .watchMapWrite 1 3
    ∧ commandOfWrite 0x2000 3 = .stationAreaWriteIgnored 0x2000 3 := by decide +kernel

/-! ## The take, class by class -/

theorem test_take_head : let e := entryOf sampleFrame false none
    let s := (group 1).setSeq { SeqUnit.reset with queue := [e, { e with marked := true }] }
    s.pump.seq.queue = [e, { e with sent := true }] := by decide +kernel

theorem test_take_unsent : let e := entryOf sampleFrame true none
    let s := (group 1).setSeq { SeqUnit.reset with queue := [e, { e with sent := false }] }
    s.pump.seq.queue = [e, e] := by decide +kernel

/-- A COPY answer waits for the open batch of block 2. -/
def waitingCopy : State := (batched 5 false).setCopyUnit { CopyUnit.reset with answers := [.copy 3 2, .snap 3 1] }

theorem test_take_snap : waitingCopy.batchFor 2 = true ∧ waitingCopy.pump.select.current
      = some ⟨1, 3, 0, .snap 1 (List.replicate 16 ⟨1, 0, 0⟩)⟩ ∧ waitingCopy.pump.copy.answers = [.copy 3 2] := by
  decide +kernel

/-- A VERSIONS answer of one block stands. -/
def replying : State := ((group 1).setSettle { SettleUnit.reset with
  reply := some { requester := 2, round := 4, bitmap := 0x04 :: List.replicate 31 0, next := some 5
                  finished := false } }).setCopyUnit { CopyUnit.reset with answers := [.versions 2 4] }

theorem test_take_versions : replying.pump.select.current = some ⟨1, 2, 0, .versions 4 true [⟨5, 0, 0, true, true⟩]⟩
    ∧ replying.pump.copy.answers = [] ∧ (replying.pump.settle.reply.map Reply.finished) = some true := by decide +kernel

/-- Two requests fell due in one event. -/
def requesting : State := (group 1).setSelect { Selector.reset with
  requests := [⟨.fetch 4, 2, 7⟩, ⟨.claim 9 1, 3, 7⟩, ⟨.claim 8 1, 2, 7⟩] }

theorem test_take_request : requesting.pump.select.current = some ⟨1, 2, 0, .claim 8 1⟩
    ∧ requesting.pump.select.requests = [⟨.fetch 4, 2, 7⟩, ⟨.claim 9 1, 3, 7⟩] := by decide +kernel

theorem test_take_join : let s := joiner.makeDue .join 0
    s.select.current = none ∧ s.anyLaneUp = true ∧ s.pump.select.current = some ⟨1, 0, 0, .join⟩ := by decide +kernel

/-- A DIGEST is due; every block but 5 and 6 is owned elsewhere. -/
def auditing (n : Station) : State :=
  let s := (group 1).setDir (Vector.replicate 256 (DirEntry.founded n))
  (lent (lent s 5 1) 6 1).setAudit { AuditUnit.reset with due := true }

theorem test_take_digest : (auditing 2).pump.select.current = some ⟨1, 0, 0, .digest
      [⟨5, 0, (group 1).blockCheck 5⟩, ⟨6, 0, (group 1).blockCheck 6⟩]⟩
    ∧ (auditing 2).pump.audit = { pointer := 6, timer := some 0, due := false } := by decide +kernel

theorem test_take_no_digest : let s := lent (lent (auditing 2) 5 2) 6 2
    s.audit.due = true ∧ same s.pump s = true := by decide +kernel

theorem test_take_lanes : let s := (requesting.setLane .A { ready with idle := 3 }).setLane .B (Lane.reset .off)
    s.pump.select.current ≠ none ∧ s.pump.laneA.access = .sending ∧ s.pump.select.doneB = true
    ∧ requesting.pump.laneB.access = .deferring ∧ requesting.pump.select.doneB = false := by decide +kernel

/-! ## Writes to an open batch, and held ones -/

/-- A batch of block 2 with n entries. -/
def batchOf (n : Nat) : OpenBatch :=
  { block := 2, entries := (List.range n).map (fun i => ⟨Fin.ofNat 32 i, 1⟩), age := 3, due := false }

/-- That batch is open at station 1 of the group. -/
def filling (n : Nat) : State := (group 1).setWrite { WriteUnit.reset with batch := some (batchOf n) }

/-- A state with this batch open and word a written. -/
def wrote (s : State) (t : OpenBatch) (a : Nat) : State :=
  (s.tickStamp.setWrite { s.write with batch := some t }).setWindow [(a, 9)]

theorem test_write_replaces : (filling 3).batchPath 2 = true
    ∧ settles (.localWrite 0x41 9) (filling 3) (wrote (filling 3)
        { batchOf 3 with entries := [⟨0, 1⟩, ⟨1, 9⟩, ⟨2, 1⟩] } 0x41) = true := by decide +kernel

theorem test_write_appends : settles (.localWrite 0x43 9) (filling 3) (wrote (filling 3)
    { batchOf 3 with entries := [⟨0, 1⟩, ⟨1, 1⟩, ⟨2, 1⟩, ⟨3, 9⟩] } 0x43) = true := by decide +kernel

theorem test_write_sixteenth : let t := { batchOf 15 with entries := (batchOf 15).entries ++ [⟨15, 9⟩] }
    (filling 15).freeGeneral = true ∧ (noRoom (filling 15)).freeGeneral = false
    ∧ settles (.localWrite 0x4F 9) (filling 15) (wrote (filling 15) t 0x4F).closeBatch = true
    ∧ settles (.localWrite 0x4F 9) (noRoom (filling 15)) (wrote (noRoom (filling 15)) { t with due := true } 0x4F) = true := by
  decide +kernel

/-- A write of 9 to word a waits behind the batch, made due. -/
def behind (s : State) (n : Nat) (a : WindowAddr) : State :=
  s.tickStamp.setWrite { s.write with batch := some { batchOf n with due := true }, waiting := some ⟨a, 9, 0⟩ }

theorem test_write_behind : settles (.localWrite 0x50 9) (noRoom (filling 16)) (behind (noRoom (filling 16)) 16 0x50) = true
    ∧ (noRoom (filling 3)).batchPath 3 = true
    ∧ settles (.localWrite 0x61 9) (noRoom (filling 3)) (behind (noRoom (filling 3)) 3 0x61) = true := by decide +kernel

theorem test_write_closes_first : let s := filling 3
    let u := (s.tickStamp.setWrite { s.write with waiting := some ⟨0x61, 9, 0⟩ }).closeBatch
    u.nextActs = [.judge] ∧ settles (.localWrite 0x61 9) s u = true
    ∧ goesOnFrom (.localWrite 0x61 9) s (wrote (u.setWrite WriteUnit.reset)
        { block := 3, entries := [⟨1, 9⟩], age := 0, due := false } 0x61 |> fun v => { v with stamp := u.stamp }) = true := by
  decide +kernel

theorem test_held_replaced : (heldFull.write.held.any (fun h => h.addr = 0x40)) = true
    ∧ settles (.localWrite 0x40 9) heldFull (heldFull.tickStamp.setWrite { heldFull.write with
        held := { addr := 0x40, value := 9 } :: heldFull.write.held.tail }) = true := by decide +kernel

theorem test_held_claims : let u := borrower.tickStamp.setWrite { WriteUnit.reset with held := [⟨0xA1, 9⟩] }
    borrower.batchPath 5 = false ∧ u.nextActs = [.grantSlot 5]
    ∧ goesOnFrom (.localWrite 0xA1 9) borrower (u.openClaim 5 true) = true := by decide +kernel

theorem test_held_for_slot : let s := claiming 1 false
    settles (.localWrite 0xA1 9) s ((s.tickStamp.setWrite { WriteUnit.reset with held := [⟨0xA1, 9⟩] }).setClaim
      (claiming 1 true).claim) = true := by decide +kernel

/-! ## Claim slots, the replay limit, retirement -/

theorem test_grant : wantingSlot.claimSlot 5 = none ∧ (wantingSlot.entry 5).owner = 2
    ∧ settles .claimSlotGrant wantingSlot ((wantingSlot.tickStamp.setClaim { ClaimUnit.reset with
        slots := [⟨5, 2, 1, some 0, true⟩] }).makeDue (.claim 5 1) 2) = true := by decide +kernel

/-- Block 5 is an orphan at its registrar, a write to it held. -/
def wantingOrphan : State :=
  (lent ((group 1).setPeer 3 { Peer.empty with state := .excluded }) 5 3).setWrite { WriteUnit.reset with held := [⟨0xA1, 7⟩] }

theorem test_grant_orphan : (wantingOrphan.peer 3).state = .excluded ∧ wantingOrphan.member.registrar = 1
    ∧ settles .claimSlotGrant wantingOrphan ((wantingOrphan.tickStamp.setClaim { ClaimUnit.reset with
        slots := [⟨5, 1, 1, none, true⟩] }).withdraw (.claim 5)) = true := by decide +kernel

/-- A slot waits at its registrar for block 5, an orphan no more: where the role is lost its CLAIM is sent (R42). -/
theorem test_role_lost : let s := (lent (group 2) 5 3).setClaim { ClaimUnit.reset with slots := [⟨5, 2, 4, none, true⟩] }
    let u := s.setMember { s.member with registrar := 2 }
    u.takeRegistrar.claim.slots = [⟨5, 3, 4, some 0, true⟩] ∧ s.takeRegistrar.claim.slots = [⟨5, 2, 4, none, true⟩]
    ∧ u.takeRegistrar.select.requests = [⟨.claim 5 4, 3, s.stamp⟩] := by decide +kernel

/-- The head has been replayed six times, and its timer has run out. -/
def exhausted (s : State) (p : Payload) : State := s.setSeq { s.seq with
  queue := [{ entryOf ⟨s.member.own, 0, 0, p⟩ true (some 512) with count := 6 }], next := 1 }

theorem test_replay_limit : let s := exhausted (group 1) (.update 3 0 1 [⟨0, 1⟩])
    s.laggards 0 = [2, 3] ∧ settles .replayTimeout s (s.tickStamp.decideExcludes [2, 3] .replay true) = true
    ∧ ((s.decideExcludes [2, 3] .replay true).peer 3).state = .excluded
    ∧ (s.decideExcludes [2, 3] .replay true).seq.queue.length = 3 := by decide +kernel

theorem test_replay_limit_own : let s := exhausted leaverBare (.exclude 2 .leave)
    settles .replayTimeout s ((s.tickStamp.offer { cls := .departed }).teardown .departed) = true := by decide +kernel

theorem test_retires : let s := (updated (group 1) none).setSeq { (updated (group 1) none).seq with
      queue := [sentUpdate 1 none, { sentUpdate 1 (some 3) with seq := 1 }, { sentUpdate 1 none with seq := 2 }] }
    let u := (s.setPeer 2 { livePeer with receipt := some 1 }).setPeer 3 { livePeer with receipt := some 1 }
    u.headReceipted = true ∧ u.quiesce.seq.queue = [{ sentUpdate 1 (some 0) with seq := 1 }, { sentUpdate 1 none with seq := 2 }]
    ∧ leaverDone.headReceipted = true ∧ leaverDone.quiesce.member.state = .departed := by decide +kernel

/-! ## Frames heard outside a group, and isolation -/

/-- A STATUS of station 2, LIVE. -/
def status2 (mask : StationMask) : Frame := ⟨2, 0, 0, .status .live mask 0 0x000A (4 :: List.replicate 14 0) []⟩

/-- The listening station, and the joining one, whose lane A awaits a frame. -/
def listener : State := State.reset.setLane .A ready
def hearing : State := joiner.setLane .A ready

theorem test_listening_hears : let u := listener.carried .A 2
    listener.canHear .A (status2 0x0004) = true ∧ settles (.statusReceived (cleanFrame .A (status2 0x0004))) listener
      ((u.setMember { u.member with state := .joining, listen := some 0, join := some 0 }).makeDue .join 0) = true := by
  decide +kernel

theorem test_joining_hears : let u := hearing.carried .A 2
    hearing.canHear .A (status2 0x0004) = true ∧ hearing.canHear .A ⟨2, 0, 0, .join⟩ = true
    ∧ settles (.statusReceived (cleanFrame .A (status2 0x0004))) hearing
      (u.setMember { u.member with listen := some 0 }) = true
    ∧ settles (.joinReceived (cleanFrame .A ⟨2, 0, 0, .join⟩)) hearing u = true := by decide +kernel

theorem test_joiner_admitted : let f : Frame := ⟨2, 0, 9, .admission 1 0x000E⟩
    let t := (hearing.carried .A 2).deliver f
    hearing.canHear .A f = true ∧ (∀ p, hearing.peer p = Peer.empty) ∧ hearing.copy = CopyUnit.reset
    ∧ hearing.claim = ClaimUnit.reset ∧ hearing.settle.job = .idle ∧ hearing.member.registrar = 0
    ∧ settles (.admitReceived (cleanFrame .A f)) hearing t = true ∧ t.member.registrar = 2
    ∧ t.select.requests = [⟨.snapq 0xFFFF, 2, 1⟩]
    ∧ t.peer 2 = { livePeer with expect := some 10, receipt := none, includesUs := false } := by decide +kernel

theorem test_self_excluded : (group 1).hearsFrame .A (status2 0x000C) = true
    ∧ settles (.statusReceived (cleanFrame .A (status2 0x000C))) (group 1)
      (((group 1).carried .A 2).offer { cls := .selfExcluded, peer := some 2 }).isolate = true
    ∧ (group 1).isolate.member.state = .listening ∧ leaver.isolate.member.state = .departed
    ∧ stuckAlone.anyLaneUp = true
    ∧ ((stuckAlone.setLane .A (Lane.reset .off)).isolate.member.state = .isolated) := by decide +kernel

theorem test_leave_receipt : let s := leaverDone.setPeer 1 livePeer
    let f : Frame := ⟨1, 0, 0, .status .live 0x000A 0 0 (List.replicate 15 0) []⟩
    s.hearsFrame .A f = true ∧ settles (.statusReceived (cleanFrame .A f)) s
      ((s.carried .A 1).setPeer 1 { livePeer with receipt := some 1 }) = true := by decide +kernel

theorem test_excluded_self : let f : Frame := ⟨2, 0, 0, .exclude 1 .replay⟩
    (group 1).hearsFrame .A f = true ∧ settles (.excludeReceived (cleanFrame .A f)) (group 1)
      (((group 1).acceptedFrom .A 2 0).offer { cls := .selfExcluded, peer := some 2, detail := 2 }).isolate = true := by
  decide +kernel

theorem test_stranger : let f : Frame := ⟨2, 0, 0, .status .live 0x0004 0 0 (List.replicate 15 0) []⟩
    let s := (live 3)
    s.hearsFrame .A f = true ∧ (s.peer 2).state.member = false ∧ dissolves s.membershipMask 0x0004 = true
    ∧ settles (.statusReceived (cleanFrame .A f)) s
      ((s.carried .A 2).offer { cls := .groupDissolved, peer := some 2 }).isolate = true
    ∧ (live 1).hearsFrame .A f = true ∧ dissolves (live 1).membershipMask 0x0004 = false
    ∧ settles (.statusReceived (cleanFrame .A f)) (live 1) ((live 1).carried .A 2) = true := by decide +kernel

/-- A good frame's fields as the decoder has them. -/
def raw (kind : Byte) (sender target : Station) (payload : List Byte) : RawFrame := ⟨kind, sender, target, 0, payload⟩

/-- The incidents a judgement offers. -/
def offers (r : RawFrame) : List IncidentClass := ((group 1).judgeFrame .A r).log.offered.map (fun x => x.2.cls)

theorem test_judge_steps : offers (raw 1 0 0 []) = [.malformedFrame] ∧ offers (raw 0x77 2 0 []) = [.malformedFrame]
    ∧ offers (raw 5 2 0 [1, 1]) = [.malformedFrame] ∧ offers (raw 5 2 3 [1, 9]) = []
    ∧ offers (raw 5 2 1 [1, 9]) = [.malformedFrame] ∧ offers (raw 5 2 1 [1, 8]) = []
    ∧ (((group 1).judgeFrame .A (raw 5 2 1 [1, 8])).claim.list = [(1, 2)]) := by decide +kernel

theorem test_judged : let rx := cleanFrame .A sampleFrame
    rx.buffer.verdict = none ∧ (group 1).laneUp .A = true ∧ settles (.excludeReceived rx) (group 1)
      (((group 1).tickStamp.setLane .A ready).judgeFrame .A (rawFrame rx.buffer.chars)) = true := by decide +kernel

theorem test_departed_hears : departed.heard .status = departed ∧ departed.deliver (status2 0x0004) = departed := by
  decide +kernel

/-! ## Directory entries, judged -/

/-- The UPDATE of block 5 from station p, with seq q. -/
def update5 (p : Station) (q : SeqNo) (e : Epoch) (v : Version) : Frame := ⟨p, 0, q, .update 5 e v [⟨1, 7⟩]⟩

/-- The row of that UPDATE at station 2, block 5 of station 3 CURRENT there, answers t. -/
def updates (f : Frame) (t : State) : Bool :=
  (copying .current).hearsFrame .A f && settles (.updateReceived (cleanFrame .A f)) (copying .current) t

theorem test_update_sequence : let s := copying .current
    updates (update5 1 0 1 4) ((s.acceptedFrom .A 1 0).updateArrive 1 5 1 4 [⟨1, 7⟩]) = true
    ∧ updates (update5 3 2 0 1) ((s.carried .A 3).setSeq { s.seq with owed := true, urgent := true, age := some 0 }) = true
    ∧ updates (update5 3 0xFF 0 1) ((s.carried .A 3).setSeq { s.seq with owed := true, age := some 0 }) = true
    ∧ updates (update5 4 0 0 1) (s.carried .A 4) = true := by decide +kernel

theorem test_update_owner : let s := copying .current
    later8 1 (s.entry 5).epoch = true ∧ ((s.updateArrive 1 5 1 4 []).entry 5)
      = ⟨1, 1, 0, .stale, some 4, none, false⟩ ∧ same (s.updateArrive 1 5 0 4 []) s = true
    ∧ s.owned 6 = true ∧ (s.updateArrive 1 6 0 4 []).log.offered.length = 1 := by decide +kernel

theorem test_update_content : (((copying .current).updateContent 5 3 [] false).entry 5).seen = some 3
    ∧ same ((copying .current).updateContent 5 0 [] false) (copying .current) = true
    ∧ (((copying .stale).updateContent 5 3 [] false).entry 5).seen = some 3
    ∧ (((copying .unknown).updateContent 5 3 [] true).entry 5).copy = .stale
    ∧ (((copying .unknown).updateContent 5 3 [] false).entry 5).copy = .unknown
    ∧ later16 3 (0 + 1) = true ∧ later16 0 (0 + 1) = false := by decide +kernel

/-- A state that watches block 5, with these notices. -/
def watching (ns : List Block) : State := (group 1).setPort { LocalPort.reset with watch := 1#256 <<< 5, notices := ns }

theorem test_notices : ((watching [5]).notice 5).port.notices = [5] ∧ ((watching [4]).notice 5).port.notices = [4, 5]
    ∧ ((watching [4]).notice 6).port.notices = [4]
    ∧ ((watching ((List.range 16).map (fun i => Fin.ofNat 256 (16 + i)))).notice 5).port.overflow = true := by decide +kernel

theorem test_claim_releases : let s := group 1
    let f : Frame := ⟨2, 1, 0, .claim 3 1⟩
    let t := (s.carried .A 2).setClaim { ClaimUnit.reset with list := [(3, 2)] }
    s.hearsFrame .A f = true ∧ s.owned 3 = true ∧ t.nextActs = [.release 3] ∧ s.batchFor 3 = false
    ∧ goesOnFrom (.claimReceived (cleanFrame .A f)) s (t.setEntry 3 { s.entry 3 with yielding := true }) = true := by
  decide +kernel

theorem test_claim_closes : let s := filling 3
    let f : Frame := ⟨2, 1, 0, .claim 2 1⟩
    let claims := fun s : State => (s.carried .A 2).setClaim { ClaimUnit.reset with list := [(2, 2)] }
    (claims s).nextActs = [.release 2] ∧ s.batchFor 2 = true
    ∧ goesOnFrom (.claimReceived (cleanFrame .A f)) s (claims s).closeBatch = true
    ∧ (claims (noRoom s)).nextActs = [.release 2] ∧ (noRoom s).hearsFrame .A f = true
    ∧ goesOnFrom (.claimReceived (cleanFrame .A f)) (noRoom s) ((claims (noRoom s)).setWrite { s.write with
        batch := some { batchOf 3 with due := true } }) = true := by decide +kernel

/-- The entry of block 5 once an entry for it, with version v, has been judged at station 2: owner n, epoch 1. -/
def judged (c : CopyState) (n : Station) (v : Version) (donor : Option Station) : DirEntry :=
  ((fetchingOr c).ownershipEntry 3 5 n 1 v donor).entry 5
where
  /-- Block 5 in copy state c, at version 4, with its slot where it is FETCHING. -/
  fetchingOr (c : CopyState) : State :=
    let s := if c = .fetching then fetching 1 else copying c
    s.setEntry 5 { s.entry 5 with version := 4 }

theorem test_gained : judged .current 2 4 none = ⟨2, 1, 4, .current, none, none, false⟩
    ∧ judged .current 2 3 (some 3) = ⟨2, 1, 4, .current, none, none, false⟩
    ∧ judged .current 2 5 (some 3) = ⟨2, 1, 4, .stale, none, some 3, false⟩
    ∧ judged .unknown 2 5 (some 3) = ⟨2, 1, 4, .stale, none, some 3, false⟩
    ∧ judged .fetching 2 5 (some 3) = ⟨2, 1, 4, .stale, none, some 3, false⟩
    ∧ later8 1 ((copying .current).entry 5).epoch = true ∧ later16 4 3 = true ∧ later16 4 5 = false := by decide +kernel

theorem test_gained_catchup : let s := (copying .current).setMember { (copying .current).member with state := .catchup }
    (s.ownershipEntry 3 5 2 1 4 none).log.offered.length = 1 ∧ same (s.ownershipEntry 3 5 2 0 4 none) s = true := by
  decide +kernel

theorem test_not_gained : judged .unknown 1 4 none = ⟨1, 1, 4, .stale, none, none, false⟩
    ∧ judged .stale 1 4 none = ⟨1, 1, 4, .stale, none, none, false⟩
    ∧ judged .fetching 1 5 none = ⟨1, 1, 4, .stale, none, none, false⟩
    ∧ judged .fetching 1 4 none = ⟨1, 1, 4, .fetching, none, none, false⟩
    ∧ judged .current 1 5 (some 3) = ⟨1, 1, 4, .stale, none, some 3, false⟩
    ∧ judged .current 1 3 (some 3) = ⟨1, 1, 4, .current, none, none, false⟩ := by decide +kernel

/-- Station 1 loses block 2, a batch open for it, to station 3. -/
theorem test_lost : let t := (filling 3).takeOwner 2 2 3 1 none
    (filling 3).owned 2 = true ∧ t.entry 2 = ⟨3, 1, 0, .stale, none, none, false⟩ ∧ t.write.batch = none
    ∧ t.log.offered.length = 2 ∧ (copying .current).owned 5 = false := by decide +kernel

theorem test_handover_frame : let f : Frame := ⟨3, 0, 0, .handover 2 [⟨5, 1, 0⟩, ⟨6, 1, 0⟩]⟩
    (copying .current).hearsFrame .A f = true
    ∧ settles (.handoverReceived (cleanFrame .A f)) (copying .current)
      ((((copying .current).acceptedFrom .A 3 0).ownershipEntry 3 5 2 1 0 (some 3)).ownershipEntry 3 6 2 1 0 (some 3))
        = true := by decide +kernel

theorem test_slots_closed : (((claiming 1 true).closeClaim 5).claim.slots = []) ∧ ((fetching 1).closeFetch 5).copy.slots = []
    ∧ ((claiming 3 true).claimSlot 5).isSome = true ∧ borrower.claimSlot 5 = none
    ∧ ((claiming 3 true).sendClaim 5).claim.slots = [⟨5, 2, 3, some 0, true⟩] := by decide +kernel

/-! ## Copies -/

/-- The COPY of block 5 at version v, from station 3. -/
def copy5 (v : Version) : Frame := ⟨3, 2, 0, .copyOk 5 v words7⟩

/-- Block 5 FETCHING, at version 4, with the seen version given. -/
def awaited (seen : Option Version) : State :=
  (fetching 1).setEntry 5 { (fetching 1).entry 5 with version := 4, seen := seen }

theorem test_copy_judged : (copying .current).fetchSlot 5 = none ∧ (awaited none).fetchSlot 5 ≠ none
    ∧ (copying .current).hearsFrame .A (copy5 4) = true
    ∧ settles (.copyReceived (cleanFrame .A (copy5 4))) (copying .current) ((copying .current).carried .A 3) = true
    ∧ (awaited none).hearsFrame .A (copy5 4) = true
    ∧ settles (.copyReceived (cleanFrame .A (copy5 4))) (awaited none)
      (((awaited none).carried .A 3).copyArrive 5 4 words7) = true := by decide +kernel

theorem test_copy_arrives : same ((awaited none).copyArrive 5 3 words7) (awaited none) = true
    ∧ later16 4 3 = true ∧ later16 4 6 = false ∧ later16 7 6 = true
    ∧ (((awaited (some 7)).copyArrive 5 6 words7).entry 5).copy = .fetching
    ∧ ((awaited (some 7)).copyArrive 5 6 words7).copy.slots = [⟨5, 3, 1, 0⟩]
    ∧ (((awaited (some 6)).copyArrive 5 6 words7).entry 5).copy = .current := by decide +kernel

theorem test_not_current : let row := fun p : Station => cleanFrame .A ⟨p, 2, 0, .copyNotCurrent 5 0⟩
    let n := fun k => (fetching k).carried .A 3
    (fetching 1).fetchSlot 5 = some ⟨5, 3, 1, 512⟩ ∧ (fetching 1).hearsFrame .A ⟨3, 2, 0, .copyNotCurrent 5 0⟩ = true
    ∧ (fetching 1).hearsFrame .A ⟨1, 2, 0, .copyNotCurrent 5 0⟩ = true
    ∧ settles (.copyReceived (row 1)) (fetching 1) ((fetching 1).carried .A 1) = true
    ∧ settles (.copyReceived (row 3)) (fetching 1) ((n 1).nextAttempt 5 2) = true
    ∧ settles (.copyReceived (row 3)) (fetching 4) ((n 4).failFetch 5 3) = true := by decide +kernel

/-- A CATCHUP station whose blocks are all CURRENT but 5, of copy state c. -/
def arriving (c : CopyState) : State := (copying c).setMember { (copying c).member with state := .catchup }

theorem test_live_at_last : (∀ b, ((arriving .current).entry b).copy = .current)
    ∧ (arriving .current).testLive.member.state = .live ∧ ((arriving .stale).entry 5).copy ≠ .current
    ∧ same (arriving .stale).testLive (arriving .stale) = true
    ∧ (arriving .current).testLive.log.offered.length = 1 := by decide +kernel

/-! ## The settle job -/

/-- The third QUERY's timer has run out; station 2 has answered where told so. -/
def lastQuery (answered : Bool) : State := orphaned.setSettle { querying [] with
  queries := 3, queryTimer := some 1024, answerers := [⟨2, answered, none⟩] }

theorem test_query_limit_premises : let s := lastQuery false
    let u := s.tickStamp.decideExcludes [2] .settle false
    s.resetLow = false ∧ s.settle.job = .querying ∧ s.settle.queryTimer = some 1024 ∧ s.settle.queries = 3
    ∧ (s.settle.answerers.filter (fun a => !a.answered)).map Answerer.station = [2] ∧ u.settle.job = .querying := by
  decide +kernel

theorem test_query_limit : let s := lastQuery false
    let u := s.tickStamp.decideExcludes [2] .settle false
    s.tickStamp.queryExpires = (u.setSettle { u.settle with answerers := [] }).decideJob
    ∧ settles .queryTimeout (lastQuery true) (lastQuery true).tickStamp.decideJob = true := by decide +kernel

/-- The job's record of block 5, flagged by stations 2 and 4. -/
def flagged : State := ((orphaned.setPeer 4 livePeer).setSettle { querying [] with
  table := [⟨5, some 6, some 8, some 2, none, [2, 4]⟩] })

theorem test_decision : flagged.decideJob.settle.announce = [⟨5, 2, 7, 8, 2⟩]
    ∧ flagged.decideJob.log.offered = [(.settle, { cls := .auditMismatch, peer := some 4, block := some 5, detail := 2 })]
    ∧ ((lent flagged 5 1).decideJob.settle.job = .idle) := by decide +kernel

theorem test_query_defers : let f : Frame := ⟨1, 0, 0, .query 1 (0x04 :: List.replicate 31 0)⟩
    let calm := fun s : State => (((s.carried .A 1).setSettle { SettleUnit.reset with deference := some 0 }).withdraw .query)
    (arriving .stale).hearsFrame .A f = true ∧ (group 2).hearsFrame .A f = true
    ∧ settles (.queryReceived (cleanFrame .A f)) (arriving .stale) (calm (arriving .stale)) = true
    ∧ settles (.queryReceived (cleanFrame .A f)) (group 2)
      ((calm (group 2)).replyToQuery 1 1 (0x04 :: List.replicate 31 0)) = true := by decide +kernel

theorem test_versions_decide : let s := orphaned.setSettle (querying [])
    let f : Frame := ⟨2, 1, 0, .versions 1 true [⟨5, 0, 6, false, true⟩]⟩
    s.hearsFrame .A f = true ∧ s.takesVersions 2 1 [⟨5, 0, 6, false, true⟩] = true
    ∧ settles (.versionsReceived (cleanFrame .A f)) s ((s.carried .A 2).setSettle { querying [] with
        table := [⟨5, some 0, some 6, some 2, some 2, []⟩], answerers := [⟨2, true, none⟩] }).decideJob = true := by
  decide +kernel

theorem test_fold : (SettleRecord.empty 5).fold 4 ⟨5, 1, 6, true, true⟩ = ⟨5, some 1, some 6, some 4, some 4, [4]⟩
    ∧ (⟨5, some 1, some 6, some 4, none, [4]⟩ : SettleRecord).fold 2 ⟨5, 0, 6, true, true⟩
      = ⟨5, some 1, some 6, some 2, some 2, [2, 4]⟩
    ∧ (⟨5, some 1, some 6, some 4, none, [4]⟩ : SettleRecord).fold 2 ⟨5, 0, 5, false, true⟩
      = ⟨5, some 1, some 6, some 4, none, [4]⟩
    ∧ (⟨5, some 1, some 6, some 4, some 4, []⟩ : SettleRecord).fold 9 ⟨5, 2, 7, false, false⟩
      = ⟨5, some 2, some 7, some 9, none, []⟩ := by decide +kernel

/-! ## Claims and ADMITs of every form -/

/-- Station 2 of a group whose station 3 is EXCLUDED, block 5 its orphan; the registrar is station 1. -/
def orphanAt2 : State := lent ((group 2).setPeer 3 { Peer.empty with state := .excluded }) 5 3

/-- The state in which a COMMAND CLAIM 5 is decided. -/
def commanded (s : State) : State := s.tickStamp.setPort { s.port with command := 0x0205, result := 0x0201 }

theorem test_claim_orphan : orphaned.portFree = true ∧ orphaned.member.state = .live ∧ orphaned.owned 5 = false
    ∧ orphaned.orphan 5 = true ∧ orphaned.claimSlot 5 = none ∧ orphaned.member.registrar = orphaned.member.own
    ∧ settles (.claim 5) orphaned (((commanded orphaned).setClaim { ClaimUnit.reset with
        slots := [⟨5, 1, 1, none, false⟩] }).withdraw (.claim 5)) = true
    ∧ orphanAt2.orphan 5 = true ∧ orphanAt2.member.registrar = 1
    ∧ settles (.claim 5) orphanAt2 (((commanded orphanAt2).setClaim { ClaimUnit.reset with
        slots := [⟨5, 1, 1, some 0, false⟩] }).makeDue (.claim 5 1) 1) = true := by decide +kernel

/-- A station in the state given. -/
def inState (st : StationState) (s : State) : State := s.setMember { s.member with state := st }

/-- A CLAIM for block 5 of station 2, as it comes to station n. -/
def claimFrame (n : Station) : Frame := ⟨if n = 2 then 1 else 2, n, 0, .claim 5 1⟩

/-- A CLAIM for an orphan joins the list of its registrar, and the orphan does not yield (R47). -/
theorem test_claim_orphan_entered : orphaned.hearsFrame .A (claimFrame 1) = true ∧ (orphaned.peer 2).state = .live
    ∧ settles (.claimReceived (cleanFrame .A (claimFrame 1))) orphaned ((orphaned.carried .A 2).setClaim
        { ClaimUnit.reset with list := [(5, 2)] }) = true := by decide +kernel

/-- The registrar of the orphan, deferring to another's job. -/
def deferring : State := orphaned.setSettle { SettleUnit.reset with deference := some 0 }

/-- Whether station n, of state s, drops the CLAIM. -/
def dropsClaim (n : Station) (s : State) : Bool :=
  s.hearsFrame .A (claimFrame n)
    && settles (.claimReceived (cleanFrame .A (claimFrame n))) s (s.carried .A (claimFrame n).sender)

/-- The CLAIMs that R47 drops: at a station not LIVE, at one that neither owns the block nor is registrar of the orphan,
from a peer not LIVE, one that stands, one that finds 8. -/
theorem test_claim_dropped : dropsClaim 1 (inState .catchup deferring) = true
    ∧ dropsClaim 2 orphanAt2 = true ∧ dropsClaim 1 (lent (group 1) 5 3) = true
    ∧ dropsClaim 1 (deferring.setPeer 2 { livePeer with state := .leaving }) = true
    ∧ dropsClaim 1 (deferring.setClaim { ClaimUnit.reset with list := [(5, 2)] }) = true
    ∧ dropsClaim 1 (deferring.setClaim { ClaimUnit.reset with
        list := (List.range 8).map (fun i => (Fin.ofNat 256 (6 + i), 2)) }) = true := by decide +kernel

/-- An ADMIT for station 3 from station 1. -/
def admitFrame : Frame := ⟨1, 0, 0, .admission 3 0x000E⟩

/-- What an ADMIT for station 3, a member of s, leaves: excluded for REJOIN, then CATCHUP (log entries 12, 29). -/
def readmitted (s : State) : State :=
  let v := (s.acceptedFrom .A 1 0).decideExclude 3 .rejoin true
  let w := v.setPeer 3 { livePeer with
    state := .catchup, receipt := none, base := some v.seq.next, welcome := true, includesUs := false }
  (w.setMember { w.member with urgentStatus := true }).peersChanged none

/-- Station 2 of the group, LIVE, in CATCHUP, and LEAVING with nothing owned. -/
def everyState : List State := [group 2, inState .catchup (group 2), leaverBare]

theorem test_admit_member : (everyState.all (fun s => s.hearsFrame .A admitFrame
      && settles (.admitReceived (cleanFrame .A admitFrame)) s (readmitted s) && decide ((readmitted s).seq.next = 1)
      && decide (((readmitted s).peer 3).base = some 1))) = true := by decide +kernel

/-- An ADMIT for the one LIVE peer of a CATCHUP station puts it out of its group. -/
theorem test_admit_isolates : let s := inState .catchup ((group 2).setPeer 1 { livePeer with state := .catchup })
    let v := (s.acceptedFrom .A 1 0).decideExclude 3 .rejoin true
    s.hearsFrame .A admitFrame = true ∧ v.active = false
    ∧ settles (.admitReceived (cleanFrame .A admitFrame)) s v = true := by decide +kernel

theorem test_admit_catchup : let s := inState .catchup (group 2)
    let v := s.acceptedFrom .A 1 0
    let w := v.setPeer 4 { livePeer with state := .catchup, receipt := none, welcome := true, includesUs := false }
    s.isMember 4 = false ∧ settles (.admitReceived (cleanFrame .A ⟨1, 0, 0, .admission 4 0x001E⟩)) s
      ((w.setMember { w.member with urgentStatus := true }).peersChanged none) = true := by decide +kernel

/-! ## A change of a peer, told to the units -/

/-- The registrar is silent, in LIVE, CATCHUP and LEAVING. -/
theorem test_silence_registrar : (everyState.all (fun s =>
    let s := s.setPeer 1 { livePeer with silence := some 6144 }
    settles (.silenceTimeout 1) s (s.tickStamp.decideExclude 1 .silence true)
      && decide ((s.decideExclude 1 .silence true).member.registrar = if s.member.state = .live then 2 else 3)
      && decide (((s.decideExclude 1 .silence true).seq.queue.map (fun e => e.frame.payload)) = [.exclude 1 .silence])))
        = true := by decide +kernel

/-- A state whose replay queue is full. -/
def fullQueue (s : State) : State := (noRoom s).setSeq { s.seq with
  queue := generals ++ (List.range 4).map (fun i => entryOf ⟨1, 0, BitVec.ofNat 8 (28 + i), .exclude 7 .silence⟩ false none)
  next := 32 }

/-- A decided exclusion: nothing of a station that is no member, or where the station is in no group; listed, once, where no
entry is free; nothing asked for where the exclusion ends this station's membership (R60, R98). -/
theorem test_decide : let full := fullQueue (group 1)
    let listed := full.setMember { full.member with waitingExcludes := [(3, .replay)] }
    let last := inState .catchup ((group 2).setPeer 3 Peer.empty)
    same ((group 1).decideExclude 7 .silence true) (group 1) = true ∧ State.reset.active = false
    ∧ (full.exclude 3 .silence true).freeEntry = false
    ∧ (full.decideExclude 3 .silence true).member.waitingExcludes = [(3, .silence)]
    ∧ (listed.decideExclude 3 .silence true).member.waitingExcludes = [(3, .replay)]
    ∧ (last.exclude 1 .silence true).active = false ∧ (last.decideExclude 1 .silence true).seq.queue = [] := by
  decide +kernel

/-- Station 2 with a fetch slot for block 5 that has no source; station 3, its owner, shows LIVE (R112, log entry 30). -/
def starved : State := (sourceless none).setCopyUnit { CopyUnit.reset with slots := [⟨5, 0, 1, 7⟩] }

/-- What a STATUS of member p of s that shows it LIVE leaves. -/
def shownLive (s : State) (p : Station) (gained : Option Station) : State :=
  ((s.carried .A p).setPeer p { livePeer with receipt := none }).peersChanged gained

theorem test_status_feeds : let f : Frame := ⟨3, 0, 0, .status .live 0x000E 0 0 (List.replicate 15 0) []⟩
    let t := shownLive starved 3 (some 3)
    starved.hearsFrame .A f = true ∧ settles (.statusReceived (cleanFrame .A f)) starved t = true
    ∧ t.copy.slots = [⟨5, 3, 1, 0⟩] ∧ t.select.requests = [⟨.fetch 5, 3, starved.stamp + 1⟩]
    ∧ (starved.peersChanged none).copy.slots = [⟨5, 0, 1, 7⟩] := by decide +kernel

/-- The same STATUS with a welcome pair for a station that knows no expectation of its sender (R73). -/
theorem test_status_feeds_welcome : let s := starved.setPeer 3 { livePeer with state := .catchup, expect := none }
    let f : Frame := ⟨3, 0, 0, .status .live 0x000E 0 0 (List.replicate 15 0) [(2, 9)]⟩
    s.hearsFrame .A f = true ∧ settles (.statusReceived (cleanFrame .A f)) s
      ((((s.carried .A 3).setPeer 3 { livePeer with receipt := none, expect := some 9 }).setSeq { s.seq with
        owed := true, urgent := true, age := some 0 }).peersChanged (some 3)) = true := by decide +kernel

/-- The registrar of a CATCHUP station leaves: the next one is asked for the parts (R105), or the station isolates (R83). -/
theorem test_status_snapq : let f : Frame := ⟨1, 0, 0, .status .leaving 0x000E 0 0 (List.replicate 15 0) []⟩
    let left := fun s : State =>
      (((s.carried .A 1).setPeer 1 { livePeer with state := .leaving, receipt := none }).dropClaimant 1).peersChanged none
    let alone := catching.setPeer 3 { livePeer with state := .catchup }
    catching.hearsFrame .A f = true ∧ settles (.statusReceived (cleanFrame .A f)) catching (left catching) = true
    ∧ (left catching).copy.snapq = some 0 ∧ (left catching).select.requests = [⟨.snapq 0x0003, 3, catching.stamp + 1⟩]
    ∧ settles (.statusReceived (cleanFrame .A f)) alone (left alone) = true ∧ (left alone).member.state = .listening
    ∧ (left alone).log.offered = [(.membership, { cls := .groupDissolved })] := by decide +kernel

/-- Station 1 shows LIVE, and the registrar with a job is registrar no more (R129). -/
theorem test_status_abandons : let f : Frame := ⟨1, 0, 0, .status .live 0x000E 0 0 (List.replicate 15 0) []⟩
    let s := (orphanAt2.setPeer 1 { livePeer with state := .catchup }).setSettle (querying [])
    let s := s.setMember { s.member with registrar := 2 }
    s.hearsFrame .A f = true ∧ settles (.statusReceived (cleanFrame .A f)) s (shownLive s 1 (some 1)) = true
    ∧ (shownLive s 1 (some 1)).settle = { SettleUnit.reset with round := 1 }
    ∧ (shownLive s 1 (some 1)).member.registrar = 1 := by decide +kernel

/-- The source of a fetch slot is excluded: the attempt starts again, or waits where there is no source (R112). -/
theorem test_exclude_source : let t := (fetching 1).exclude 3 .silence false
    let u := ((fetching 1).setPeer 1 Peer.empty).exclude 3 .silence false
    t.copy.slots = [⟨5, 1, 1, 0⟩] ∧ t.select.requests = [⟨.fetch 5, 1, (fetching 1).stamp⟩]
    ∧ u.copy.slots = [⟨5, 0, 1, 0⟩] ∧ u.select.requests = []
    ∧ ((fetching 1).exclude 1 .silence false).copy.slots = [⟨5, 3, 1, 512⟩] := by decide +kernel

/-- The registrar of a CATCHUP station is excluded: a new SNAPQ (R105), or isolation, its incidents in the order of log
entry 36. -/
theorem test_exclude_catchup : let t := catching.exclude 1 .replay false
    let alone := catching.setPeer 3 { livePeer with state := .catchup }
    let out := alone.setMember { alone.member with leavePending := true }
    let gone : IncidentUnit × Offer := (.membership, { cls := .peerExcluded, peer := some 1, detail := 2 })
    t.copy.snapq = some 0 ∧ t.select.requests = [⟨.snapq 0x0003, 3, catching.stamp⟩]
    ∧ (alone.exclude 1 .replay true).member.state = .listening
    ∧ (alone.exclude 1 .replay true).log.offered = [gone, (.membership, { cls := .groupDissolved })]
    ∧ (out.exclude 1 .replay true).member.state = .departed
    ∧ (out.exclude 1 .replay true).log.offered = [gone, (.membership, { cls := .groupDissolved }),
        (.membership, { cls := .departed, detail := 1 })] := by decide +kernel

/-- An exclusion restarts a job in QUERYING: asked anew, decided at once, over, or abandoned (R128, R129, log entry 15). -/
theorem test_exclude_restarts : let s := (orphaned.setPeer 4 livePeer).setSettle (querying [4])
    let alone := orphaned.setSettle (querying [])
    let nobody := (group 1).setSettle (querying [])
    let lost := inState .leaving s
    (s.exclude 4 .settle true).settle = { querying [] with round := 2 } ∧ (s.exclude 4 .settle false).settle = s.settle
    ∧ same (s.exclude 4 .settle true) (s.exclude 4 .settle false).restartJob = true
    ∧ (alone.exclude 2 .settle true).settle.job = .announcing ∧ (alone.exclude 2 .settle true).settle.round = 2
    ∧ (nobody.exclude 3 .settle true).settle = { SettleUnit.reset with round := 1 }
    ∧ (lost.exclude 4 .settle true).settle = { SettleUnit.reset with round := 1 } := by decide +kernel

/-! ## A job with nobody to ask, and a long announce list -/

/-- A job starts where no LIVE or LEAVING peer is left to ask: it decides at once (R119, R125). -/
theorem test_job_alone : let s := orphaned.setPeer 2 { livePeer with state := .catchup }
    s.jobWanted = true ∧ settles .settleJobStart s ((s.tickStamp.setSettle { querying [] with
      answerers := [], queryTimer := none }).decideJob) = true := by decide +kernel

/-- Seventeen blocks are to be announced. -/
def announcingMany : State := orphaned.setSettle { SettleUnit.reset with
  job := .announcing, round := 1, announce := (List.range 17).map (fun i => ⟨Fin.ofNat 256 i, 1, 1, 0, 2⟩) }

/-- The first SETTLE carries 16 of them, and the next is asked for (R126). -/
theorem test_settle_many : let s := announcingMany
    let head := s.settle.announce.take 16
    let u := (s.tickStamp.enqueue (.settle 1 head)).setSettle { s.settle with
      announce := [⟨16, 1, 1, 0, 2⟩], announced := 16 }
    let t := head.foldl (fun u x => u.settleEntry 1 x) u
    s.freeEntry = true ∧ settles .settleEnqueue s t = true ∧ t.settleWaits = true := by decide +kernel

end Sys2Proof.Tests
end

section
/-! Window Memory keeps its canonical form over every step (R1, R22). -/

namespace Sys2Proof.Machine

/-! ## The operations that write Window Memory keep its canonical form -/

theorem State.wf_storeWord {s : State} (h : s.window.wf = true) (a : WindowAddr) (x : Word) :
    (s.storeWord a x).window.wf = true := Window.wf_store h a.isLt x

theorem State.wf_joinBatch {s : State} (h : s.window.wf = true) (a : WindowAddr) (x : Word) :
    (s.joinBatch a x).window.wf = true := State.wf_storeWord (by simpa using h) a x

theorem State.wf_applyFate {s : State} (h : s.window.wf = true) (a : WindowAddr) (x : Word) (f : WriteFate) :
    (s.applyFate a x f).window.wf = true := by
  have quiet : (s.setWrite { s.write with waiting := none }).window.wf = true := h
  cases f with
  | opens => exact State.wf_storeWord (by simpa using h) a x
  | replaces => exact State.wf_joinBatch quiet a x
  | appends => simpa [State.applyFate] using State.wf_joinBatch quiet a x
  | refused | closesFirst | replacesHeld | appendsHeld | waitsForBatch | waitsForRoom =>
    simpa [State.applyFate] using h

theorem State.wf_judgeWaiting {s : State} (h : s.window.wf = true) : s.judgeWaiting.window.wf = true := by
  unfold State.judgeWaiting
  split
  · exact h
  · exact State.wf_applyFate h _ _ _

theorem State.wf_commitHeld {s : State} (h : s.window.wf = true) (b : Block) : (s.commitHeld b).window.wf = true := by
  simpa [State.commitHeld] using Window.wf_storeBlock h b _

theorem State.wf_updateContent {s : State} (h : s.window.wf = true) (b : Block) (v : Version) (es : List WordWrite)
    (passed : Bool) : (s.updateContent b v es passed).window.wf = true := by
  have applied : (s.applyBatch b v es).window.wf = true := by
    simpa [State.applyBatch] using Window.wf_storeBlock h b es
  unfold State.updateContent
  split
  · split
    · exact applied
    · split <;> simpa using h
  · simpa using h
  · simpa using h
  · split <;> simpa using h

theorem State.wf_updateArrive {s : State} (h : s.window.wf = true) (p : Station) (b : Block) (e : Epoch) (v : Version)
    (es : List WordWrite) : (s.updateArrive p b e v es).window.wf = true := by
  have own : (if s.passes b e then ((s.takeOwner b p p e none).sendClaim b).grantSlot else s).window.wf = true := by
    split <;> simpa using h
  simp only [State.updateArrive]
  generalize (if s.passes b e then ((s.takeOwner b p p e none).sendClaim b).grantSlot else s) = u at own ⊢
  split
  · exact State.wf_updateContent own b v es _
  · split
    · simpa using own
    · exact own

theorem State.wf_copyArrive {s : State} (h : s.window.wf = true) (b : Block) (v : Version) (ws : List Word) :
    (s.copyArrive b v ws).window.wf = true := by
  have stored := Window.wf_storeBlock h b (writesOf ws)
  simp only [State.copyArrive]
  split
  · exact h
  · split <;> split <;> simpa using stored

/-! ## Delivery and its callers -/

theorem State.wf_accept {s : State} (h : s.window.wf = true) (f : Frame) : (s.accept f).window.wf = true := by
  have entries : ∀ {α : Type} (g : State → α → State), (∀ u x, (g u x).window = u.window) → ∀ es : List α,
      (es.foldl g s).window.wf = true := fun g hg es => by rwa [foldl_window g hg]
  unfold State.accept
  split
  case _ => simpa using h
  case _ => simpa using h
  case _ => exact State.wf_updateArrive h _ _ _ _ _
  case _ => exact entries _ (by simp) _
  case _ => exact entries _ (by simp) _
  all_goals exact h

theorem State.wf_sequenced {s : State} (h : s.window.wf = true) (f : Frame) : (s.sequenced f).window.wf = true := by
  have noted : (s.noteJudgement f.sender f.seq (s.judgeSeq f.sender f.seq)).window.wf = true := by simpa using h
  unfold State.sequenced
  dsimp only
  split
  · exact State.wf_accept noted f
  · exact noted

theorem State.wf_unsequenced {s : State} (h : s.window.wf = true) (f : Frame) :
    (s.unsequenced f).window.wf = true := by
  unfold State.unsequenced
  split
  case h_3 b v ws _ =>
    unfold State.copyOkArrive
    split
    · exact State.wf_copyArrive h b v ws
    · exact h
  all_goals simpa using h

theorem State.wf_deliverActive {s : State} (h : s.window.wf = true) (f : Frame) :
    (s.deliverActive f).window.wf = true := by
  unfold State.deliverActive
  split
  · split <;> simpa using h
  · simpa using h
  · split
    · exact State.wf_sequenced h f
    · split
      · exact h
      · exact State.wf_unsequenced h f

theorem State.wf_deliver {s : State} (h : s.window.wf = true) (f : Frame) : (s.deliver f).window.wf = true := by
  unfold State.deliver
  split
  · exact State.wf_deliverActive h f
  · split <;> simpa using h

theorem State.wf_judgeKind {s : State} (h : s.window.wf = true) (l : LaneId) (r : RawFrame) (k : Kind) :
    (s.judgeKind l r k).window.wf = true := by
  unfold State.judgeKind
  split
  · simpa using h
  · split
    · simpa using h
    · split
      · simpa using h
      · exact State.wf_deliver h _

theorem State.wf_judgeFrame {s : State} (h : s.window.wf = true) (l : LaneId) (r : RawFrame) :
    (s.judgeFrame l r).window.wf = true := by
  have heard : (s.hear r.sender).window.wf = true := by simpa using h
  simp only [State.judgeFrame]
  split
  · simpa using h
  · split
    · split <;> simpa using h
    · split
      · simpa using heard
      · exact State.wf_judgeKind heard l r _

theorem State.wf_frameIn {s : State} (h : s.window.wf = true) (rx : RxFrame) : (s.frameIn rx).window.wf = true := by
  have judge : ∀ (u : State) (l : LaneId) (f : FrameBuffer), u.window.wf = true →
      (u.judgeBuffer l f).window.wf = true := by
    intro u l f hu
    have weighed : (u.weigh l (frameNoise f) 1).window.wf = true := by simpa using hu
    simp only [State.judgeBuffer, State.goodFrame]
    split
    · simpa using hu
    · split
      · split
        · exact weighed
        · exact State.wf_judgeFrame weighed l _
      · simpa using hu
  simp only [State.frameIn]
  split
  · split
    · exact judge _ _ _ (by simpa using h)
    · simpa using h
  · simpa using h

/-! ## Events and steps -/

theorem State.wf_perform {s : State} (h : s.window.wf = true) (a : Act) : (s.perform a).window.wf = true := by
  cases a with
  | commit b => exact State.wf_commitHeld h b
  | judge => exact State.wf_judgeWaiting h
  | retire | departAlone | askLeave | release | closeDue | serve | heir | exclude | settle | startJob | openFetch
  | grantSlot => simpa [State.perform] using h

theorem State.wf_quiesceFor {s : State} (h : s.window.wf = true) (n : Nat) :
    (State.quiesceFor n s).window.wf = true := by
  induction n generalizing s with
  | zero => exact h
  | succ n ih =>
    unfold State.quiesceFor
    split
    · exact h
    · exact ih (State.wf_perform (by simpa using h) _)

theorem State.wf_settleEvent {s : State} (h : s.window.wf = true) : s.settleEvent.window.wf = true := by
  simpa [State.settleEvent, State.quiesce] using State.wf_quiesceFor h actLimit

/-- An event keeps the canonical form where its effect does. -/
theorem State.wf_event {s : State} (h : s.window.wf = true) {f : State → State}
    (hf : ∀ u : State, u.window.wf = true → (f u).window.wf = true) : (s.event f).window.wf = true := by
  unfold State.event
  split
  · exact h
  · exact State.wf_settleEvent (hf _ h)

/-- An event whose effect leaves the window alone. -/
theorem State.wf_event_of_window {s : State} (h : s.window.wf = true) {f : State → State}
    (hf : ∀ u : State, (f u).window = u.window) : (s.event f).window.wf = true :=
  State.wf_event h (fun u hu => by rwa [hf u])

theorem State.wf_portEvent {s : State} (h : s.window.wf = true) {f : State → State}
    (hf : ∀ u : State, u.window.wf = true → (f u).window.wf = true) : (s.portEvent f).window.wf = true := by
  unfold State.portEvent
  split
  · exact State.wf_event h hf
  · exact h

theorem State.wf_portAccess {s : State} (h : s.window.wf = true) {f : State → State}
    (hf : ∀ u : State, (f u).window = u.window) : (s.portAccess f).window.wf = true := by
  unfold State.portAccess
  split
  · rwa [hf]
  · exact h

/-- No COMMAND word writes Window Memory. -/
@[simp] theorem State.window_command (s : State) (w : Word) : (s.command w).window = s.window := by
  have judged : ∀ code low : Byte, ∀ u : State, ((judgeWord code low s).2 u).window = u.window := by
    intro code low u
    generalize hj : judgeWord code low = j
    unfold judgeWord at hj
    split at hj <;> subst hj
    · unfold judgeCommit; split <;> simp
    · unfold judgeClaim; repeat' split
      all_goals simp
    · unfold judgeRefresh; repeat' split
      all_goals simp
    · unfold judgeLeave; repeat' split
      all_goals simp
    · unfold judgeRejoin; split <;> simp
    · simp [judgeUnknown]
  unfold State.command State.commandWith
  split
  · rfl
  · simp [judged]

theorem exec_keeps_wf {s : State} (h : s.window.wf = true) (c : Instr) {t : State} (ht : exec c s = .next t) :
    t.window.wf = true := by
  cases c with
  | localWrite addr x =>
    cases ht
    split
    · exact State.wf_portEvent h (fun u hu => State.wf_judgeWaiting (by simpa using hu))
    · exact h
  | waitingWriteJudged => cases ht; exact State.wf_event h (fun u hu => State.wf_judgeWaiting hu)
  | heldWriteCommit b =>
    cases ht
    refine State.wf_event h (fun u hu => ?_)
    unfold State.commitIfReady
    split
    · exact State.wf_commitHeld hu b
    · exact hu
  | listenTimeout =>
    cases ht
    refine State.wf_event h (fun u hu => ?_)
    unfold State.listenExpires
    split
    · rfl
    · exact hu
  | resetAssert => cases ht; simpa [State.resetFalls] using h
  | resetRelease => cases ht; rfl
  | commit | claim | refresh | leave | rejoin | commandUnknown =>
    cases ht; exact State.wf_portEvent h (fun u hu => by simpa using hu)
  | incidentAck | unrecordedMaskWrite | noticeRead | watchMapWrite =>
    cases ht; exact State.wf_portAccess h (fun u => rfl)
  | stationAreaWriteIgnored => cases ht; exact h
  | statusReceived rx | joinReceived rx | admitReceived rx | updateReceived rx | claimReceived rx | handoverReceived rx
  | excludeReceived rx | fetchReceived rx | copyReceived rx | snapqReceived rx | snapReceived rx | queryReceived rx
  | versionsReceived rx | settleReceived rx | digestReceived rx | badFrameReceived rx | probationFrameReceived rx =>
    cases ht; exact State.wf_event h (fun u hu => State.wf_frameIn hu rx)
  | waitLimit | batchHold | dueBatchClose | abortMarkReceived | stuckLine | laneRestEnd | attemptStart | collision
  | abortMarkEnd | frameSent | claimTimeout | claimSlotGrant | handoverServe | replayTimeout | receiptAgeLimit
  | waitingExcludeEnqueue | joinTimeout | silenceTimeout | heirHandover | leaveExcludeRequest | departureEnd
  | snapqTimeout | fetchSlotOpen | fetchTimeout | holdEnd | settleJobStart | queryTimeout | settleEnqueue
  | deferenceEnd | digestTimeout | heartbeatTimeout =>
    cases ht; exact State.wf_event_of_window h (by simp)

/-- Settles O6: a command keeps the canonical form, and a character time leaves the window alone. -/
theorem stepKeepsWindowCanonical : Obligations.StepKeepsWindowCanonical := by
  intro s t h ht
  unfold step at ht
  split at ht
  · cases ht
    unfold State.idle
    split <;> exact h
  · exact exec_keeps_wf (by exact h) _ ht

end Sys2Proof.Machine
end

section
/-! Reset, the serial comparison, and the judgement of SNAP and DIGEST entries (R9, R19, R22, R135, R136). -/

namespace Sys2Proof.Machine

/-! ## Reset -/

theorem Lane.settled_reset (st : LaneState) : (Lane.reset st).settled = true := rfl

/-- The lists of a station that RESET has just released are all empty. -/
theorem State.bounded_released (stn : Station) (dual : Bool) (rate : BitVec 2) :
    (State.released stn dual rate).bounded = true := rfl

theorem State.linesSettled_released (stn : Station) (dual : Bool) (rate : BitVec 2) :
    (State.released stn dual rate).linesSettled = true := by
  simp [State.linesSettled, State.released, Lane.settled_reset]

/-- Settles O7: RESET release empties the window and every list, and leaves both lines settled. -/
theorem resetIsCanonicalAndBounded : Obligations.ResetIsCanonicalAndBounded :=
  ⟨Window.wf_nil, State.bounded_released 1 true 0, State.linesSettled_released 1 true 0, fun stn dual rate =>
    ⟨State.bounded_released stn dual rate, State.linesSettled_released stn dual rate⟩⟩

/-! ## Serial comparison (R9) -/

theorem later8_iff (a b : BitVec 8) : later8 a b = true ↔
    1 ≤ (a.toNat + 256 - b.toNat) % 256 ∧ (a.toNat + 256 - b.toNat) % 256 ≤ 127 := by
  have hb := b.isLt
  have e : (a - b).toNat = (a.toNat + 256 - b.toNat) % 256 := by
    rw [BitVec.toNat_sub]; congr 1; omega
  rw [later8, e, Bool.and_eq_true, decide_eq_true_eq, decide_eq_true_eq]

theorem later16_iff (a b : BitVec 16) : later16 a b = true ↔
    1 ≤ (a.toNat + 65536 - b.toNat) % 65536 ∧ (a.toNat + 65536 - b.toNat) % 65536 ≤ 32767 := by
  have hb := b.isLt
  have e : (a - b).toNat = (a.toNat + 65536 - b.toNat) % 65536 := by
    rw [BitVec.toNat_sub]; congr 1; omega
  rw [later16, e, Bool.and_eq_true, decide_eq_true_eq, decide_eq_true_eq]

/-- Settles O10: the difference of two serial values, in their ring, says which is later. -/
theorem serialComparison : Obligations.SerialComparison :=
  ⟨later8_iff, later16_iff, later8_irrefl, later16_irrefl, fun a => by simp [BitVec.toNat_add],
    fun a => by simp [BitVec.toNat_add]⟩

/-! ## SNAP and DIGEST entries (R19, R135, R136) -/

/-- A makeStale changes one entry: its copy is STALE. -/
theorem State.dir_makeStale (s : State) (b : Block) :
    (s.makeStale b).dir = (s.setEntry b { s.entry b with copy := .stale }).dir := by
  simp only [State.makeStale]
  split <;> rfl

theorem State.entry_of_dir {s t : State} (h : s.dir = t.dir) (b : Block) : s.entry b = t.entry b := by
  rw [State.entry, h, State.entry]

theorem State.entry_makeStale (s : State) (b c : Block) :
    (s.makeStale b).entry c = if c = b then { s.entry b with copy := .stale } else s.entry c := by
  rw [State.entry_of_dir (s.dir_makeStale b), State.entry_setEntry]

/-- A SNAP entry that is taken: its block's entry, and no other's (R19). -/
theorem State.entry_snapEntry {b : Block} {x : SnapEntry} {s : State}
    (h : (s.entry b).copy = .unknown ∨ later8 x.epoch (s.entry b).epoch = true) (c : Block) :
    (s.snapEntry b x).entry c = if c = b then { s.entry b with
      owner := if x.owner = s.own then 0 else x.owner, epoch := x.epoch, donor := none, copy := .stale }
    else s.entry c := by
  rw [State.snapEntry, State.passes, if_pos h]
  by_cases hc : c = b <;> simp [State.entry_makeStale, State.entry_setEntry, hc]

theorem State.snapEntry_of_not_taken {b : Block} {x : SnapEntry} {s : State} (hu : (s.entry b).copy ≠ .unknown)
    (he : later8 x.epoch (s.entry b).epoch = false) : s.snapEntry b x = s := by
  simp [State.snapEntry, State.passes, hu, he]

theorem State.raiseSeen_of_none {s : State} {b : Block} (h : (s.entry b).seen = none) (v : Version) :
    s.raiseSeen b v = s.setEntry b { s.entry b with seen := some v } := by
  simp [State.raiseSeen, h]

theorem State.raiseSeen_of_some {s : State} {b : Block} {w : Version} (h : (s.entry b).seen = some w) (v : Version) :
    s.raiseSeen b v = if later16 v w then s.setEntry b { s.entry b with seen := some v } else s := by
  simp [State.raiseSeen, h]

/-- Settles O57, case by case along Table 8-2. -/
theorem snapAndDigestEntryRules : Obligations.SnapAndDigestEntryRules := by
  constructor
  · intro b x s
    refine ⟨fun h => ?_, State.snapEntry_of_not_taken, by simp, fun c hc => ?_⟩
    · exact (State.entry_snapEntry h b).trans (if_pos rfl)
    · by_cases h : (s.entry b).copy = .unknown ∨ later8 x.epoch (s.entry b).epoch = true
      · rw [State.entry_snapEntry h, if_neg hc]
      · rw [not_or, Bool.not_eq_true] at h
        rw [State.snapEntry_of_not_taken h.1 h.2]
  · intro p d s
    dsimp only
    refine ⟨fun ho => by simp [State.digestEntry, ho], fun ho hc hv => ?_, fun ho hc hv => ?_, fun ho hc hv => ?_,
      fun ho hc => by simp [State.digestEntry, hc], fun ho hc => ⟨fun hs => ?_, fun w hs => ?_⟩⟩
    · simp [State.digestEntry, ho, hc, (orderVersion_of_later hv).2]
    · simp [State.digestEntry, ho, hc, (orderVersion_of_later hv).1, State.digestMismatch]
    · simp [State.digestEntry, ho, hc, hv, State.digestMismatch]
    · rw [← State.raiseSeen_of_none hs]
      obtain hc | hc := hc <;> simp [State.digestEntry, ho, hc]
    · rw [← State.raiseSeen_of_some hs]
      obtain hc | hc := hc <;> simp [State.digestEntry, ho, hc]

end Sys2Proof.Machine
end

section
/-! The words of the local port: the watch map, packed words, masks, views (R23, R174, Table 11-5). -/

namespace Sys2Proof.Machine

/-! ## Packed words -/

/-- A value below 2^n with another shifted in above it; k is 2^n. -/
theorem or_at_ {m n k : Nat} (hk : 2 ^ n = k) (hm : m < k) (y : Word) :
    BitVec.ofNat 16 m ||| at_ n y = BitVec.ofNat 16 (m + k * y.toNat) := by
  apply BitVec.eq_of_toNat_eq
  rw [at_, BitVec.toNat_or, BitVec.toNat_shiftLeft, BitVec.toNat_ofNat, BitVec.toNat_ofNat, ← Nat.or_mod_two_pow,
    Nat.or_comm, ← Nat.shiftLeft_add_eq_or_of_lt (hk ▸ hm), Nat.shiftLeft_eq, hk, Nat.add_comm, Nat.mul_comm]

/-- A word with the valid bit, 0x8000, set above the rest. -/
theorem or_valid {n : Nat} (hn : n < 0x8000) :
    (0x8000 : Word) ||| BitVec.ofNat 16 n = BitVec.ofNat 16 (0x8000 + n) := by
  rw [BitVec.or_comm, show (0x8000 : Word) = at_ 15 1 from rfl, or_at_ rfl hn, Nat.add_comm]
  rfl

@[simp] theorem toNat_stationWord (p : Station) : (stationWord p).toNat = p.val := by
  simp only [stationWord, BitVec.toNat_ofNat]
  omega

/-- A mask built from a list of stations in ascending order holds those and what it began with. -/
theorem testBit_foldl_two_pow (l : List Station) (hl : l.Pairwise (· < ·)) (a : Nat) (ha : ∀ p ∈ l, a < 2 ^ p.val)
    (k : Nat) : (l.foldl (fun n p => n + 2 ^ p.val) a).testBit k = (a.testBit k || decide (∃ p ∈ l, p.val = k)) := by
  induction l generalizing a with
  | nil => simp
  | cons p l ih =>
    obtain ⟨hp, hl⟩ := List.pairwise_cons.mp hl
    have hap : a < 2 ^ p.val := ha p (by simp)
    have grown : ∀ q ∈ l, a + 2 ^ p.val < 2 ^ q.val := by
      intro q hq
      have : 2 ^ (p.val + 1) ≤ 2 ^ q.val := Nat.pow_le_pow_right (by decide) (hp q hq)
      rw [Nat.pow_succ] at this
      omega
    have bit : (a + 2 ^ p.val).testBit k = (a.testBit k || decide (p.val = k)) := by
      have sum := Nat.two_pow_add_eq_or_of_lt hap 1
      rw [Nat.mul_one] at sum
      rw [Nat.add_comm, sum, Nat.testBit_or, Nat.testBit_two_pow, Bool.or_comm]
    rw [List.foldl_cons, ih hl _ grown, bit, Bool.or_assoc, ← Bool.decide_or]
    simp

theorem getLsbD_maskOf (f : Station → Bool) (p : Station) : (maskOf f).getLsbD p.val = (decide (p ≠ 0) && f p) := by
  have hs : ((List.finRange 16).filter (fun q => q.val != 0 && f q)).Pairwise (· < ·) :=
    (List.pairwise_lt_finRange 16).filter _
  have mem : ∀ q : Station, q ∈ (List.finRange 16).filter (fun q => q.val != 0 && f q) ↔ q ≠ 0 ∧ f q = true := by
    intro q
    simp only [List.mem_filter, List.mem_finRange, true_and, Bool.and_eq_true, bne_iff_ne, ne_eq, Fin.ext_iff,
      Fin.val_zero]
  have held : (∃ q ∈ (List.finRange 16).filter (fun q => q.val != 0 && f q), q.val = p.val)
      ↔ p ≠ 0 ∧ f p = true := by
    constructor
    · rintro ⟨q, hq, e⟩
      obtain rfl := Fin.ext e
      exact (mem q).mp hq
    · exact fun h => ⟨p, (mem p).mpr h, rfl⟩
  rw [maskOf, BitVec.getLsbD_ofNat, testBit_foldl_two_pow _ hs 0 (fun q _ => Nat.two_pow_pos _)]
  simp only [held, p.isLt, Nat.zero_testBit, Bool.decide_and, Bool.decide_eq_true, decide_true, Bool.true_and,
    Bool.false_or]

/-! ## The watch map -/

/-- A watch-map write sets the flags of its sixteen blocks and no others (R174). -/
theorem getLsbD_watchWith (map : BitVec 256) (i : Fin 16) (w : Word) (b : Block) :
    (watchWith map i.val w).getLsbD b.val
      = if b.val / 16 = i.val then w.getLsbD (b.val % 16) else map.getLsbD b.val := by
  have hb := b.isLt
  have ones : ∀ k, (0xFFFF#256).getLsbD k = decide (k < 16) := by
    intro k
    rw [show (0xFFFF#256) = (BitVec.allOnes 16).setWidth 256 from rfl, BitVec.getLsbD_setWidth, BitVec.getLsbD_allOnes,
      ← Bool.decide_and]
    exact decide_eq_decide.mpr (by omega)
  simp only [watchWith, BitVec.getLsbD_or, BitVec.getLsbD_and, BitVec.getLsbD_not, BitVec.getLsbD_shiftLeft,
    BitVec.getLsbD_setWidth, ones, hb, decide_true, Bool.true_and]
  by_cases h : b.val / 16 = i.val
  · have h1 : ¬ b.val < 16 * i.val := by omega
    have h2 : b.val - 16 * i.val = b.val % 16 := by omega
    have h3 : b.val % 16 < 256 := by omega
    simp [h, h1, h2, h3, Nat.mod_lt]
  · by_cases low : b.val < 16 * i.val
    · simp [h, low]
    · have high : ¬ b.val - 16 * i.val < 16 := by omega
      simp [h, high, BitVec.getLsbD_of_ge w _ (Nat.not_lt.mp high)]

theorem State.watched_watchMapWrite (s : State) (i : Fin 16) (w : Word) (b : Block) :
    (s.setPort { s.port with watch := watchWith s.port.watch i.val w }).watched b
      = if b.val / 16 = i.val then w.getLsbD (b.val % 16) else s.watched b :=
  getLsbD_watchWith s.port.watch i w b

theorem State.getLsbD_watchWord (s : State) (b : Block) :
    (s.watchWord (b.val / 16)).getLsbD (b.val % 16) = s.watched b := by
  simp [State.watchWord, State.watched, Nat.mod_lt, Nat.div_add_mod]

/-! ## Addresses -/

theorem State.readPort_window {s : State} (h : s.resetLow = false) (a : WindowAddr) :
    s.readPort (BitVec.ofNat 14 a.val) = s.window.read a.val := by
  have ha : (BitVec.ofNat 14 a.val).toNat = a.val := by rw [BitVec.toNat_ofNat]; omega
  simp [State.readPort, h, ha, a.isLt]

theorem State.readPort_area {s : State} (h : s.resetLow = false) {n : Nat} (lo : 0x2000 ≤ n) (hi : n < 0x4000) :
    s.readPort (BitVec.ofNat 14 n) = s.areaWord n := by
  have ha : (BitVec.ofNat 14 n).toNat = n := by rw [BitVec.toNat_ofNat]; omega
  simp [State.readPort, h, ha, Nat.not_lt.mpr lo]

/-- The addresses of no word (Table 11-5). -/
theorem State.areaWord_unused {s : State} {a : Nat}
    (h : a = 0x2007 ∨ (0x2013 ≤ a ∧ a ≤ 0x201F) ∨ (0x2030 ≤ a ∧ a ≤ 0x203F) ∨ (0x20C0 ≤ a ∧ a ≤ 0x3FFF)) :
    s.areaWord a = 0 := by
  unfold State.areaWord
  simp (disch := omega) only [if_neg]

/-- Word i of the watch map stands at 0x2020 + i. -/
theorem State.areaWord_watch (s : State) {i : Nat} (hi : i < 16) : s.areaWord (0x2020 + i) = s.watchWord i := by
  unfold State.areaWord
  simp (disch := omega) only [if_neg, if_pos, Nat.add_sub_cancel_left]

/-- Word i of the block-state view stands at 0x2040 + i. -/
theorem State.areaWord_blockState (s : State) {i : Nat} (hi : i < 64) :
    s.areaWord (0x2040 + i) = viewWord s.blockCode i := by
  unfold State.areaWord
  simp (disch := omega) only [if_neg, if_pos, Nat.add_sub_cancel_left]

/-- Word i of the owner view stands at 0x2080 + i. -/
theorem State.areaWord_owner (s : State) {i : Nat} (hi : i < 64) :
    s.areaWord (0x2080 + i) = viewWord (fun b => (s.entry b).owner.val) i := by
  unfold State.areaWord
  simp (disch := omega) only [if_neg, if_pos, Nat.add_sub_cancel_left]

/-! ## The words -/

theorem State.stateWord_eq (s : State) : s.stateWord
    = BitVec.ofNat 16 (s.member.state.code.toNat + 16 * s.member.own.val + 256 * s.member.registrar.val) := by
  have hc : s.member.state.code.toNat < 16 := by cases s.member.state <;> decide
  have code : s.stateWord = BitVec.ofNat 16 s.member.state.code.toNat ||| at_ 4 (stationWord s.member.own)
      ||| at_ 8 (stationWord s.member.registrar) := by rw [BitVec.ofNat_toNat]; rfl
  rw [code, or_at_ (k := 16) rfl hc, toNat_stationWord, or_at_ (k := 256) rfl (by omega), toNat_stationWord]

theorem State.laneWord_eq {s : State} {l : LaneId} (h : (s.lane l).score ≤ 64) :
    s.laneWord l = BitVec.ofNat 16 ((s.lane l).state.code.toNat + 256 * (s.lane l).score) := by
  have hc : (s.lane l).state.code.toNat < 256 := by cases (s.lane l).state <;> decide
  have score : (BitVec.ofNat 16 (s.lane l).score).toNat = (s.lane l).score := by rw [BitVec.toNat_ofNat]; omega
  have code : s.laneWord l
      = BitVec.ofNat 16 (s.lane l).state.code.toNat ||| at_ 8 (BitVec.ofNat 16 (s.lane l).score) := by
    rw [BitVec.ofNat_toNat]; rfl
  rw [code, or_at_ (k := 256) rfl hc, score]

/-- The codes of Table 11-3 are below 32. -/
theorem IncidentClass.code_lt (c : IncidentClass) : c.code < 32 := by cases c <;> decide

theorem Incident.flagsWord_eq (i : Incident) : i.flagsWord
    = BitVec.ofNat 16 (0x8000 + 4096 * (match i.what.lane with | none => 0 | some .A => 1 | some .B => 2)
      + 256 * (match i.what.peer with | none => 0 | some p => p.val) + i.what.cls.code) := by
  have hc := i.what.cls.code_lt
  have hp := (i.what.peer.getD 0).isLt
  have lane : (laneCode i.what.lane).toNat = (match i.what.lane with | none => 0 | some .A => 1 | some .B => 2) := by
    cases i.what.lane with
    | none => rfl
    | some l => cases l <;> rfl
  have peer : (i.what.peer.getD 0).val = (match i.what.peer with | none => 0 | some p => p.val) := by
    cases i.what.peer <;> rfl
  have hl : (laneCode i.what.lane).toNat < 4 := by rw [lane]; split <;> decide
  rw [← lane, ← peer]
  calc i.flagsWord
      = 0x8000 ||| (BitVec.ofNat 16 i.what.cls.code ||| at_ 8 (stationWord (i.what.peer.getD 0))
          ||| at_ 12 (laneCode i.what.lane)) := by rw [Incident.flagsWord]; ac_rfl
    _ = 0x8000 ||| BitVec.ofNat 16 (i.what.cls.code + 256 * (i.what.peer.getD 0).val
          + 4096 * (laneCode i.what.lane).toNat) := by
        rw [or_at_ (k := 256) rfl (by omega), toNat_stationWord, or_at_ (k := 4096) rfl (by omega)]
    _ = _ := by rw [or_valid (by omega)]; congr 1; omega

theorem Incident.blockWord_eq (i : Incident) :
    i.blockWord = (match i.what.block with | none => 0 | some b => BitVec.ofNat 16 (0x8000 + b.val)) := by
  unfold Incident.blockWord
  cases i.what.block with
  | none => rfl
  | some b => exact or_valid (by omega)

/-- A view of four-bit codes gives block b's in the four bits of its place (R174). -/
theorem viewWord_nibble {code : Block → Nat} (h : ∀ c, code c < 16) (b : Block) :
    (viewWord code (b.val / 4)).toNat / 16 ^ (b.val % 4) % 16 = code b := by
  have at0 := h (Fin.ofNat 256 (4 * (b.val / 4)))
  have at1 := h (Fin.ofNat 256 (4 * (b.val / 4) + 1))
  have at2 := h (Fin.ofNat 256 (4 * (b.val / 4) + 2))
  have at3 := h (Fin.ofNat 256 (4 * (b.val / 4) + 3))
  have self : Fin.ofNat 256 (4 * (b.val / 4) + b.val % 4) = b := by
    rw [Nat.div_add_mod]; exact Fin.ofNat_val_eq_self b
  have places : b.val % 4 = 0 ∨ b.val % 4 = 1 ∨ b.val % 4 = 2 ∨ b.val % 4 = 3 := by omega
  rw [viewWord, BitVec.toNat_ofNat]
  obtain e | e | e | e := places <;> rw [e] at self ⊢
  · rw [Nat.add_zero] at self; rw [self] at at0 ⊢; omega
  · rw [self] at at1 ⊢; omega
  · rw [self] at at2 ⊢; omega
  · rw [self] at at3 ⊢; omega

theorem State.blockCode_eq (s : State) (b : Block) : s.blockCode b
    = (match (s.entry b).copy with | .unknown => 0 | .stale => 1 | .fetching => 2 | .current => 3)
      + (if s.owned b then 4 else 0) + (if s.hasHeld b = true ∨ s.claimSlot b ≠ none then 8 else 0) := by
  have held : s.heldOrClaim b = true ↔ s.hasHeld b = true ∨ s.claimSlot b ≠ none := by
    simp [State.heldOrClaim, Option.isSome_iff_ne_none]
  simp only [State.blockCode, held]
  rfl

theorem State.blockCode_lt (s : State) (b : Block) : s.blockCode b < 16 := by
  have copy : (s.entry b).copy.code < 4 := by cases (s.entry b).copy <;> decide
  unfold State.blockCode
  split <;> split <;> omega

/-! ## The statement -/

/-- A watch-map write is a port access that changes the watch flags alone. -/
theorem exec_watchMapWrite {s : State} (h : s.portFree = true) (i : Fin 16) (w : Word) :
    exec (.watchMapWrite i w) s = .next (s.setPort { s.port with watch := watchWith s.port.watch i.val w }) := by
  show Host.Outcome.next (s.portAccess _) = _
  rw [State.portAccess, if_pos h]

/-- Settles O14: the words of Table 11-5 one by one, and what a watch-map write sets. -/
theorem watchMapWriteSetsSixteen : Obligations.WatchMapWriteSetsSixteen := by
  constructor
  · intro i w s h
    exact ⟨⟨_, exec_watchMapWrite h i w, rfl, s.watched_watchMapWrite i w⟩, fun _ => rfl⟩
  · intro s h
    have area : ∀ {n : Nat}, 0x2000 ≤ n → n < 0x4000 → s.readPort (BitVec.ofNat 14 n) = s.areaWord n :=
      fun lo hi => State.readPort_area h lo hi
    have word : ∀ n < 0x20C0, 0x2000 ≤ n → s.readPort (BitVec.ofNat 14 n) = s.areaWord n :=
      fun n hi lo => area lo (by omega)
    refine ⟨State.readPort_window h, (word 0x2000 (by decide) (by decide)).trans s.stateWord_eq, ?_, ?_, ?_,
      word 0x2005 (by decide) (by decide), word 0x2006 (by decide) (by decide), ?_, ?_,
      word 0x200E (by decide) (by decide), word 0x2010 (by decide) (by decide), ?_⟩
    · intro l hl
      cases l with
      | A => exact (word 0x2001 (by decide) (by decide)).trans (State.laneWord_eq hl)
      | B => exact (word 0x2002 (by decide) (by decide)).trans (State.laneWord_eq hl)
    · intro p
      have members : s.readPort 0x2003 = s.membersWord := word 0x2003 (by decide) (by decide)
      have live : s.readPort 0x2004 = s.liveWord := word 0x2004 (by decide) (by decide)
      rw [members, live]
      exact ⟨getLsbD_maskOf _ p, getLsbD_maskOf _ p⟩
    · intro a ha
      rw [area (by omega) (by omega), State.areaWord_unused ha]
    · intro he n hn
      have head : ∀ f, s.headWord f = 0 := by simp [State.headWord, he]
      rw [area (by omega) (by omega)]
      interval_cases n <;> exact head _
    · intro i rest hi
      have head : ∀ f, s.headWord f = f i := by simp [State.headWord, hi]
      have high : s.readPort 0x200C = i.time.extractLsb' 16 16 := (word 0x200C (by decide) (by decide)).trans (head _)
      have low : s.readPort 0x200D = i.time.extractLsb' 0 16 := (word 0x200D (by decide) (by decide)).trans (head _)
      have ht := i.time.isLt
      refine ⟨((word 0x2008 (by decide) (by decide)).trans (head _)).trans i.flagsWord_eq,
        (word 0x2009 (by decide) (by decide)).trans (head _),
        ((word 0x200A (by decide) (by decide)).trans (head _)).trans i.blockWord_eq,
        (word 0x200B (by decide) (by decide)).trans (head _), ?_, ?_⟩
      · rw [high, BitVec.extractLsb'_toNat, Nat.shiftRight_eq_div_pow]
        omega
      · rw [low, BitVec.extractLsb'_toNat, Nat.shiftRight_zero]
    · intro b
      have hb := b.isLt
      refine ⟨?_, ?_, ?_⟩
      · rw [area (by omega) (by omega), s.areaWord_watch (by omega), s.getLsbD_watchWord]
      · rw [area (by omega) (by omega), s.areaWord_blockState (by omega), viewWord_nibble s.blockCode_lt]
        exact s.blockCode_eq b
      · rw [area (by omega) (by omega), s.areaWord_owner (by omega), viewWord_nibble (fun c => (s.entry c).owner.isLt)]

end Sys2Proof.Machine
end

section
/-! What a station sends is what a receiver reads: every field, payload and frame is read back from its bytes (R156 to R162). -/

namespace Sys2Proof

open Machine

/-! ## Fields -/

@[simp] theorem wordOf_hi_lo (w : Word) : wordOf (hiByte w) (loByte w) = w := by
  apply BitVec.eq_of_toNat_eq
  have hw := w.isLt
  simp only [wordOf, hiByte, loByte, BitVec.toNat_append, BitVec.extractLsb'_toNat, Nat.shiftRight_eq_div_pow]
  rw [← Nat.shiftLeft_add_eq_or_of_lt (by omega), Nat.shiftLeft_eq]
  omega

@[simp] theorem toNat_byteOf {n : Nat} (h : n < 256) : (byteOf n).toNat = n := by
  rw [byteOf, BitVec.toNat_ofNat]
  omega

@[simp] theorem blockAt_byteOf (b : Block) : blockAt (byteOf b.val) = b := Fin.ext (toNat_byteOf b.isLt)

theorem stationAt_byteOf {lo : Nat} {p : Station} (h : lo ≤ p.val) : stationAt lo (byteOf p.val) = some p := by
  have hp : (byteOf p.val).toNat = p.val := toNat_byteOf (by omega)
  simp [stationAt, hp, h]

@[simp] theorem ofCode_code (k : Kind) : Kind.ofCode k.code = some k := by cases k <;> rfl
@[simp] theorem memberState_ofCode_code (m : MemberState) : MemberState.ofCode m.code = some m := by cases m <;> rfl
@[simp] theorem cause_ofCode_code (c : Cause) : Cause.ofCode c.code = some c := by cases c <;> rfl

theorem countOk_byteOf {lo hi n : Nat} (hlo : lo ≤ n) (hhi : n ≤ hi) (h : hi < 256) :
    countOk (byteOf n) lo hi n = true := by
  simp [countOk, toNat_byteOf (Nat.lt_of_le_of_lt hhi h), hlo, hhi]

/-! ## Repeated groups -/

theorem readWrites_bytes (es : List WordWrite) : readWrites (es.flatMap WordWrite.bytes) = some es := by
  induction es with
  | nil => rfl
  | cons e es ih =>
    have ho : (byteOf e.offset.val).toNat = e.offset.val := toNat_byteOf (by omega)
    simp [WordWrite.bytes, wordBytes, readWrites, ho, ih]

theorem readHandovers_bytes (es : List HandoverEntry) :
    readHandovers (es.flatMap HandoverEntry.bytes) = some es := by
  induction es with
  | nil => rfl
  | cons e es ih => simp [HandoverEntry.bytes, wordBytes, readHandovers, ih]

theorem readSettles_bytes {es : List SettleEntry} (h : ∀ e ∈ es, 1 ≤ e.owner.val ∧ 1 ≤ e.donor.val) :
    readSettles (es.flatMap SettleEntry.bytes) = some es := by
  induction es with
  | nil => rfl
  | cons e es ih =>
    obtain ⟨ho, hd⟩ := h e (by simp)
    have tail := ih (fun x hx => h x (by simp [hx]))
    simp [SettleEntry.bytes, wordBytes, readSettles, stationAt_byteOf ho, stationAt_byteOf hd, tail]

theorem readSnaps_bytes (es : List SnapEntry) : readSnaps (es.flatMap SnapEntry.bytes) = some es := by
  induction es with
  | nil => rfl
  | cons e es ih => simp [SnapEntry.bytes, wordBytes, readSnaps, stationAt_byteOf (Nat.zero_le _), ih]

theorem readVersions_bytes (es : List VersionsEntry) : readVersions (es.flatMap VersionsEntry.bytes) = some es := by
  induction es with
  | nil => rfl
  | cons e es ih =>
    obtain ⟨b, ep, v, o, c⟩ := e
    have flags : (byteOf (o.toNat + 2 * c.toNat)).toNat < 4 ∧ (byteOf (o.toNat + 2 * c.toNat)).getLsbD 0 = o
        ∧ (byteOf (o.toNat + 2 * c.toNat)).getLsbD 1 = c := by revert o c; decide
    obtain ⟨small, owned, current⟩ := flags
    simp only [List.flatMap_cons, VersionsEntry.bytes, wordBytes, List.cons_append, List.nil_append, readVersions, small,
      owned, current, if_true, ih, Option.map_some, blockAt_byteOf, wordOf_hi_lo]

theorem readDigests_bytes (es : List DigestEntry) : readDigests (es.flatMap DigestEntry.bytes) = some es := by
  induction es with
  | nil => rfl
  | cons e es ih => simp [DigestEntry.bytes, wordBytes, readDigests, ih]

theorem readWelcome_bytes {ws : List (Station × SeqNo)} (h : ∀ w ∈ ws, 1 ≤ w.1.val) :
    readWelcome (ws.flatMap welcomeBytes) = some ws := by
  induction ws with
  | nil => rfl
  | cons w ws ih =>
    have tail := ih (fun x hx => h x (by simp [hx]))
    simp [welcomeBytes, readWelcome, stationAt_byteOf (h w (by simp)), tail]

theorem readWords_bytes (ws : List Word) : readWords (ws.flatMap wordBytes) = some ws := by
  induction ws with
  | nil => rfl
  | cons w ws ih => simp [wordBytes, readWords, ih]

/-! ## Payloads -/

/-- The fields of every payload that is in its ranges are read back from its bytes. -/
theorem readFields_bytes {sender : Station} {p : Payload} (h : p.ok sender = true) :
    readFields p.kind p.bytes = some p := by
  cases p with
  | status st mask next known receipts welcome =>
    simp only [Payload.ok, Bool.and_eq_true, decide_eq_true_eq, List.all_eq_true] at h
    obtain ⟨⟨⟨⟨_, hr⟩, hw⟩, hall⟩, _⟩ := h
    have pairs := readWelcome_bytes (ws := welcome) (fun w hw => (hall w hw).1)
    have count := countOk_byteOf (Nat.zero_le _) hw (by decide)
    simp [Payload.kind, Payload.bytes, wordBytes, readFields, ← hr, pairs, count, onlyIf]
  | join => rfl
  | admission j mask =>
    simp only [Payload.ok, Bool.and_eq_true, decide_eq_true_eq] at h
    obtain ⟨⟨⟨⟨hj, _⟩, _⟩, _⟩, _⟩ := h
    simp [Payload.kind, Payload.bytes, wordBytes, readFields, stationAt_byteOf hj]
  | update b e v es =>
    simp only [Payload.ok, Bool.and_eq_true, decide_eq_true_eq] at h
    simp [Payload.kind, Payload.bytes, wordBytes, readFields, readWrites_bytes, countOk_byteOf h.1 h.2 (by decide), onlyIf]
  | claim b a =>
    simp only [Payload.ok, Bool.and_eq_true, decide_eq_true_eq] at h
    have ha : (byteOf a).toNat = a := toNat_byteOf (by omega)
    simp [Payload.kind, Payload.bytes, readFields, ha]
  | handover n es =>
    simp only [Payload.ok, Bool.and_eq_true, decide_eq_true_eq] at h
    obtain ⟨⟨⟨⟨hn, _⟩, lo⟩, hi⟩, _⟩ := h
    simp [Payload.kind, Payload.bytes, readFields, stationAt_byteOf hn, readHandovers_bytes,
      countOk_byteOf lo hi (by decide), onlyIf]
  | exclude p c =>
    simp only [Payload.ok, Bool.and_eq_true, decide_eq_true_eq] at h
    simp [Payload.kind, Payload.bytes, readFields, stationAt_byteOf h.1]
  | fetch b => simp [Payload.kind, Payload.bytes, readFields]
  | copyOk b v ws => simp [Payload.kind, Payload.bytes, wordBytes, readFields, readWords_bytes]
  | copyNotCurrent b v => simp [Payload.kind, Payload.bytes, wordBytes, readFields]
  | snapq m => simp [Payload.kind, Payload.bytes, wordBytes, readFields]
  | snap p es =>
    simp [Payload.kind, Payload.bytes, readFields, stationAt_byteOf (Nat.zero_le _), readSnaps_bytes]
  | query r bm => rfl
  | versions r last es =>
    simp only [Payload.ok, Bool.and_eq_true, decide_eq_true_eq] at h
    obtain ⟨⟨lo, hi⟩, _⟩ := h
    have flag : (byteOf last.toNat).toNat < 2 ∧ (byteOf last.toNat).getLsbD 0 = last := by revert last; decide
    obtain ⟨small, bit⟩ := flag
    simp only [Payload.kind, Payload.bytes, readFields, small, bit, if_true, readVersions_bytes, Option.bind_some,
      countOk_byteOf lo hi (by decide), onlyIf]
  | settle r es =>
    simp only [Payload.ok, Bool.and_eq_true, decide_eq_true_eq, List.all_eq_true] at h
    obtain ⟨⟨⟨lo, hi⟩, _⟩, hall⟩ := h
    simp [Payload.kind, Payload.bytes, readFields, readSettles_bytes hall, countOk_byteOf lo hi (by decide), onlyIf]
  | digest es =>
    simp only [Payload.ok, Bool.and_eq_true, decide_eq_true_eq] at h
    simp [Payload.kind, Payload.bytes, readFields, readDigests_bytes, countOk_byteOf h.1 h.2 (by decide), onlyIf]

theorem readPayload_bytes {sender : Station} {p : Payload} (h : p.ok sender = true) :
    readPayload p.kind sender p.bytes = some p := by
  simp [readPayload, readFields_bytes h, h, onlyIf]

/-- Groups of k bytes each. -/
theorem length_flatMap_of {α : Type} {f : α → List Byte} {k : Nat} (h : ∀ x, (f x).length = k) (xs : List α) :
    (xs.flatMap f).length = k * xs.length := by
  induction xs with
  | nil => rfl
  | cons x xs ih => simp [h, ih, Nat.mul_succ, Nat.add_comm]

@[simp] theorem length_wordBytes (w : Word) : (wordBytes w).length = 2 := rfl

/-- No payload is longer than 120 bytes (Table 10-1). -/
theorem length_payload_le {sender : Station} {p : Payload} (h : p.ok sender = true) : p.bytes.length ≤ 120 := by
  have writes := length_flatMap_of (f := WordWrite.bytes) (k := 3) (fun _ => rfl)
  have handovers := length_flatMap_of (f := HandoverEntry.bytes) (k := 4) (fun _ => rfl)
  have settles := length_flatMap_of (f := SettleEntry.bytes) (k := 6) (fun _ => rfl)
  have snaps := length_flatMap_of (f := SnapEntry.bytes) (k := 4) (fun _ => rfl)
  have versions := length_flatMap_of (f := VersionsEntry.bytes) (k := 5) (fun _ => rfl)
  have digests := length_flatMap_of (f := DigestEntry.bytes) (k := 5) (fun _ => rfl)
  have pairs := length_flatMap_of (f := welcomeBytes) (k := 2) (fun _ => rfl)
  have words := length_flatMap_of (f := wordBytes) (k := 2) (fun _ => rfl)
  cases p with
  | join | admission | claim | exclude | fetch | copyNotCurrent | snapq => simp [Payload.bytes]
  | status | update | handover | copyOk | snap | query | versions | settle | digest =>
    simp only [Payload.ok, Bool.and_eq_true, decide_eq_true_eq] at h
    simp only [Payload.bytes, List.length_cons, List.length_append, length_wordBytes, writes, handovers, settles, snaps,
      versions, digests, pairs, words]
    omega

/-! ## Frames -/

/-- The header fields of a frame, its payload and what the CRC covers, taken from its bytes (Table 10-1). -/
theorem rawFrame_bytes {f : Frame} (h : f.payload.bytes.length ≤ 120) :
    rawFrame f.bytes = ⟨f.payload.kind.code, f.sender, f.target, f.seq, f.payload.bytes⟩ := by
  have hst : (byteOf (16 * f.sender.val + f.target.val)).toNat = 16 * f.sender.val + f.target.val :=
    toNat_byteOf (by omega)
  have hl : (byteOf f.payload.bytes.length).toNat = f.payload.bytes.length := toNat_byteOf (by omega)
  have hs : Fin.ofNat 16 ((16 * f.sender.val + f.target.val) / 16) = f.sender := by
    apply Fin.ext; simp only [Fin.ofNat]; omega
  have ht : Fin.ofNat 16 ((16 * f.sender.val + f.target.val) % 16) = f.target := by
    apply Fin.ext; simp only [Fin.ofNat]; omega
  have header : f.bytes = f.payload.kind.code :: byteOf (16 * f.sender.val + f.target.val) :: f.seq ::
      byteOf f.payload.bytes.length :: (f.payload.bytes ++ wordBytes (crc f.body)) := rfl
  simp only [rawFrame, header, List.getD_cons_zero, List.getD_cons_succ, List.drop_succ_cons, List.drop_zero, hst, hl, hs,
    ht, List.take_left]

theorem verdict_bytes {f : Frame} (h : f.payload.bytes.length ≤ 120) :
    ({ FrameBuffer.empty with chars := f.bytes, count := f.bytes.length } : FrameBuffer).verdict = none := by
  have hl : (byteOf f.payload.bytes.length).toNat = f.payload.bytes.length := toNat_byteOf (by omega)
  have hb : f.body.length = f.payload.bytes.length + 4 := rfl
  have hn : f.bytes.length = f.body.length + 2 := by simp [Frame.bytes, wordBytes]
  have h3 : (f.bytes.getD 3 0).toNat = f.payload.bytes.length := hl
  have hi : f.bytes.getD f.body.length 0 = hiByte (crc f.body) := by simp [Frame.bytes, wordBytes]
  have lo : f.bytes.getD (f.body.length + 1) 0 = loByte (crc f.body) := by simp [Frame.bytes, wordBytes]
  have body : f.bytes.take f.body.length = f.body := by simp [Frame.bytes]
  have sized : ¬ (f.body.length + 2 > Config.frameMax ∨ f.body.length + 2 < Config.frameMin
      ∨ f.body.length + 2 ≠ (f.bytes.getD 3 0).toNat + 6) := by
    rw [h3]; simp only [Config.frameMax, Config.frameMin]; omega
  simp only [FrameBuffer.verdict, FrameBuffer.empty, hn, Bool.false_eq_true, if_false, false_or, if_neg sized,
    Nat.add_sub_cancel, show f.body.length + 2 - 1 = f.body.length + 1 from rfl, hi, lo, body, wordOf_hi_lo, ne_eq,
    not_true]

/-- The bytes of every well-formed frame are read back as that frame (R144, R161, R162). -/
theorem readFrame_bytes {f : Frame} (h : Frame.wellFormed f = true) : readFrame f.bytes = some f := by
  simp only [Frame.wellFormed, Bool.and_eq_true, decide_eq_true_eq, beq_iff_eq] at h
  obtain ⟨⟨hs, ht⟩, hp⟩ := h
  have hl := length_payload_le hp
  have hs' : f.sender.val ≠ 0 := fun e => hs (Fin.ext e)
  have ht' : f.payload.kind.toOne = decide (f.target.val ≠ 0) := by
    rw [ht]; exact decide_eq_decide.mpr (not_congr Fin.ext_iff)
  simp only [readFrame, verdict_bytes hl, rawFrame_bytes hl, ofCode_code, readPayload_bytes hp, if_true, ht', hs', ne_eq,
    not_false_eq_true, and_self, Option.map_some]

end Sys2Proof
end

section
/-! A frame heard in CATCHUP, LIVE or LEAVING: the station when the frame's unit sees it, and the judgement of a sequenced frame (R71, R90, R144, Table 4-3). -/

namespace Sys2Proof.Machine

/-! ## The station that has carried a frame -/

/-- Hearing a station changes the peer table alone (R90). -/
theorem State.hear_eq (s : State) (p : Station) :
    s.hear p = s.setMember { s.member with peers := (s.hear p).member.peers } := by
  unfold State.hear
  split <;> rfl

@[simp] theorem State.dir_hear (s : State) (p : Station) : (s.hear p).dir = s.dir := by rw [s.hear_eq p]; rfl
@[simp] theorem State.claim_hear (s : State) (p : Station) : (s.hear p).claim = s.claim := by rw [s.hear_eq p]; rfl
@[simp] theorem State.seq_hear (s : State) (p : Station) : (s.hear p).seq = s.seq := by rw [s.hear_eq p]; rfl
@[simp] theorem State.copy_hear (s : State) (p : Station) : (s.hear p).copy = s.copy := by rw [s.hear_eq p]; rfl
@[simp] theorem State.port_hear (s : State) (p : Station) : (s.hear p).port = s.port := by rw [s.hear_eq p]; rfl
@[simp] theorem State.own_hear (s : State) (p : Station) : (s.hear p).member.own = s.member.own := by
  rw [s.hear_eq p]; rfl
@[simp] theorem State.state_hear (s : State) (p : Station) : (s.hear p).member.state = s.member.state := by
  rw [s.hear_eq p]; rfl

theorem State.peer_hear (s : State) (p q : Station) :
    (s.hear p).peer q = if q = p ∧ s.isMember p = true then { s.peer q with silence := some 0 } else s.peer q := by
  by_cases hm : s.isMember p = true
  · by_cases hq : q = p <;> simp [State.hear, hm, State.peer_setPeer, hq]
  · simp [State.hear, hm]

@[simp] theorem State.window_carried (s : State) (l : LaneId) (p : Station) : (s.carried l p).window = s.window := by
  simp [State.carried]
@[simp] theorem State.dir_carried (s : State) (l : LaneId) (p : Station) : (s.carried l p).dir = s.dir := by
  simp [State.carried]
@[simp] theorem State.claim_carried (s : State) (l : LaneId) (p : Station) : (s.carried l p).claim = s.claim := by
  simp [State.carried]
@[simp] theorem State.seq_carried (s : State) (l : LaneId) (p : Station) : (s.carried l p).seq = s.seq := by
  simp [State.carried]
@[simp] theorem State.copy_carried (s : State) (l : LaneId) (p : Station) : (s.carried l p).copy = s.copy := by
  simp [State.carried]
@[simp] theorem State.port_carried (s : State) (l : LaneId) (p : Station) : (s.carried l p).port = s.port := by
  simp [State.carried]
@[simp] theorem State.member_own_carried (s : State) (l : LaneId) (p : Station) :
    (s.carried l p).member.own = s.member.own := by simp [State.carried]
@[simp] theorem State.own_carried (s : State) (l : LaneId) (p : Station) : (s.carried l p).own = s.own :=
  s.member_own_carried l p
@[simp] theorem State.member_state_carried (s : State) (l : LaneId) (p : Station) :
    (s.carried l p).member.state = s.member.state := by simp [State.carried]
@[simp] theorem State.state_carried (s : State) (l : LaneId) (p : Station) : (s.carried l p).state = s.state :=
  s.member_state_carried l p

theorem State.peer_carried (s : State) (l : LaneId) (p q : Station) : (s.carried l p).peer q
    = if q = p ∧ s.isMember p = true then { s.peer q with silence := some 0 } else s.peer q := by
  rw [State.carried, State.peer_hear]
  cases l <;> rfl

/-- Hearing a station restarts a timer, and no more of its entry (R90). -/
theorem State.peer_carried_but_silence (s : State) (l : LaneId) (p q : Station) :
    (s.carried l p).peer q = { s.peer q with silence := ((s.carried l p).peer q).silence } := by
  rw [State.peer_carried]
  split <;> rfl

@[simp] theorem State.peerState_carried (s : State) (l : LaneId) (p q : Station) :
    ((s.carried l p).peer q).state = (s.peer q).state := by rw [State.peer_carried_but_silence]

@[simp] theorem State.expect_carried (s : State) (l : LaneId) (p q : Station) :
    ((s.carried l p).peer q).expect = (s.peer q).expect := by rw [State.peer_carried_but_silence]

@[simp] theorem State.active_carried (s : State) (l : LaneId) (p : Station) : (s.carried l p).active = s.active := by
  simp [State.active]

@[simp] theorem State.entry_carried (s : State) (l : LaneId) (p : Station) (b : Block) :
    (s.carried l p).entry b = s.entry b := by simp [State.entry]

@[simp] theorem State.isMember_carried (s : State) (l : LaneId) (p q : Station) :
    (s.carried l p).isMember q = s.isMember q := by simp [State.isMember]

/-! ## Delivery -/

/-- The event of a frame heard: its delivery at its unit (R165). -/
theorem State.event_of_hearing {s : State} {l : LaneId} {f : Frame} (h : s.hearsFrame l f = true) :
    s.event (·.frameIn (cleanFrame l f)) = ((s.carried l f.sender).deliverActive f).settleEvent := by
  have hc := State.canHear_of_hears h
  have wf : Frame.wellFormed f = true := by
    simp only [State.canHear, Bool.and_eq_true] at hc
    exact hc.1.1.2
  have active : (s.carried l f.sender).active = true := by
    simp only [State.hearsFrame, Bool.and_eq_true] at h
    rw [State.active_carried, h.1]
  rw [State.event_of_canHear hc (readFrame_bytes wf), State.deliver, if_pos active]

theorem State.active_of_hears {s : State} {l : LaneId} {f : Frame} (h : s.hearsFrame l f = true) :
    s.active = true := by
  simp only [State.hearsFrame, Bool.and_eq_true] at h
  exact h.1

/-- A frame that is neither sequenced nor a STATUS nor a JOIN goes to its unit, but from an EXCLUDED station (R89, R165). -/
theorem State.deliverActive_unsequenced {s : State} {f : Frame} (hk : f.payload.kind.sequenced = false)
    (hs : f.payload.kind ≠ .status) (hj : f.payload.kind ≠ .join) :
    s.deliverActive f = if (s.peer f.sender).state = .excluded then s else s.unsequenced f := by
  unfold State.deliverActive
  split
  · next h => exact absurd (by rw [h]; rfl) hs
  · next h => exact absurd (by rw [h]; rfl) hj
  · rw [hk]
    rfl

/-! ## The judgement of a sequenced frame (Table 4-3) -/

theorem SeqUnit.owe_eq (q : SeqUnit) :
    q.owe = { q with owed := true, age := if q.owed then q.age else some 0 } := by
  obtain ⟨n, es, owed, u, a, age⟩ := q
  cases owed <;> rfl

theorem SeqUnit.oweAccepted_eq (q : SeqUnit) : q.oweAccepted = { q with
    owed := true, accepted := min (q.accepted + 1) 8, urgent := q.urgent || decide (8 ≤ q.accepted + 1)
    age := if q.owed then q.age else some 0 } := by
  rw [SeqUnit.oweAccepted, SeqUnit.owe_eq]
  rfl

/-- In sequence: the frame goes to its unit, the expectation moves on, a receipt is owed. -/
theorem State.sequenced_accepted {s : State} {l : LaneId} {p : Station} {q : SeqNo} (ha : s.active = true)
    (hm : (s.peer p).state.member = true) (he : (s.peer p).expect = some q) (target : Station)
    (y : Payload) :
    (s.carried l p).sequenced ⟨p, target, q, y⟩ = (s.acceptedFrom l p q).accept ⟨p, target, q, y⟩ := by
  have hm' : s.isMember p = true := hm
  have judged : (s.carried l p).judgeSeq p q = .accepted := by simp [State.judgeSeq, ha, hm', he]
  have heard : (s.carried l p).peer p = { s.peer p with silence := some 0 } := by
    rw [State.peer_carried, if_pos ⟨rfl, hm'⟩]
  simp only [State.sequenced, judged, State.noteJudgement, heard, State.seq_carried, if_true]
  rfl

/-- Past a gap: a receipt is owed and urgent. -/
theorem State.sequenced_gap {s : State} {l : LaneId} {p : Station} {q : SeqNo} {x : SeqNo} (ha : s.active = true)
    (hm : (s.peer p).state.member = true) (he : (s.peer p).expect = some x)
    (hx : later8 q x = true) (target : Station) (y : Payload) :
    (s.carried l p).sequenced ⟨p, target, q, y⟩ = (s.carried l p).setSeq { s.seq with
      owed := true, urgent := true, age := if s.seq.owed then s.seq.age else some 0 } := by
  have hm' : s.isMember p = true := hm
  have hne : q ≠ x := by
    rintro rfl
    simp [later8_irrefl] at hx
  have judged : (s.carried l p).judgeSeq p q = .gap := by
    simp [State.judgeSeq, ha, hm', he, hne, hx]
  simp [State.sequenced, judged, State.noteJudgement, SeqUnit.oweUrgent, SeqUnit.owe_eq]

/-- A duplicate: a receipt is owed. -/
theorem State.sequenced_duplicate {s : State} {l : LaneId} {p : Station} {q : SeqNo} {x : SeqNo} (ha : s.active = true)
    (hm : (s.peer p).state.member = true) (he : (s.peer p).expect = some x) (hne : q ≠ x)
    (hx : later8 q x = false) (target : Station) (y : Payload) :
    (s.carried l p).sequenced ⟨p, target, q, y⟩ = (s.carried l p).setSeq { s.seq with
      owed := true, age := if s.seq.owed then s.seq.age else some 0 } := by
  have hm' : s.isMember p = true := hm
  have judged : (s.carried l p).judgeSeq p q = .duplicate := by
    simp [State.judgeSeq, ha, hm', he, hne, hx]
  simp [State.sequenced, judged, State.noteJudgement, SeqUnit.owe_eq]

/-- From no member, or with nothing expected: nothing is done. -/
theorem State.sequenced_refused {s : State} {l : LaneId} {p : Station} {q : SeqNo}
    (h : (s.peer p).state.member = false ∨ (s.peer p).expect = none) (target : Station) (y : Payload) :
    (s.carried l p).sequenced ⟨p, target, q, y⟩ = s.carried l p := by
  have judged : (s.carried l p).judgeSeq p q = .refused := by
    obtain h | h := h
    · simp [State.judgeSeq, State.isMember, h]
    · simp [State.judgeSeq, h]
  simp [State.sequenced, judged, State.noteJudgement]

/-! ## The station that has accepted a sequenced frame -/

@[simp] theorem State.window_acceptedFrom (s : State) (l : LaneId) (p : Station) (q : SeqNo) :
    (s.acceptedFrom l p q).window = s.window := by simp [State.acceptedFrom]
@[simp] theorem State.dir_acceptedFrom (s : State) (l : LaneId) (p : Station) (q : SeqNo) :
    (s.acceptedFrom l p q).dir = s.dir := s.dir_carried l p
@[simp] theorem State.claim_acceptedFrom (s : State) (l : LaneId) (p : Station) (q : SeqNo) :
    (s.acceptedFrom l p q).claim = s.claim := s.claim_carried l p
@[simp] theorem State.member_own_acceptedFrom (s : State) (l : LaneId) (p : Station) (q : SeqNo) :
    (s.acceptedFrom l p q).member.own = s.member.own := s.member_own_carried l p
@[simp] theorem State.own_acceptedFrom (s : State) (l : LaneId) (p : Station) (q : SeqNo) :
    (s.acceptedFrom l p q).own = s.own := s.member_own_carried l p

@[simp] theorem State.entry_acceptedFrom (s : State) (l : LaneId) (p : Station) (q : SeqNo) (b : Block) :
    (s.acceptedFrom l p q).entry b = s.entry b := by simp [State.entry]

@[simp] theorem State.owned_acceptedFrom (s : State) (l : LaneId) (p : Station) (q : SeqNo) (b : Block) :
    (s.acceptedFrom l p q).owned b = s.owned b := by simp [State.owned]

@[simp] theorem State.peerState_acceptedFrom (s : State) (l : LaneId) (p : Station) (q : SeqNo) (x : Station) :
    ((s.acceptedFrom l p q).peer x).state = (s.peer x).state := by
  have h : (s.acceptedFrom l p q).peer x = ((s.carried l p).setPeer p
    { s.peer p with silence := some 0, expect := some (q + 1) }).peer x := rfl
  rw [h, State.peer_setPeer]
  split
  · next e => rw [e]
  · simp

@[simp] theorem State.orphan_acceptedFrom (s : State) (l : LaneId) (p : Station) (q : SeqNo) (b : Block) :
    (s.acceptedFrom l p q).orphan b = s.orphan b := by simp [State.orphan, State.orphaned]

@[simp] theorem State.claimSlot_acceptedFrom (s : State) (l : LaneId) (p : Station) (q : SeqNo) (b : Block) :
    (s.acceptedFrom l p q).claimSlot b = s.claimSlot b := by simp [State.claimSlot]

end Sys2Proof.Machine
end

section
/-! UPDATE: the ownership step, the content step, and the notice queue (R10, R13, R14, R23, Table 4-3). -/

namespace Sys2Proof.Machine

/-! ## The content step (R13, R14) -/

theorem State.applyBatch_eq (s : State) (b : Block) (v : Version) (es : List WordWrite) : s.applyBatch b v es =
    ((s.setWindow (es.foldl (fun w x => w.store (32 * b.val + x.offset.val) x.value) s.window)).setEntry b
      { s.entry b with version := v }).notice b := rfl

theorem State.updateContent_next {s : State} {b : Block} {v : Version} (hc : (s.entry b).copy = .current)
    (hv : v = (s.entry b).version + 1) (es : List WordWrite) (passed : Bool) :
    s.updateContent b v es passed = s.applyBatch b v es := by
  simp only [State.updateContent, hc, if_pos hv]

theorem State.updateContent_gap {s : State} {b : Block} {v : Version} (hc : (s.entry b).copy = .current)
    (hv : later16 v ((s.entry b).version + 1) = true) (es : List WordWrite) (passed : Bool) :
    s.updateContent b v es passed = s.setEntry b { s.entry b with copy := .stale, seen := some v } := by
  simp only [State.updateContent, hc, if_neg (ne_of_later16 hv), if_pos hv]

theorem State.updateContent_old {s : State} {b : Block} {v : Version} (hc : (s.entry b).copy = .current)
    (hne : v ≠ (s.entry b).version + 1) (hv : later16 v ((s.entry b).version + 1) = false) (es : List WordWrite)
    (passed : Bool) : s.updateContent b v es passed = s := by
  simp only [State.updateContent, hc, if_neg hne, hv, Bool.false_eq_true, if_false]

theorem State.updateContent_behind {s : State} {b : Block}
    (hc : (s.entry b).copy = .stale ∨ (s.entry b).copy = .fetching) (v : Version) (es : List WordWrite)
    (passed : Bool) : s.updateContent b v es passed = s.raiseSeen b v := by
  obtain hc | hc := hc <;> simp only [State.updateContent, hc]

theorem State.updateContent_unknown {s : State} {b : Block} (hc : (s.entry b).copy = .unknown) (v : Version)
    (es : List WordWrite) (passed : Bool) : s.updateContent b v es passed =
      if passed then s.setEntry b { s.entry b with copy := .stale, seen := some v } else s := by
  simp only [State.updateContent, hc]

/-- A word of another block reads as before after an applied batch (R13). -/
theorem State.read_applyBatch_outside {s : State} (h : s.window.wf = true) (b : Block) (v : Version)
    (es : List WordWrite) {c : Nat} (hc : c / 32 ≠ b.val) : (s.applyBatch b v es).window.read c = s.window.read c := by
  have window : (s.applyBatch b v es).window = s.window.storeBlock b es := by simp [State.applyBatch]
  rw [window]
  refine Window.read_storeBlock_outside h b es c (fun e _ he => hc ?_)
  rw [he, addrOf]
  have := e.offset.isLt
  dsimp only
  omega

/-! ## The ownership step (R10) -/

/-- At a later epoch the sender becomes owner, and its content is judged. -/
theorem State.updateArrive_passed {s : State} {b : Block} {e : Epoch} (he : later8 e (s.entry b).epoch = true)
    (p : Station) (v : Version) (es : List WordWrite) : s.updateArrive p b e v es
      = ((s.takeOwner b p p e none).sendClaim b).grantSlot.updateContent b v es true := by
  have owner : ((((s.takeOwner b p p e none).sendClaim b).grantSlot).entry b).owner = p := by
    rw [State.entry_of_dir (State.dir_grantSlot _), State.entry_of_dir (State.dir_sendClaim _ _)]
    exact (s.entry_takeOwner b p p e none).1
  simp [State.updateArrive, State.passes, he, owner]

theorem State.updateArrive_of_owner {s : State} {b : Block} {e : Epoch} {p : Station}
    (he : later8 e (s.entry b).epoch = false) (ho : (s.entry b).owner = p) (v : Version) (es : List WordWrite) :
    s.updateArrive p b e v es = s.updateContent b v es false := by
  simp [State.updateArrive, State.passes, he, ho]

theorem State.updateArrive_of_stranger {s : State} {b : Block} {e : Epoch} {p : Station}
    (he : later8 e (s.entry b).epoch = false) (ho : (s.entry b).owner ≠ p) (v : Version) (es : List WordWrite) :
    s.updateArrive p b e v es = if s.owned b then s.mismatch b p v else s := by
  simp [State.updateArrive, State.passes, he, ho]

/-! ## The frame -/

/-- The row of an UPDATE heard is the event of its judgement as a sequenced frame (R71). -/
theorem exec_update {l : LaneId} {p : Station} {q : SeqNo} {b : Block} {e : Epoch} {v : Version}
    {es : List WordWrite} {s : State} (h : s.hearsFrame l ⟨p, 0, q, .update b e v es⟩ = true) :
    exec (.updateReceived (cleanFrame l ⟨p, 0, q, .update b e v es⟩)) s
      = .next ((s.carried l p).sequenced ⟨p, 0, q, .update b e v es⟩).settleEvent :=
  congrArg Host.Outcome.next (State.event_of_hearing h)

theorem exec_update_accepted {l : LaneId} {p : Station} {q : SeqNo} {b : Block} {e : Epoch} {v : Version}
    {es : List WordWrite} {s : State} (h : s.hearsFrame l ⟨p, 0, q, .update b e v es⟩ = true)
    (hm : (s.peer p).state.member = true) (hx : (s.peer p).expect = some q) :
    exec (.updateReceived (cleanFrame l ⟨p, 0, q, .update b e v es⟩)) s
      = .next ((s.acceptedFrom l p q).updateArrive p b e v es).settleEvent := by
  rw [exec_update h, State.sequenced_accepted (State.active_of_hears h) hm hx]
  rfl

/-- An UPDATE of the recorded owner at the local version + 1 of a CURRENT copy is applied to the accepting station. -/
theorem State.updateArrive_acceptedFrom {s : State} {l : LaneId} {p : Station} {q : SeqNo} {b : Block} {e : Epoch}
    (ho : (s.entry b).owner = p) (hc : (s.entry b).copy = .current) (he : later8 e (s.entry b).epoch = false)
    (es : List WordWrite) : (s.acceptedFrom l p q).updateArrive p b e ((s.entry b).version + 1) es
      = (s.acceptedFrom l p q).applyBatch b ((s.entry b).version + 1) es := by
  rw [State.updateArrive_of_owner (by simpa using he) (by simpa using ho),
    State.updateContent_next (by simpa using hc) (by simp)]

/-- Settles O50: Table 4-3 by the judgements of a sequenced frame, then the two steps case by case. -/
theorem updateIsApplied : Obligations.UpdateIsApplied := by
  refine ⟨?_, ?_, SeqUnit.oweAccepted_eq, ?_, ?_, ?_⟩
  · intro l p q b e es s v f h hwf hm hx ho hc he u t ht
    have ha : (s.acceptedFrom l p q).applyBatch b v es = t := by
      simp only [State.applyBatch_eq, State.window_acceptedFrom, State.entry_acceptedFrom]
      rfl
    refine ⟨?_, fun c hcb => ?_⟩
    · rw [exec_update_accepted h hm hx, State.updateArrive_acceptedFrom ho hc he, ha, State.settleEvent_of_still ht]
    · rw [← ha, State.read_applyBatch_outside (by simpa using hwf) b v es hcb, State.window_acceptedFrom]
  · intro l p q b e v es s f row h
    have ha := State.active_of_hears h
    refine ⟨exec_update_accepted h, fun x hm hx hl => ?_, fun x hm hx hne hl => ?_, fun hr => ?_⟩
    · rw [exec_update h, State.sequenced_gap ha hm hx hl]
    · rw [exec_update h, State.sequenced_duplicate ha hm hx hne hl]
    · rw [exec_update h, State.sequenced_refused hr]
  · intro p b e v es s
    refine ⟨fun he => State.updateArrive_passed he p v es, fun he ho => State.updateArrive_of_owner he ho v es,
      fun he ho hw => ?_, fun he ho hw => ?_⟩
    · rw [State.updateArrive_of_stranger he ho, hw]
      rfl
    · rw [State.updateArrive_of_stranger he ho, hw]
      rfl
  · intro b v es passed s t d
    refine ⟨fun hc hv => ?_, fun hc hv => State.updateContent_gap hc hv es passed,
      fun hc hne hv => State.updateContent_old hc hne hv es passed,
      fun hc => ⟨fun hs => ?_, fun w hs => ?_⟩, fun hc => State.updateContent_unknown hc v es passed⟩
    · exact (State.updateContent_next hc hv es passed).trans (s.applyBatch_eq b v es)
    · exact (State.updateContent_behind hc v es passed).trans (State.raiseSeen_of_none hs v)
    · exact (State.updateContent_behind hc v es passed).trans (State.raiseSeen_of_some hs v)
  · intro b s
    unfold State.notice
    by_cases hw : s.watched b = true
    · by_cases hn : b ∈ s.port.notices
      · rw [if_pos hw, if_pos hn, if_neg (fun h => h.2 hn)]
      · have posts : s.watched b = true ∧ b ∉ s.port.notices := ⟨hw, hn⟩
        rw [if_pos posts, if_pos hw, if_neg hn]
        rfl
    · rw [if_neg hw, if_neg (fun h => hw h.1)]

end Sys2Proof.Machine
end

section
/-! HANDOVER and SETTLE entries: the ownership step, Table 1-4, and the claim slot (R10 to R12, R16 to R18, R41, R44, R45). -/

namespace Sys2Proof.Machine

/-! ## Operations on one block -/

@[simp] theorem State.peer_setEntry (s : State) (b : Block) (e : DirEntry) (p : Station) :
    (s.setEntry b e).peer p = s.peer p := rfl

/-- Only a FETCHING block's slot closes as it becomes STALE (R7). -/
theorem State.makeStale_of_fetching {s : State} {b : Block} (h : (s.entry b).copy = .fetching) :
    s.makeStale b = (s.setEntry b { s.entry b with copy := .stale }).closeFetch b := if_pos h

theorem State.makeStale_of_not_fetching {s : State} {b : Block} (h : (s.entry b).copy ≠ .fetching) :
    s.makeStale b = s.setEntry b { s.entry b with copy := .stale } := if_neg h

theorem State.isCurrent_iff (s : State) (b : Block) : s.isCurrent b = true ↔ (s.entry b).copy = .current := by
  simp [State.isCurrent]

theorem State.dropDonorIfCurrent_eq (s : State) (b : Block) : s.dropDonorIfCurrent b
    = if (s.entry b).copy = .current then s.setEntry b { s.entry b with donor := none } else s := by
  simp only [State.dropDonorIfCurrent, State.isCurrent_iff]

/-- The batch of the block: discarded, the copy STALE (R11). -/
theorem State.discardBatch_of_batch {s : State} {b : Block} {x : OpenBatch} (h : s.write.batch = some x)
    (hb : x.block = b) : s.discardBatch b =
      ((s.setWrite { s.write with batch := none }).setEntry b { s.entry b with copy := .stale }).offer
        { cls := .writesDiscarded, block := some b, detail := BitVec.ofNat 16 x.entries.length } := by
  simp only [State.discardBatch, h, if_pos hb]
  rfl

theorem State.discardBatch_of_no_batch {s : State} {b : Block} (h : ∀ x, s.write.batch = some x → x.block ≠ b) :
    s.discardBatch b = s := by
  unfold State.discardBatch
  split
  · rfl
  · next x hx => rw [if_neg (h x hx)]

/-- A discarded batch leaves a copy as it was or STALE. -/
theorem State.copy_discardBatch (s : State) (b : Block) :
    ((s.discardBatch b).entry b).copy = (s.entry b).copy ∨ ((s.discardBatch b).entry b).copy = .stale := by
  by_cases h : ∃ x, s.write.batch = some x ∧ x.block = b
  · obtain ⟨x, hx, hb⟩ := h
    right
    rw [State.discardBatch_of_batch hx hb]
    exact congrArg DirEntry.copy (State.entry_setEntry_same _ _ _)
  · left
    rw [State.discardBatch_of_no_batch (fun x hx hb => h ⟨x, hx, hb⟩)]

theorem State.sendClaim_of_none {s : State} {b : Block} (h : s.claimSlot b = none) : s.sendClaim b = s := by
  simp [State.sendClaim, h]

theorem State.sendClaim_of_some {s : State} {b : Block} {c : ClaimSlot} (h : s.claimSlot b = some c) :
    s.sendClaim b = if s.claimTarget b = s.own ∨ s.claimTarget b = 0 then
        (s.setClaimSlot b { c with target := s.claimTarget b, timer := none }).withdraw (.claim b)
      else (s.setClaimSlot b { c with target := s.claimTarget b, timer := some 0 }).makeDue (.claim b c.attempt)
        (s.claimTarget b) := by
  simp only [State.sendClaim, h]

/-! ## Taking owner and epoch (R10, R11, R49) -/

/-- A block this station owns is no orphan (R4). -/
theorem State.orphan_of_owned {s : State} {b : Block} (h : s.owned b = true) : s.orphan b = false := by
  simp only [State.owned, Bool.and_eq_true, decide_eq_true_eq] at h
  simp [State.orphan, State.orphaned, h.2]

theorem State.takeOwner_of_not_owned {s : State} {b : Block} (h : s.owned b = false) (p n : Station) (e : Epoch)
    (donor : Option Station) : s.takeOwner b p n e donor
      = (if s.orphan b = true ∧ (s.peer n).state ≠ .excluded then s.dropClaims b else s).setEntry b
          { s.entry b with owner := n, epoch := e, donor := donor } := by
  simp only [State.takeOwner, h, Bool.false_eq_true, if_false, State.peer_setEntry]
  split <;> rfl

@[simp] theorem State.claim_discardBatch (s : State) (b : Block) : (s.discardBatch b).claim = s.claim := by
  unfold State.discardBatch
  split
  · rfl
  · split <;> rfl

/-- A block lost: the batch is discarded, its claims leave, AUDIT_MISMATCH is offered. -/
theorem State.takeOwner_of_owned {s : State} {b : Block} (h : s.owned b = true) (p n : Station) (e : Epoch)
    (donor : Option Station) :
    let u := (s.setEntry b { s.entry b with yielding := false }).discardBatch b
    s.takeOwner b p n e donor
      = ((u.setClaim { s.claim with list := s.claim.list.filter (fun c => c.1 ≠ b) }).mismatch b p (e.setWidth 16)).setEntry
          b { u.entry b with owner := n, epoch := e, donor := donor } := by
  intro u
  have claim : u.claim = s.claim := State.claim_discardBatch _ b
  rw [← claim]
  simp only [State.takeOwner, h, State.orphan_of_owned h, if_true, Bool.false_eq_true, false_and, if_false]
  rfl

/-! ## Table 1-4 -/

theorem State.copyNotGained_unknown {s : State} {b : Block} (h : (s.entry b).copy = .unknown) (p : Station)
    (v : Version) : s.copyNotGained b p v = s.setEntry b { s.entry b with copy := .stale } := by
  simp only [State.copyNotGained, h]
  exact State.makeStale_of_not_fetching (by simp [h])

theorem State.copyNotGained_stale {s : State} {b : Block} (h : (s.entry b).copy = .stale) (p : Station)
    (v : Version) : s.copyNotGained b p v = s := by
  simp only [State.copyNotGained, h]

theorem State.copyNotGained_fetching {s : State} {b : Block} (h : (s.entry b).copy = .fetching) (p : Station)
    (v : Version) : s.copyNotGained b p v = if later16 v (s.entry b).version
      then (s.setEntry b { s.entry b with copy := .stale }).closeFetch b else s := by
  simp only [State.copyNotGained, h, State.makeStale_of_fetching h]

theorem State.copyNotGained_behind {s : State} {b : Block} (h : (s.entry b).copy = .current) (p : Station)
    {v : Version} (hv : later16 v (s.entry b).version = true) :
    s.copyNotGained b p v = s.setEntry b { s.entry b with copy := .stale } := by
  simp only [State.copyNotGained, h, (orderVersion_of_later hv).2]
  exact State.makeStale_of_not_fetching (by simp [h])

theorem State.copyNotGained_equal {s : State} {b : Block} (h : (s.entry b).copy = .current) (p : Station)
    {v : Version} (hv : (s.entry b).version = v) : s.copyNotGained b p v = s := by
  simp only [State.copyNotGained, h, hv, orderVersion_self]

theorem State.copyNotGained_ahead {s : State} {b : Block} (h : (s.entry b).copy = .current) (p : Station)
    {v : Version} (hv : later16 (s.entry b).version v = true) : s.copyNotGained b p v = s.mismatch b p v := by
  simp only [State.copyNotGained, h, (orderVersion_of_later hv).1]

/-! ## One entry -/

theorem State.ownershipEntry_discarded {s : State} {b : Block} {e : Epoch} (h : later8 e (s.entry b).epoch = false)
    (p n : Station) (v : Version) (donor : Option Station) : s.ownershipEntry p b n e v donor = s := by
  simp [State.ownershipEntry, State.passes, h]

theorem State.ownershipEntry_other {s : State} {b : Block} {e : Epoch} {n : Station}
    (h : later8 e (s.entry b).epoch = true) (hn : n ≠ s.own) (p : Station) (v : Version) (donor : Option Station) :
    s.ownershipEntry p b n e v donor
      = ((((s.takeOwner b p n e donor).copyNotGained b p v).dropDonorIfCurrent b).sendClaim b).grantSlot := by
  simp [State.ownershipEntry, State.passes, h, hn]

/-- The entry of a block that this station gains, its copy not judged yet. -/
def State.gainedEntry (s : State) (b : Block) (e : Epoch) (donor : Option Station) : DirEntry :=
  { s.entry b with owner := s.own, epoch := e, donor := donor }

/-- The block gained, and its claim slot closed. -/
def State.gainBlock (s : State) (b : Block) (e : Epoch) (donor : Option Station) : State :=
  (s.closeClaim b).setEntry b (s.gainedEntry b e donor)

@[simp] theorem State.entry_gainBlock (s : State) (b : Block) (e : Epoch) (donor : Option Station) :
    (s.gainBlock b e donor).entry b = s.gainedEntry b e donor := State.entry_setEntry_same _ _ _

theorem State.ownershipEntry_gained {s : State} {b : Block} {e : Epoch} (h : later8 e (s.entry b).epoch = true)
    (hs : s.state = .live ∨ s.state = .leaving) (p : Station) (v : Version) (donor : Option Station) :
    s.ownershipEntry p b s.own e v donor
      = (((s.gainBlock b e donor).copyGained b p v).dropDonorIfCurrent b).grantSlot := by
  simp only [State.ownershipEntry, State.passes, h, Bool.not_true, Bool.false_eq_true, if_false, if_true, if_pos hs]
  rfl

theorem State.ownershipEntry_reported {s : State} {b : Block} {e : Epoch} (h : later8 e (s.entry b).epoch = true)
    (hs : ¬ (s.state = .live ∨ s.state = .leaving)) (p : Station) (v : Version) (donor : Option Station) :
    s.ownershipEntry p b s.own e v donor = s.mismatch b p (e.setWidth 16) := by
  simp only [State.ownershipEntry, State.passes, h, Bool.not_true, Bool.false_eq_true, if_false, if_true, if_neg hs]

/-! ## A block gained (R17) -/

theorem State.gained_equal {s : State} {b : Block} {v : Version} (hc : (s.entry b).copy = .current)
    (hv : (s.entry b).version = v) (e : Epoch) (donor : Option Station) (p : Station) :
    ((s.gainBlock b e donor).copyGained b p v).dropDonorIfCurrent b
      = (s.closeClaim b).setEntry b { s.gainedEntry b e donor with donor := none } := by
  have copy : (s.gainedEntry b e donor).copy = .current := hc
  have version : (s.gainedEntry b e donor).version = v := hv
  have same : (s.gainBlock b e donor).copyGained b p v = s.gainBlock b e donor := by
    simp only [State.copyGained, State.entry_gainBlock, copy, if_pos version]
  rw [same, State.dropDonorIfCurrent_eq, State.entry_gainBlock, if_pos copy, State.gainBlock, State.setEntry_setEntry]

theorem State.gained_ahead {s : State} {b : Block} {v : Version} (hc : (s.entry b).copy = .current)
    (hv : later16 (s.entry b).version v = true) (e : Epoch) (donor : Option Station) (p : Station) :
    ((s.gainBlock b e donor).copyGained b p v).dropDonorIfCurrent b
      = ((s.closeClaim b).mismatch b p v).setEntry b { s.gainedEntry b e donor with donor := none } := by
  have copy : (s.gainedEntry b e donor).copy = .current := hc
  have version : (s.gainedEntry b e donor).version ≠ v := ne_of_later16 hv
  have reported : (s.gainBlock b e donor).copyGained b p v
      = ((s.closeClaim b).mismatch b p v).setEntry b (s.gainedEntry b e donor) := by
    simp only [State.copyGained, State.entry_gainBlock, copy, if_neg version]
    exact if_pos hv
  rw [reported, State.dropDonorIfCurrent_eq, State.entry_setEntry_same, if_pos copy, State.setEntry_setEntry]

/-- A gained copy that is STALE keeps its donor. -/
theorem State.dropDonor_of_not_current {s : State} {b : Block} (h : (s.entry b).copy ≠ .current) :
    s.dropDonorIfCurrent b = s := by
  rw [State.dropDonorIfCurrent_eq, if_neg h]

theorem State.gained_behind {s : State} {b : Block} {v : Version} (hc : (s.entry b).copy = .current)
    (hne : (s.entry b).version ≠ v) (hv : later16 (s.entry b).version v = false) (e : Epoch) (donor : Option Station)
    (p : Station) : ((s.gainBlock b e donor).copyGained b p v).dropDonorIfCurrent b
      = ((s.closeClaim b).setEntry b { s.gainedEntry b e donor with copy := .stale }).discardBatch b := by
  have copy : (s.gainedEntry b e donor).copy = .current := hc
  have version : (s.gainedEntry b e donor).version ≠ v := hne
  have order : later16 (s.gainedEntry b e donor).version v = false := hv
  have stale : (s.gainBlock b e donor).makeStale b
      = (s.closeClaim b).setEntry b { s.gainedEntry b e donor with copy := .stale } := by
    rw [State.makeStale_of_not_fetching (by simp [copy]), State.entry_gainBlock, State.gainBlock, State.setEntry_setEntry]
  have judged : (s.gainBlock b e donor).copyGained b p v
      = ((s.closeClaim b).setEntry b { s.gainedEntry b e donor with copy := .stale }).discardBatch b := by
    simp only [State.copyGained, State.entry_gainBlock, copy, if_neg version, order, Bool.false_eq_true, if_false, stale]
  rw [judged, State.dropDonor_of_not_current]
  obtain h | h := State.copy_discardBatch ((s.closeClaim b).setEntry b { s.gainedEntry b e donor with copy := .stale }) b
    <;> simp [h]

theorem State.gained_not_current {s : State} {b : Block} (hc : (s.entry b).copy ≠ .current) (v : Version)
    (e : Epoch) (donor : Option Station) (p : Station) :
    ((s.gainBlock b e donor).copyGained b p v).dropDonorIfCurrent b = (s.gainBlock b e donor).makeStale b := by
  have copy : ((s.gainBlock b e donor).entry b).copy ≠ .current := by rw [State.entry_gainBlock]; exact hc
  have judged : (s.gainBlock b e donor).copyGained b p v = (s.gainBlock b e donor).makeStale b := by
    unfold State.copyGained
    split
    · next h => exact absurd h copy
    all_goals rfl
  rw [judged, State.dropDonor_of_not_current]
  simp [State.entry_makeStale]

/-! ## A block that goes to another station, CURRENT at its version (R16, R18) -/

/-- Where no unit has an act to do, every group of acts is empty. -/
theorem State.group_empty_of_still {s : State} (h : s.still = true) {g : List Act} (hg : g ∈ s.actGroups) : g = [] := by
  have none : s.actGroups.find? (fun g => !g.isEmpty) = none := by
    have acts : (s.actGroups.find? (fun g => !g.isEmpty)).getD [] = [] := List.isEmpty_iff.mp h
    cases hf : s.actGroups.find? (fun g => !g.isEmpty) with
    | none => rfl
    | some x =>
      have some : (!x.isEmpty) = true := List.find?_some (p := fun g : List Act => !g.isEmpty) hf
      rw [hf, Option.getD_some] at acts
      simp [acts] at some
  simpa using List.find?_eq_none.mp none g hg

/-- Where no unit has an act to do, no claim slot is granted (R41). -/
theorem State.grantSlot_of_still {s : State} (h : s.still = true) : s.grantSlot = s := by
  have none : s.grantActs = [] := State.group_empty_of_still h (by simp [State.actGroups])
  unfold State.grantSlot
  split
  · next hs =>
    split
    · rfl
    · next hw => simp [State.grantActs, hs, hw] at none
  · rfl

/-- An entry that names another station, for a block CURRENT at its version with no claim slot: owner and epoch change,
and a free claim slot may be granted. -/
theorem State.ownershipEntry_kept {s : State} {b : Block} {n : Station} {e : Epoch}
    (he : later8 e (s.entry b).epoch = true) (hn : n ≠ s.own) (howned : s.owned b = false)
    (horphan : s.orphan b = false) (hc : (s.entry b).copy = .current) (hslot : s.claimSlot b = none) (p : Station)
    (donor : Option Station) : s.ownershipEntry p b n e (s.entry b).version donor
      = (s.setEntry b { s.entry b with owner := n, epoch := e, donor := none }).grantSlot := by
  have taken : s.takeOwner b p n e donor = s.setEntry b { s.entry b with owner := n, epoch := e, donor := donor } := by
    rw [State.takeOwner_of_not_owned howned, horphan, if_neg (by simp)]
  rw [State.ownershipEntry_other he hn, taken, State.copyNotGained_equal (by simpa using hc) p (by simp),
    State.dropDonorIfCurrent_eq, State.entry_setEntry_same, if_pos hc, State.setEntry_setEntry,
    State.sendClaim_of_none (by exact hslot)]

/-! ## The frames -/

theorem exec_handover_accepted {l : LaneId} {p n : Station} {q : SeqNo} {hs : List HandoverEntry} {s : State}
    (h : s.hearsFrame l ⟨p, 0, q, .handover n hs⟩ = true) (hm : (s.peer p).state.member = true)
    (hx : (s.peer p).expect = some q) : exec (.handoverReceived (cleanFrame l ⟨p, 0, q, .handover n hs⟩)) s
      = .next (hs.foldl (fun u x => u.handoverEntry p n x) (s.acceptedFrom l p q)).settleEvent := by
  have judged := State.sequenced_accepted (l := l) (State.active_of_hears h) hm hx 0 (.handover n hs)
  exact (congrArg Host.Outcome.next (State.event_of_hearing h)).trans
    (congrArg (fun u : State => Host.Outcome.next u.settleEvent) judged)

theorem exec_settle_accepted {l : LaneId} {p : Station} {q : SeqNo} {r : Round} {ts : List SettleEntry} {s : State}
    (h : s.hearsFrame l ⟨p, 0, q, .settle r ts⟩ = true) (hm : (s.peer p).state.member = true)
    (hx : (s.peer p).expect = some q) : exec (.settleReceived (cleanFrame l ⟨p, 0, q, .settle r ts⟩)) s
      = .next (ts.foldl (fun u x => u.settleEntry p x) (s.acceptedFrom l p q)).settleEvent := by
  have judged := State.sequenced_accepted (l := l) (State.active_of_hears h) hm hx 0 (.settle r ts)
  exact (congrArg Host.Outcome.next (State.event_of_hearing h)).trans
    (congrArg (fun u : State => Host.Outcome.next u.settleEvent) judged)

/-- Settles O52: the frames by their entries, the entries by the ownership step, Table 1-4 and R17. -/
theorem handoverAndSettleMoveOwner : Obligations.HandoverAndSettleMoveOwner := by
  refine ⟨?_, ?_, ?_, ?_, ?_, ?_⟩
  · intro l p n d q r b e s hm hx hn he howned horphan hc hslot u t f g ht
    have kept : ∀ donor, (s.acceptedFrom l p q).ownershipEntry p b n e (s.entry b).version donor = t := by
      intro donor
      have granted := State.ownershipEntry_kept (s := s.acceptedFrom l p q) (b := b) (n := n) (e := e)
        (by simpa using he) (by simpa [State.own] using hn) (by simpa using howned) (by simpa using horphan)
        (by simpa using hc) (by simpa using hslot) p donor
      rw [State.entry_acceptedFrom] at granted
      exact granted.trans (State.grantSlot_of_still ht)
    refine ⟨fun h => ?_, fun h => ?_⟩
    · rw [exec_handover_accepted h hm hx, List.foldl_cons, List.foldl_nil, State.handoverEntry, kept,
        State.settleEvent_of_still ht]
    · rw [exec_settle_accepted h hm hx, List.foldl_cons, List.foldl_nil, State.settleEntry, kept,
        State.settleEvent_of_still ht]
  · intro l p n q r hs ts s hm hx f g
    exact ⟨fun h => exec_handover_accepted h hm hx, fun h => exec_settle_accepted h hm hx⟩
  · intro p b n e v donor s t d mismatch
    refine ⟨fun he => State.ownershipEntry_discarded he p n v donor,
      fun he hn => State.ownershipEntry_other he hn p v donor, fun he hn h1 h2 => ?_, fun he hn hs => ?_⟩
    · subst hn
      exact State.ownershipEntry_reported he (not_or.mpr ⟨h1, h2⟩) p v donor
    · subst hn
      have judged : t = _ := State.ownershipEntry_gained he hs p v donor
      refine ⟨fun hc hv => ?_, fun hc hv => ?_, fun hc hne hv => ?_, fun hc => ?_, fun hc => ?_⟩
      · rw [judged, State.gained_equal hc hv]
        rfl
      · rw [judged, State.gained_ahead hc hv]
        rfl
      · rw [judged, State.gained_behind hc hne hv]
        rfl
      · have stale : (d.copy ≠ .current) ∧ d.copy ≠ .fetching := by
          obtain hc | hc := hc <;> rw [hc] <;> decide
        rw [judged, State.gained_not_current stale.1,
          State.makeStale_of_not_fetching (by rw [State.entry_gainBlock]; exact stale.2), State.entry_gainBlock,
          State.gainBlock, State.setEntry_setEntry]
        rfl
      · rw [judged, State.gained_not_current (by rw [show (s.entry b).copy = _ from hc]; decide),
          State.makeStale_of_fetching (by rw [State.entry_gainBlock]; exact hc), State.entry_gainBlock,
          State.gainBlock, State.setEntry_setEntry]
        rfl
  · intro b p n e donor s
    exact ⟨fun h => State.takeOwner_of_not_owned h p n e donor, fun h => State.takeOwner_of_owned h p n e donor⟩
  · intro b p v s
    exact ⟨fun h => State.copyNotGained_unknown h p v, fun h => State.copyNotGained_stale h p v,
      fun h => State.copyNotGained_fetching h p v, fun h hv => State.copyNotGained_behind h p hv,
      fun h hv => State.copyNotGained_equal h p hv, fun h hv => State.copyNotGained_ahead h p hv,
      s.dropDonorIfCurrent_eq b⟩
  · intro b s
    exact ⟨rfl, rfl, State.sendClaim_of_none, fun c hc => State.sendClaim_of_some hc,
      fun x hx hb => State.discardBatch_of_batch hx hb, State.discardBatch_of_no_batch⟩

end Sys2Proof.Machine
end

section
/-! COPY: what an OK does to block and slot, what a NOT-CURRENT does, and the entry to LIVE (R15, R82, R109 to R111). -/

namespace Sys2Proof.Machine

/-! ## An OK on a FETCHING block (R15, R111) -/

/-- The block's words and version are the COPY's, its copy state not yet judged. -/
def State.writeCopy (s : State) (b : Block) (v : Version) (ws : List Word) : State :=
  (s.setWindow (s.window.storeBlock b (writesOf ws))).setEntry b { s.entry b with version := v }

/-- The same, and the block posted where the COPY changed it. -/
def State.arriveCopy (s : State) (b : Block) (v : Version) (ws : List Word) : State :=
  if s.window.blockWords b = ws ∧ (s.entry b).version = v then s.writeCopy b v ws else (s.writeCopy b v ws).notice b

@[simp] theorem State.entry_arriveCopy (s : State) (b : Block) (v : Version) (ws : List Word) :
    (s.arriveCopy b v ws).entry b = { s.entry b with version := v } := by
  have written : (s.writeCopy b v ws).entry b = { s.entry b with version := v } := State.entry_setEntry_same _ _ _
  unfold State.arriveCopy
  split
  · exact written
  · rw [State.entry_of_dir (State.dir_notice _ b), written]

theorem State.copyArrive_old {s : State} {b : Block} {v : Version} (h : later16 (s.entry b).version v = true)
    (ws : List Word) : s.copyArrive b v ws = s := if_pos h

/-- A COPY that is not old: written and posted, then judged by the seen version. -/
theorem State.copyArrive_eq {s : State} {b : Block} {v : Version} (h : later16 (s.entry b).version v = false)
    (ws : List Word) : s.copyArrive b v ws =
      if (s.entry b).seen.any (fun w => later16 w v) then (s.arriveCopy b v ws).nextAttempt b 1
      else (((s.arriveCopy b v ws).setEntry b
        { s.entry b with version := v, copy := .current, seen := none, donor := none }).closeFetch b).testLive := by
  have posted : (if decide (s.window.blockWords b ≠ ws) || decide ((s.entry b).version ≠ v)
      then (s.writeCopy b v ws).notice b else s.writeCopy b v ws) = s.arriveCopy b v ws := by
    unfold State.arriveCopy
    by_cases hw : s.window.blockWords b = ws <;> by_cases hv : (s.entry b).version = v <;> simp [hw, hv]
  have stepwise : s.copyArrive b v ws =
      if (s.entry b).seen.any (fun w => later16 w v) then (s.arriveCopy b v ws).nextAttempt b 1
      else (((s.arriveCopy b v ws).setEntry b { (s.arriveCopy b v ws).entry b with
        copy := .current, seen := none, donor := none }).closeFetch b).testLive := by
    rw [← posted]
    simp only [State.copyArrive, h, Bool.false_eq_true, if_false]
    rfl
  rw [stepwise, s.entry_arriveCopy b v ws]

theorem State.copyArrive_behind {s : State} {b : Block} {v x : Version} (h : later16 (s.entry b).version v = false)
    (hs : (s.entry b).seen = some x) (hx : later16 x v = true) (ws : List Word) :
    s.copyArrive b v ws = (s.arriveCopy b v ws).nextAttempt b 1 := by
  rw [State.copyArrive_eq h, if_pos (by simp [hs, hx])]

theorem State.copyArrive_current {s : State} {b : Block} {v : Version} (h : later16 (s.entry b).version v = false)
    (hs : ∀ x, (s.entry b).seen = some x → later16 x v = false) (ws : List Word) :
    s.copyArrive b v ws = (((s.arriveCopy b v ws).setEntry b
      { s.entry b with version := v, copy := .current, seen := none, donor := none }).closeFetch b).testLive := by
  rw [State.copyArrive_eq h, if_neg]
  cases hx : (s.entry b).seen with
  | none => simp
  | some x => simp [hs x hx]

/-! ## Attempts (R110, R111) -/

theorem State.nextAttempt_eq (s : State) (b : Block) (k : Nat) :
    let slot := s.setCopyUnit { s.copy with slots := s.copy.slots.map (fun c =>
      if c.block = b then ⟨b, s.fetchSource b k, k, 0⟩ else c) }
    s.nextAttempt b k = if s.fetchSource b k = 0 then slot.withdraw (.fetch b)
      else slot.makeDue (.fetch b) (s.fetchSource b k) := rfl

theorem State.block_of_fetchSlot {s : State} {b : Block} {c : FetchSlot} (h : s.fetchSlot b = some c) : c.block = b := by
  simpa using List.find?_some h

/-- A NOT-CURRENT for a slot: its source's ends the attempt, any other's does nothing. -/
theorem State.copyNotCurrentArrive_of_slot {s : State} {b : Block} {c : FetchSlot} (h : s.fetchSlot b = some c)
    (p : Station) : s.copyNotCurrentArrive p b = if c.source = p then s.endAttempt c else s := by
  simp only [State.copyNotCurrentArrive, h]

theorem State.endAttempt_next {s : State} {b : Block} {c : FetchSlot} (h : s.fetchSlot b = some c)
    (hk : c.attempt < 4) : s.endAttempt c = s.nextAttempt b (c.attempt + 1) := by
  rw [State.endAttempt, if_pos (by exact hk), State.block_of_fetchSlot h]

theorem State.endAttempt_last {s : State} {b : Block} {c : FetchSlot} (h : s.fetchSlot b = some c)
    (hk : 4 ≤ c.attempt) : s.endAttempt c = s.failFetch b c.source := by
  rw [State.endAttempt, if_neg (by exact Nat.not_lt.mpr hk), State.block_of_fetchSlot h]

/-! ## Entry to LIVE (R82) -/

/-- All but the Claim and Settle Units, the slots of the Copy Unit and the waiting requests: what no retarget of a slot and
no end of a job changes. -/
def State.unretargeted (s : State) :
    MemberUnit × Vector DirEntry 256 × Window × AuditUnit × IncidentLog × Word × Option Nat :=
  (s.member, s.dir, s.window, s.audit, s.log, s.copy.missing, s.copy.snapq)

theorem foldl_unretargeted {α : Type} (f : State → α → State) (h : ∀ s x, (f s x).unretargeted = s.unretargeted)
    (xs : List α) (s : State) : (xs.foldl f s).unretargeted = s.unretargeted := by
  induction xs generalizing s with
  | nil => rfl
  | cons x xs ih => rw [List.foldl_cons, ih, h]

theorem State.unretargeted_sendClaim (s : State) (b : Block) : (s.sendClaim b).unretargeted = s.unretargeted := by
  cases h : s.claimSlot b with
  | none => rw [State.sendClaim_of_none h]
  | some c =>
    rw [State.sendClaim_of_some h]
    split <;> rfl

theorem State.unretargeted_retargetClaims (s : State) (bs : List Block) :
    (s.retargetClaims bs).unretargeted = s.unretargeted :=
  foldl_unretargeted _ State.unretargeted_sendClaim bs s

theorem State.unretargeted_retargetFetches (s : State) (gained : Option Station) :
    (s.retargetFetches gained).unretargeted = s.unretargeted := by
  refine foldl_unretargeted _ (fun s c => ?_) s.copy.slots s
  simp only [State.retargetFetch, State.startAttempt]
  split
  · split <;> rfl
  · rfl

theorem State.unretargeted_checkJob (s : State) : s.checkJob.unretargeted = s.unretargeted := by
  unfold State.checkJob
  split <;> rfl

theorem State.member_of_unretargeted {s t : State} (h : s.unretargeted = t.unretargeted) : s.member = t.member :=
  congrArg Prod.fst h

/-- The registrar is as the tables give it (R91). -/
def State.registered (s : State) : State := s.setMember { s.member with registrar := s.computeRegistrar }

theorem State.unretargeted_registered (s : State) :
    s.registered.unretargeted = ({ s.member with registrar := s.computeRegistrar }, s.unretargeted.2) := rfl

/-- Outside CATCHUP a fresh registrar changes the registrar, and slots (R91). -/
theorem State.unretargeted_takeRegistrar {s : State} (h : s.state ≠ .catchup) : s.takeRegistrar.unretargeted
    = s.registered.unretargeted := by
  by_cases hr : s.computeRegistrar = s.member.registrar
  · rw [State.takeRegistrar, if_pos hr, State.registered, hr]
    rfl
  · have drop : ∀ (c : Bool) (u : State), (if c then u.dropOrphanClaims else u).unretargeted = u.unretargeted := by
      intro c u
      cases c <;> rfl
    have noSnapq : ∀ u : State,
        u.unretargeted = s.registered.unretargeted →
        (if u.state = .catchup ∧ u.copy.missing ≠ 0 ∧ s.computeRegistrar ≠ 0 then u.sendSnapq else u).unretargeted
          = s.registered.unretargeted := by
      intro u hu
      have state : u.state = s.state := by
        rw [State.state, State.member_of_unretargeted hu]
        rfl
      rw [if_neg (fun hc => h (state.symm.trans hc.1)), hu]
    simp only [State.takeRegistrar, if_neg hr]
    refine noSnapq _ ?_
    rw [drop, State.unretargeted_retargetClaims]
    rfl

/-- Outside CATCHUP a change of a peer or of the station's state brings a fresh registrar, and no isolation (R83, R91). -/
theorem State.unretargeted_peersChanged {s : State} (h : s.state ≠ .catchup) (gained : Option Station) :
    (s.peersChanged gained).unretargeted
      = s.registered.unretargeted := by
  have changed : (s.takeRegistrar.checkJob.retargetFetches gained).unretargeted
      = s.registered.unretargeted := by
    rw [State.unretargeted_retargetFetches, State.unretargeted_checkJob, State.unretargeted_takeRegistrar h]
  have state : (s.takeRegistrar.checkJob.retargetFetches gained).state = s.state := by
    rw [State.state, State.member_of_unretargeted changed]
    rfl
  simp only [State.peersChanged]
  rw [if_neg (fun hc => h (state.symm.trans hc.1)), changed]

/-- The registrar by the tables does not rest on the registrar held (R91). -/
theorem State.computeRegistrar_of_member {s t : State} {r : Station} (h : t.member = { s.member with registrar := r }) :
    t.computeRegistrar = s.computeRegistrar := by
  unfold State.computeRegistrar State.own State.state State.peer
  rw [h]

theorem State.allCurrent_iff (s : State) : s.allCurrent = true ↔ ∀ b, (s.entry b).copy = .current := by
  simp only [State.allCurrent, State.anyEntry, Bool.not_eq_true', List.any_eq_false, decide_eq_true_eq, not_not,
    Vector.mem_toList_iff, Vector.mem_iff_getElem, State.entry, look]
  constructor
  · intro h b
    exact h _ ⟨b.val, b.isLt, rfl⟩
  · rintro h _ ⟨i, hi, rfl⟩
    exact h ⟨i, hi⟩

theorem State.testLive_of_not {s : State}
    (h : s.member.state ≠ .catchup ∨ s.member.leavePending = true ∨ ∃ b, (s.entry b).copy ≠ .current) :
    s.testLive = s := by
  refine if_neg ?_
  rw [State.allCurrent_iff]
  rintro ⟨hs, hp, hc⟩
  obtain h | h | ⟨b, hb⟩ := h
  · exact h hs
  · simp [h] at hp
  · exact hb (hc b)

/-- The station as it enters LIVE, its registrar not computed yet (R82, R105, R132). -/
def State.livened (s : State) : State :=
  (((s.setMember { s.member with state := .live, urgentStatus := true }).endSnapq).setAudit
    { s.audit with timer := some 0, due := false }).offer
      { cls := .joined, peer := if s.member.registrar = 0 then none else some s.member.registrar }

theorem State.testLive_of_allCurrent {s : State} (hs : s.member.state = .catchup) (hp : s.member.leavePending = false)
    (hc : ∀ b, (s.entry b).copy = .current) : s.testLive = s.livened.peersChanged none :=
  if_pos ⟨hs, hp, s.allCurrent_iff.mpr hc⟩

theorem State.unretargeted_livened (s : State) : s.livened.unretargeted =
    ({ s.member with state := .live, urgentStatus := true }, s.dir, s.window,
      { s.audit with timer := some 0, due := false },
      { s.log with offered := s.log.offered ++ [(.membership,
        { cls := .joined, peer := if s.member.registrar = 0 then none else some s.member.registrar })] }, 0, none) := rfl

/-! ## The frames -/

@[simp] theorem State.fetchSlot_carried (s : State) (l : LaneId) (p : Station) (b : Block) :
    (s.carried l p).fetchSlot b = s.fetchSlot b := by simp [State.fetchSlot]

@[simp] theorem State.watched_carried (s : State) (l : LaneId) (p : Station) (b : Block) :
    (s.carried l p).watched b = s.watched b := by simp [State.watched]

/-- The row of a COPY heard from a station that is not EXCLUDED is the event of its judgement at the Copy Unit. -/
theorem exec_copy {l : LaneId} {f : Frame} {s : State} (hk : f.payload.kind = .copy) (h : s.hearsFrame l f = true)
    (he : (s.peer f.sender).state ≠ .excluded) : exec (.copyReceived (cleanFrame l f)) s
      = .next ((s.carried l f.sender).unsequenced f).settleEvent := by
  have judged : (s.carried l f.sender).deliverActive f = (s.carried l f.sender).unsequenced f := by
    rw [State.deliverActive_unsequenced (by rw [hk]; rfl) (by rw [hk]; decide) (by rw [hk]; decide),
      if_neg (by simpa using he)]
  rw [← judged]
  exact congrArg Host.Outcome.next (State.event_of_hearing h)

theorem exec_copyOk {l : LaneId} {p t : Station} {q : SeqNo} {b : Block} {v : Version} {ws : List Word} {s : State}
    (h : s.hearsFrame l ⟨p, t, q, .copyOk b v ws⟩ = true) (he : (s.peer p).state ≠ .excluded) :
    exec (.copyReceived (cleanFrame l ⟨p, t, q, .copyOk b v ws⟩)) s = .next (if (s.fetchSlot b).isSome
      then (s.carried l p).copyArrive b v ws else s.carried l p).settleEvent := by
  rw [exec_copy rfl h he, ← State.fetchSlot_carried s l p b]
  rfl

theorem exec_copyNotCurrent {l : LaneId} {p t : Station} {q : SeqNo} {b : Block} {v : Version} {c : FetchSlot}
    {s : State} (h : s.hearsFrame l ⟨p, t, q, .copyNotCurrent b v⟩ = true) (he : (s.peer p).state ≠ .excluded)
    (hc : s.fetchSlot b = some c) : exec (.copyReceived (cleanFrame l ⟨p, t, q, .copyNotCurrent b v⟩)) s
      = .next (if c.source = p then (s.carried l p).endAttempt c else s.carried l p).settleEvent := by
  rw [exec_copy rfl h he, ← State.copyNotCurrentArrive_of_slot (by simpa using hc) p]
  rfl

/-- Settles O55: the judgement of an OK, of a NOT-CURRENT, and the test for LIVE, each by its cases. -/
theorem copyIsApplied : Obligations.CopyIsApplied := by
  refine ⟨?_, ?_, ?_, fun b k s => s.nextAttempt_eq b k, ?_, ?_⟩
  · intro l p q b v ws s f h hlive he hslot hv hseen hw u t ht
    have posted : (s.carried l p).arriveCopy b v ws = (s.carried l p).writeCopy b v ws := by
      have unwatched : ((s.carried l p).writeCopy b v ws).watched b = false := (s.watched_carried l p b).trans hw
      have quiet : ((s.carried l p).writeCopy b v ws).notice b = (s.carried l p).writeCopy b v ws :=
        if_neg (by simp [unwatched])
      rw [State.arriveCopy, quiet, ite_self]
    have applied : (s.carried l p).copyArrive b v ws = t := by
      rw [State.copyArrive_current (by simpa using hv) (by simpa using hseen), posted, State.writeCopy,
        State.setEntry_setEntry, State.testLive_of_not (Or.inl ?_)]
      · simp only [State.closeFetch, State.window_carried, State.entry_carried]
        exact congrArg (fun c : CopyUnit => ((u.setEntry b { s.entry b with
          version := v, copy := .current, seen := none, donor := none }).setCopyUnit { c with
            slots := c.slots.filter (fun x => x.block ≠ b) }).withdraw (.fetch b)) (s.copy_carried l p)
      · show (s.carried l p).member.state ≠ .catchup
        rw [State.member_state_carried, hlive]
        decide
    rw [exec_copyOk h he, if_pos hslot, applied, State.settleEvent_of_still ht]
  · intro l p q b v ws s f row h he
    refine ⟨fun hn => ?_, fun hn => ?_⟩
    · rw [exec_copyOk h he, hn]
      rfl
    · rw [exec_copyOk h he, if_pos (Option.isSome_iff_ne_none.mpr hn)]
  · intro b v ws s t d u w
    exact ⟨fun h => State.copyArrive_old h ws, fun h x hs hx => State.copyArrive_behind h hs hx ws,
      fun h hs => State.copyArrive_current h hs ws⟩
  · intro l p q b v c s f row h he hc
    have slot : (s.carried l p).fetchSlot b = some c := by simpa using hc
    refine ⟨fun hp => ?_, fun hp hk => ?_, fun hp hk => ?_⟩
    · rw [exec_copyNotCurrent h he hc, if_neg hp]
    · rw [exec_copyNotCurrent h he hc, if_pos hp, State.endAttempt_next slot hk]
    · rw [exec_copyNotCurrent h he hc, if_pos hp, State.endAttempt_last slot hk, hp]
  · intro s
    refine ⟨State.testLive_of_not, fun hs hp hc => ?_⟩
    intro t
    have live : s.livened.state ≠ .catchup := by
      rw [show s.livened.state = .live from rfl]
      decide
    have changed : t.unretargeted = s.livened.registered.unretargeted :=
      (congrArg State.unretargeted (State.testLive_of_allCurrent hs hp hc)).trans
        (State.unretargeted_peersChanged live none)
    rw [State.unretargeted_registered, State.unretargeted_livened] at changed
    simp only [State.unretargeted, Prod.mk.injEq] at changed
    obtain ⟨member, dir, window, audit, log, missing, snapq⟩ := changed
    have registrar : t.member.registrar = t.computeRegistrar := by
      rw [State.computeRegistrar_of_member (s := s.livened) member, member]
    rw [registrar, member, dir, window, audit, log, missing, snapq]
    exact ⟨rfl, rfl, rfl, rfl, rfl, rfl, rfl, rfl, rfl, rfl, rfl⟩

end Sys2Proof.Machine
end

section
/-! How an event goes on after one act, and what its end leaves of the Write Unit (R36, R152, R153). -/

namespace Sys2Proof.Machine

/-! ## Events -/

/-- While RESET is high an event is its effect, then the acts, the take and the incidents. -/
theorem State.event_of_resetHigh {s : State} (hr : s.resetLow = false) (f : State → State) :
    s.event f = (f s.tickStamp).settleEvent := by simp [State.event, hr]

theorem State.portEvent_of_free {s : State} (hp : s.portFree = true) (f : State → State) :
    s.portEvent f = (f s.tickStamp).settleEvent := by
  rw [State.portEvent, if_pos hp, State.event_of_resetHigh (State.resetLow_of_portFree hp)]

theorem State.waiting_of_portFree {s : State} (hp : s.portFree = true) : s.write.waiting = none := by
  simp only [State.portFree, Bool.and_eq_true, Option.isNone_iff_eq_none] at hp
  exact hp.2

theorem State.quiesceFor_of_act {s : State} {a : Act} (h : s.nextActs = [a]) (fuel : Nat) :
    State.quiesceFor (fuel + 1) s = State.quiesceFor fuel (s.perform a) := by
  rw [State.quiesceFor, h]
  rfl

/-- Where one act is possible the event goes on from what it leaves (log entry 6). -/
theorem State.settleEvent_goesOn {s : State} {a : Act} (h : s.nextActs = [a]) :
    s.settleEvent = (s.perform a).goesOn := by
  rw [State.settleEvent, State.quiesce, show actLimit = (actLimit - 1) + 1 from rfl, State.quiesceFor_of_act h]
  rfl

/-! ## The take -/

/-- What a take can be: a STATUS, a replay-queue entry, an answer, a request or a DIGEST (Table 9-5). -/
theorem State.nextTake_cases {s : State} {p : Frame × State} (h : s.nextTake = some p) :
    (∃ shown, p = s.takeStatus shown) ∨ (∃ e, p = s.takeReplay e) ∨ (∃ a, p = s.takeAnswer a)
      ∨ (∃ r, p = s.takeRequest r) ∨ ∃ bs, p = s.takeDigest bs := by
  have queued : ∀ {q}, s.takeQueued = some q → (∃ e, q = s.takeReplay e) ∨ ∃ a, q = s.takeAnswer a := by
    intro q hq
    unfold State.takeQueued at hq
    repeat' split at hq
    · exact Or.inl ⟨_, (Option.some.inj hq).symm⟩
    · obtain ⟨a, -, ha⟩ := Option.map_eq_some_iff.mp hq
      exact Or.inr ⟨a, ha.symm⟩
    · cases hq
    · cases hq
  have other : ∀ {q}, s.takeOther = some q →
      (∃ r, q = s.takeRequest r) ∨ (∃ shown, q = s.takeStatus shown) ∨ ∃ bs, q = s.takeDigest bs := by
    intro q hq
    unfold State.takeOther at hq
    repeat' split at hq
    · exact Or.inl ⟨_, (Option.some.inj hq).symm⟩
    · exact Or.inr (Or.inl ⟨_, (Option.some.inj hq).symm⟩)
    · cases hq
    · exact Or.inr (Or.inr ⟨_, (Option.some.inj hq).symm⟩)
    · cases hq
  unfold State.nextTake at h
  split at h
  · exact Or.inl ⟨_, (Option.some.inj h).symm⟩
  · cases hq : s.takeQueued with
    | some q =>
      rw [hq] at h
      obtain ⟨e, he⟩ | ⟨a, ha⟩ := queued (hq.trans h)
      · exact Or.inr (Or.inl ⟨e, he⟩)
      · exact Or.inr (Or.inr (Or.inl ⟨a, ha⟩))
    | none =>
      rw [hq] at h
      obtain ⟨r, hr⟩ | ⟨shown, hs⟩ | ⟨bs, hbs⟩ := other h
      · exact Or.inr (Or.inr (Or.inr (Or.inl ⟨r, hr⟩)))
      · exact Or.inl ⟨shown, hs⟩
      · exact Or.inr (Or.inr (Or.inr (Or.inr ⟨bs, hbs⟩)))

theorem State.write_takeAnswer (s : State) (a : Answer) : (s.takeAnswer a).2.write = s.write := by
  cases a with
  | copy q b => rfl
  | snap q i => rfl
  | versions q r =>
    simp only [State.takeAnswer, State.buildAnswer]
    split
    · rfl
    · split <;> rfl

/-- No take touches the Write Unit. -/
theorem State.write_nextTake {s : State} {p : Frame × State} (h : s.nextTake = some p) : p.2.write = s.write := by
  obtain ⟨_, rfl⟩ | ⟨_, rfl⟩ | ⟨a, rfl⟩ | ⟨_, rfl⟩ | ⟨_, rfl⟩ := State.nextTake_cases h
  case inr.inr.inl => exact s.write_takeAnswer a
  all_goals rfl

@[simp] theorem State.write_release (s : State) : s.release.write = s.write := by
  unfold State.release
  split <;> rfl

@[simp] theorem State.write_give (s : State) (f : Frame) : (s.give f).write = s.write := by
  simp only [State.give]
  split <;> split <;> rfl

@[simp] theorem State.write_pump (s : State) : s.pump.write = s.write := by
  simp only [State.pump]
  split
  · split
    · exact s.write_release
    · next f t h =>
      calc (t.give f).write = t.write := t.write_give f
        _ = s.release.write := State.write_nextTake h
        _ = s.write := s.write_release
  · exact s.write_release

/-! ## An event's end -/

@[simp] theorem State.window_closes (s : State) : s.closes.window = s.window := by simp [State.closes]

@[simp] theorem State.write_closes (s : State) : s.closes.write = s.write := by simp [State.closes]

@[simp] theorem State.resetLow_closes (s : State) : s.closes.resetLow = s.resetLow :=
  congrArg Prod.fst s.setting_pump

@[simp] theorem State.waitPin_closes (s : State) : s.closes.waitPin = s.waitPin := by simp [State.waitPin]

end Sys2Proof.Machine
end

section
/-! Batches close or become due, and held writes commit (R29 to R31, R34). -/

namespace Sys2Proof.Machine

/-! ## Closing (R29, R30) -/

theorem State.closeBatch_of_none {s : State} (h : s.write.batch = none) : s.closeBatch = s := by
  rw [State.closeBatch, h]

theorem State.closeBatch_of_batch {s : State} {b : OpenBatch} (h : s.write.batch = some b) :
    s.closeBatch = ((s.setEntry b.block { s.entry b.block with version := (s.entry b.block).version + 1 }).setWrite
        { s.write with batch := none }).setSeq { s.seq with
          next := s.seq.next + 1
          queue := s.seq.queue ++ [{
            seq := s.seq.next
            frame := { sender := s.member.own, target := 0, seq := s.seq.next
                       payload := .update b.block (s.entry b.block).epoch ((s.entry b.block).version + 1) b.entries }
            sent := false, marked := false, count := 0, timer := none }] } := by
  simp only [State.closeBatch, h, State.entry_setEntry_same]
  rfl

theorem State.makeBatchDue_of_batch {s : State} {b : OpenBatch} (h : s.write.batch = some b) :
    s.makeBatchDue = s.setWrite { s.write with batch := some { b with due := true } } := by
  rw [State.makeBatchDue, h]
  rfl

theorem State.closeOrDue_of_free {s : State} {b : OpenBatch} (h : s.write.batch = some b) (hf : s.freeGeneral = true) :
    s.closeOrDue = s.closeBatch := by simp [State.closeOrDue, h, hf]

theorem State.closeOrDue_of_full {s : State} {b : OpenBatch} (h : s.write.batch = some b) (hf : s.freeGeneral = false) :
    s.closeOrDue = s.setWrite { s.write with batch := some { b with due := true } } := by
  rw [← State.makeBatchDue_of_batch h]
  simp [State.closeOrDue, h, hf]

/-! ## The causes (R29 to R31) -/

theorem State.holdReached_of_age {s : State} {b : OpenBatch} (h : s.write.batch = some b) (ha : 128 ≤ b.age)
    (hd : b.due = false) : s.holdReached = s.closeOrDue := by
  simp [State.holdReached, h, hd, Config.batchHold, ha]

theorem State.closeDueBatch_of_due {s : State} {b : OpenBatch} (h : s.write.batch = some b) (hd : b.due = true)
    (hf : s.freeGeneral = true) : s.closeDueBatch = s.closeBatch := by
  simp [State.closeDueBatch, h, hd, hf]

@[simp] theorem hiByte_wordOf (h l : Byte) : hiByte (wordOf h l) = h := by
  show BitVec.extractLsb' 8 8 (h ++ l) = h
  exact BitVec.extractLsb'_append_eq_left

@[simp] theorem loByte_wordOf (h l : Byte) : loByte (wordOf h l) = l := by
  show BitVec.extractLsb' 0 8 (h ++ l) = l
  exact BitVec.extractLsb'_append_eq_right

/-- A COMMIT in LIVE is accepted, and a cause to close the open batch (R31). -/
theorem State.command_commit {s : State} (h : s.member.state = .live) (low : Byte) : s.command (wordOf 1 low)
    = (s.setPort { s.port with command := wordOf 1 low, result := wordOf 1 1 }).closeOrDue := by
  have live : s.state = .live := h
  have judged : judgeCommit s = (.accepted, State.closeOrDue) := if_neg (not_not_intro live)
  simp only [State.command, hiByte_wordOf, loByte_wordOf, live]
  show s.commandWith 1 low (judgeCommit s).1 (judgeCommit s).2 = _
  rw [judged]
  rfl

theorem exec_commit {s : State} (hp : s.portFree = true) (hs : s.member.state = .live) (low : Byte) :
    exec (.commit low) s = .next (s.tickStamp.setPort
      { s.port with command := wordOf 1 low, result := wordOf 1 1 }).closeOrDue.settleEvent := by
  show Host.Outcome.next (s.portEvent _) = _
  rw [State.portEvent_of_free hp, State.command_commit (by exact hs)]
  rfl

/-- Settles O23: what a close is, then each cause by whether a general slot is free. -/
theorem batchCloses : Obligations.BatchCloses := by
  refine ⟨fun b s h => State.closeBatch_of_batch h, ?_⟩
  intro b low s hb commanded
  have ticked : s.tickStamp.write.batch = some b := hb
  have row : commanded.write.batch = some b := hb
  refine ⟨?_, ?_, ?_, ?_, ?_⟩
  · intro hr ha hd hf ht
    show Host.Outcome.next (s.event State.holdReached) = _
    rw [State.event_of_resetHigh hr, State.holdReached_of_age ticked ha hd, State.closeOrDue_of_free ticked hf,
      State.settleEvent_of_still ht]
  · intro hr ha hd hf t ht
    show Host.Outcome.next (s.event State.holdReached) = _
    rw [State.event_of_resetHigh hr, State.holdReached_of_age ticked ha hd, State.closeOrDue_of_full ticked hf]
    exact congrArg Host.Outcome.next (State.settleEvent_of_still ht)
  · intro hp hs hf ht
    rw [exec_commit hp hs, State.closeOrDue_of_free row hf, State.settleEvent_of_still ht]
  · intro hp hs hf t ht
    rw [exec_commit hp hs, State.closeOrDue_of_full row hf]
    exact congrArg Host.Outcome.next (State.settleEvent_of_still ht)
  · intro hr hd hf ht
    show Host.Outcome.next (s.event State.closeDueBatch) = _
    rw [State.event_of_resetHigh hr, State.closeDueBatch_of_due ticked hd hf, State.settleEvent_of_still ht]

/-! ## Held writes commit (R34) -/

theorem State.mem_heldBlocks {s : State} {b : Block} : b ∈ s.heldBlocks ↔ s.hasHeld b = true := by
  simp [State.heldBlocks, State.hasHeld]

theorem State.mem_commitReady {s : State} {b : Block} (hn : s.write.batch = none) (ha : s.awaitingCommit b = true) :
    b ∈ s.commitReady := by
  have held : s.hasHeld b = true := by
    simp only [State.awaitingCommit, Bool.and_eq_true] at ha
    exact ha.2
  simp [State.commitReady, hn, State.mem_heldBlocks.mpr held, ha]

theorem State.commitIfReady_of_awaiting {s : State} {b : Block} (hn : s.write.batch = none)
    (ha : s.awaitingCommit b = true) : s.commitIfReady b = s.commitHeld b :=
  if_pos (List.contains_iff_mem.mpr (State.mem_commitReady hn ha))

/-- Settles O24: the block can commit, and its commit forms a batch that closes where a general slot is free. -/
theorem heldWritesCommit : Obligations.HeldWritesCommit := by
  intro b s hr hn ha es u t ht
  have committed : s.tickStamp.commitHeld b = t := by
    show u.closeOrDue = t
    have formed : u.write.batch = some { block := b, entries := es, age := 0, due := false } := rfl
    cases hf : s.freeGeneral with
    | true => rw [State.closeOrDue_of_free formed hf, show t = u.closeBatch from if_pos hf]
    | false =>
      rw [State.closeOrDue_of_full formed hf]
      exact (if_neg (by simp [hf])).symm
  show Host.Outcome.next (s.event (·.commitIfReady b)) = _
  rw [State.event_of_resetHigh hr, State.commitIfReady_of_awaiting (by exact hn) (by exact ha), committed,
    State.settleEvent_of_still ht]

end Sys2Proof.Machine
end

section
/-! The judgement of a local write: refused, taken, held or kept waiting (R25 to R28, R33, R36, R37). -/

namespace Sys2Proof.Machine

/-! ## The fate of a write (R25 to R28, R33, Table 2-2) -/

section
variable {s : State} {a : WindowAddr}

theorem State.writeFate_of_not_live (h : s.member.state ≠ .live) : s.writeFate a = .refused := if_pos h

theorem State.writeFate_of_batchPath (h : s.member.state = .live) (hp : s.batchPath (blockOf a) = true) :
    s.writeFate a = s.batchFate a := (if_neg (not_not_intro h)).trans (if_pos hp)

theorem State.writeFate_of_heldPath (h : s.member.state = .live) (hp : s.batchPath (blockOf a) = false) :
    s.writeFate a = s.heldFate a := (if_neg (not_not_intro h)).trans (if_neg (by simp [hp]))

theorem State.batchFate_of_none (h : s.write.batch = none) : s.batchFate a = .opens := by
  rw [State.batchFate, h]

theorem State.batchFate_of_same {t : OpenBatch} (h : s.write.batch = some t) (ht : t.block = blockOf a) :
    s.batchFate a = if t.entries.any (fun e => e.offset = offsetOf a) then .replaces
      else if t.entries.length < 16 then .appends else .waitsForBatch := by
  rw [State.batchFate, h]
  exact if_pos ht

theorem State.batchFate_of_other {t : OpenBatch} (h : s.write.batch = some t) (ht : t.block ≠ blockOf a) :
    s.batchFate a = if s.freeGeneral then .closesFirst else .waitsForBatch := by
  rw [State.batchFate, h]
  exact if_neg ht

theorem State.heldFate_of_held (h : s.write.held.any (fun x => x.addr = a) = true) :
    s.heldFate a = .replacesHeld := if_pos h

theorem State.heldFate_of_room (h : s.write.held.any (fun x => x.addr = a) = false) (hl : s.write.held.length < 16)
    (hb : s.hasHeld (blockOf a) = true ∨ s.heldBlocks.length < 4) : s.heldFate a = .appendsHeld :=
  (if_neg (by simp [h])).trans (if_pos ⟨hl, hb⟩)

theorem State.heldFate_of_noRoom (h : s.write.held.any (fun x => x.addr = a) = false)
    (hn : 16 ≤ s.write.held.length ∨ (s.hasHeld (blockOf a) = false ∧ 4 ≤ s.heldBlocks.length)) :
    s.heldFate a = .waitsForRoom := by
  have full : ¬ (s.write.held.length < 16 ∧ (s.hasHeld (blockOf a) = true ∨ s.heldBlocks.length < 4)) := by
    rintro ⟨hl, hb⟩
    obtain hn | ⟨hh, hn⟩ := hn
    · omega
    · obtain hb | hb := hb
      · simp [hh] at hb
      · omega
  exact (if_neg (by simp [h])).trans (if_neg full)

end

/-! ## What a taken write leaves (R27, R33) -/

theorem OpenBatch.take_of_entered {t : OpenBatch} {a : WindowAddr}
    (h : t.entries.any (fun e => e.offset = offsetOf a) = true) (x : Word) : t.take a x
      = { t with entries := t.entries.map (fun e => if e.offset = offsetOf a then ⟨e.offset, x⟩ else e) } := if_pos h

theorem OpenBatch.take_of_new {t : OpenBatch} {a : WindowAddr}
    (h : t.entries.any (fun e => e.offset = offsetOf a) = false) (x : Word) :
    t.take a x = { t with entries := t.entries ++ [⟨offsetOf a, x⟩] } := if_neg (by simp [h])

theorem State.joinBatch_of_batch {s : State} {t : OpenBatch} (h : s.write.batch = some t) (a : WindowAddr) (x : Word) :
    s.joinBatch a x = (s.setWrite { s.write with batch := some (t.take a x) }).setWindow (s.window.store a.val x) := by
  rw [State.joinBatch, h]
  rfl

theorem State.closeIfFull_of_short {s : State} {t : OpenBatch} (h : s.write.batch = some t)
    (ht : t.entries.length < 16) : s.closeIfFull = s := by
  simp [State.closeIfFull, h, Config.batchEntries, ht.ne]

theorem State.closeIfFull_of_sixteen {s : State} {t : OpenBatch} (h : s.write.batch = some t)
    (ht : t.entries.length = 16) : s.closeIfFull = s.closeOrDue := by
  simp [State.closeIfFull, h, Config.batchEntries, ht]

theorem State.holdWrite_of_noSlot {s : State} {a : WindowAddr} (h : s.claimSlot (blockOf a) = none) (x : Word) :
    s.holdWrite a x = s.setWrite { s.write with held := s.write.held ++ [{ addr := a, value := x }] } := by
  have slot : (s.setWrite { s.write with held := s.write.held ++ [{ addr := a, value := x }] }).claimSlot (blockOf a)
      = none := h
  simp [State.holdWrite, slot]

theorem State.holdWrite_of_slot {s : State} {a : WindowAddr} {c : ClaimSlot} (h : s.claimSlot (blockOf a) = some c)
    (x : Word) : s.holdWrite a x
      = (s.setWrite { s.write with held := s.write.held ++ [{ addr := a, value := x }] }).setClaim { s.claim with
          slots := s.claim.slots.map (fun y => if y.block = blockOf a then { c with held := true } else y) } := by
  have slot : (s.setWrite { s.write with held := s.write.held ++ [{ addr := a, value := x }] }).claimSlot (blockOf a)
      = some c := h
  simp [State.holdWrite, slot, State.setClaimSlot]

/-! ## A latched write (R26, R36) -/

/-- The station that has latched a write and not yet judged it: the write waits. -/
def State.latched (s : State) (a : WindowAddr) (x : Word) : State :=
  s.setWrite { s.write with waiting := some { addr := a, value := x, waited := 0 } }

/-- The event of a window write is its judgement: the fate the station gives it. -/
theorem exec_localWrite {s : State} {a : WindowAddr} {f : WriteFate} (hp : s.portFree = true) (hf : s.writeFate a = f)
    (x : Word) : exec (.localWrite (BitVec.ofNat 14 a.val) x) s
      = .next ((s.tickStamp.latched a x).applyFate a x f).settleEvent := by
  have ha : (BitVec.ofNat 14 a.val).toNat = a.val := by rw [BitVec.toNat_ofNat]; omega
  have inside : (BitVec.ofNat 14 a.val).toNat < 8192 := by rw [ha]; exact a.isLt
  have addr : (⟨(BitVec.ofNat 14 a.val).toNat, inside⟩ : WindowAddr) = a := Fin.ext ha
  show execLocalWrite _ x s = _
  rw [execLocalWrite, dif_pos inside, addr, State.portEvent_of_free hp, ← hf]
  rfl

section
variable {s : State} (hw : s.write.waiting = none) (a : WindowAddr) (x : Word)
include hw

/-- A write that waits no more leaves the station as it stood before the latch. -/
theorem State.latched_released :
    (s.latched a x).setWrite { (s.latched a x).write with waiting := none } = s := by
  show s.setWrite { s.write with waiting := none } = s
  rw [← hw]
  rfl

theorem State.applyFate_refused : (s.latched a x).applyFate a x .refused = s.offerRefused a :=
  congrArg (·.offerRefused a) (State.latched_released hw a x)

theorem State.applyFate_replaces : (s.latched a x).applyFate a x .replaces = s.joinBatch a x :=
  congrArg (·.joinBatch a x) (State.latched_released hw a x)

theorem State.applyFate_appends : (s.latched a x).applyFate a x .appends = (s.joinBatch a x).closeIfFull :=
  congrArg (fun u => (u.joinBatch a x).closeIfFull) (State.latched_released hw a x)

theorem State.applyFate_appendsHeld : (s.latched a x).applyFate a x .appendsHeld = s.holdWrite a x :=
  congrArg (·.holdWrite a x) (State.latched_released hw a x)

theorem State.applyFate_replacesHeld : (s.latched a x).applyFate a x .replacesHeld
    = s.setWrite { s.write with held := s.write.held.map (fun h => if h.addr = a then { h with value := x } else h) } :=
  congrArg (fun u => u.setWrite { u.write with
    held := u.write.held.map (fun h => if h.addr = a then { h with value := x } else h) })
    (State.latched_released hw a x)

theorem State.applyFate_opens : (s.latched a x).applyFate a x .opens = (s.setWrite { s.write with
      batch := some { block := blockOf a, entries := [⟨offsetOf a, x⟩], age := 0, due := false } }).setWindow
        (s.window.store a.val x) :=
  congrArg (fun u => (u.setWrite { u.write with
    batch := some { block := blockOf a, entries := [⟨offsetOf a, x⟩], age := 0, due := false } }).setWindow
      (u.window.store a.val x)) (State.latched_released hw a x)

end

theorem State.applyFate_waitsForBatch {s : State} {t : OpenBatch} (h : s.write.batch = some t) (a : WindowAddr)
    (x : Word) : (s.latched a x).applyFate a x .waitsForBatch = s.setWrite { s.write with
      batch := some { t with due := true }, waiting := some { addr := a, value := x, waited := 0 } } :=
  State.makeBatchDue_of_batch (s := s.latched a x) h

/-- The fate that closes the batch of another block closes it with the write still waiting (R28). -/
theorem State.applyFate_closesFirst {s : State} {t : OpenBatch} (h : s.write.batch = some t) (a : WindowAddr)
    (x : Word) : (s.latched a x).applyFate a x .closesFirst = (s.setWrite { s.write with
      batch := some t, waiting := some { addr := a, value := x, waited := 0 } }).closeBatch := by
  rw [← h]
  rfl

/-! ## The judgement afresh (R28, R36, R37) -/

/-- A waiting write whose block can be written, with no batch open, opens one and waits no more. -/
theorem State.judgeWaiting_opens {s : State} {w : WaitingWrite} (hw : s.write.waiting = some w)
    (hs : s.member.state = .live) (hp : s.batchPath (blockOf w.addr) = true) (hb : s.write.batch = none) :
    s.judgeWaiting = (s.setWrite { s.write with
      batch := some { block := blockOf w.addr, entries := [⟨offsetOf w.addr, w.value⟩], age := 0, due := false }
      waiting := none }).setWindow (s.window.store w.addr.val w.value) := by
  have fate : s.writeFate w.addr = .opens := (State.writeFate_of_batchPath hs hp).trans (State.batchFate_of_none hb)
  rw [State.judgeWaiting, hw]
  show s.applyFate w.addr w.value (s.writeFate w.addr) = _
  rw [fate]
  rfl

/-- A close changes nothing of an entry but its version. -/
theorem State.entry_closeBatch (s : State) (c : Block) :
    s.closeBatch.entry c = { s.entry c with version := (s.closeBatch.entry c).version } := by
  cases hb : s.write.batch with
  | none => rw [State.closeBatch_of_none hb]
  | some b =>
    have entry : s.closeBatch.entry c
        = if c = b.block then { s.entry b.block with version := (s.entry b.block).version + 1 } else s.entry c := by
      rw [State.closeBatch_of_batch hb]
      exact s.entry_setEntry b.block c _
    rw [entry]
    split
    · next same => rw [same]
    · rfl

@[simp] theorem State.member_closeBatch (s : State) : s.closeBatch.member = s.member := by
  unfold State.closeBatch
  split <;> rfl

theorem State.write_closeBatch (s : State) : s.closeBatch.write = { s.write with batch := none } := by
  cases hb : s.write.batch with
  | none => rw [State.closeBatch_of_none hb, ← hb]
  | some b => rw [State.closeBatch_of_batch hb]; rfl

/-- A close leaves the path of a write as it was. -/
theorem State.batchPath_closeBatch (s : State) (c : Block) : s.closeBatch.batchPath c = s.batchPath c := by
  have owned : s.closeBatch.owned c = s.owned c := by
    rw [State.owned, State.entry_closeBatch, State.own, s.member_closeBatch]
    rfl
  have current : s.closeBatch.isCurrent c = s.isCurrent c := by
    rw [State.isCurrent, State.entry_closeBatch]
    rfl
  have held : s.closeBatch.hasHeld c = s.hasHeld c := by
    rw [State.hasHeld, s.write_closeBatch]
    rfl
  rw [State.batchPath, owned, current, held, State.entry_closeBatch]
  rfl

/-- A write that waits behind an open batch opens its own once that one has closed (R28). -/
theorem State.judgeWaiting_closeBatch {s : State} {w : WaitingWrite} (hw : s.write.waiting = some w)
    (hs : s.member.state = .live) (hp : s.batchPath (blockOf w.addr) = true) :
    s.closeBatch.judgeWaiting = (s.closeBatch.setWrite { s.closeBatch.write with
      batch := some { block := blockOf w.addr, entries := [⟨offsetOf w.addr, w.value⟩], age := 0, due := false }
      waiting := none }).setWindow (s.window.store w.addr.val w.value) := by
  have waiting : s.closeBatch.write.waiting = some w := by rw [s.write_closeBatch]; exact hw
  rw [State.judgeWaiting_opens waiting (by rw [s.member_closeBatch]; exact hs) ((s.batchPath_closeBatch _).trans hp)
    (by rw [s.write_closeBatch]), s.window_closeBatch]

theorem State.dropWaiting_of_limit {s : State} {w : WaitingWrite} (hw : s.write.waiting = some w)
    (hl : 8192 ≤ w.waited) : s.dropWaiting = (s.setWrite { s.write with waiting := none }).offer
      { cls := .writeDropped, block := some (blockOf w.addr), detail := BitVec.ofNat 16 (w.addr.val % 32) } := by
  rw [State.dropWaiting, hw]
  exact if_pos hl

/-! ## The statements -/

/-- Settles O20: with no batch open, with the block's own, and with another block's. -/
theorem localWriteOpensBatch : Obligations.LocalWriteOpensBatch := by
  refine ⟨?_, ?_⟩
  · intro a x s hp hwf hs path hb t ht
    have fate : s.writeFate a = .opens := (State.writeFate_of_batchPath hs path).trans (State.batchFate_of_none hb)
    refine ⟨?_, fun c => ?_⟩
    · rw [exec_localWrite hp fate, State.applyFate_opens (s := s.tickStamp) (State.waiting_of_portFree hp)]
      exact congrArg Host.Outcome.next (State.settleEvent_of_still ht)
    · rw [State.window_closes]
      exact Window.read_store hwf a.val c x
  · intro a x t s hp hs path hb row written waits
    have hw : s.tickStamp.write.waiting = none := State.waiting_of_portFree hp
    have ticked : s.tickStamp.write.batch = some t := hb
    have judged : ∀ {f}, s.batchFate a = f →
        exec row s = .next ((s.tickStamp.latched a x).applyFate a x f).settleEvent :=
      fun hf => exec_localWrite hp ((State.writeFate_of_batchPath hs path).trans hf) x
    have due : s.batchFate a = .waitsForBatch → exec row s = .next (waits { t with due := true }).settleEvent := by
      intro hf
      rw [judged hf, State.applyFate_waitsForBatch ticked]
      rfl
    refine ⟨fun same => ?_, fun other hf => due (by simp [State.batchFate_of_other hb other, hf]), fun other hf => ?_⟩
    · have fate := State.batchFate_of_same hb same
      refine ⟨fun entered => ?_, fun new => ?_⟩
      · rw [entered, if_pos rfl] at fate
        rw [judged fate, State.applyFate_replaces hw, State.joinBatch_of_batch ticked, OpenBatch.take_of_entered entered]
        rfl
      · intro t'
        rw [new, if_neg Bool.false_ne_true] at fate
        have size : t'.entries.length = t.entries.length + 1 := List.length_append
        have batch : (written t').write.batch = some t' := rfl
        have appended : t.entries.length < 16 → exec row s = .next (written t').closeIfFull.settleEvent := by
          intro room
          rw [judged (fate.trans (if_pos room)), State.applyFate_appends hw, State.joinBatch_of_batch ticked,
            OpenBatch.take_of_new new]
          rfl
        refine ⟨fun short => ?_, fun last hf => ?_, fun last hf => ?_, fun full => ?_⟩
        · rw [appended (by omega), State.closeIfFull_of_short batch (by omega)]
        · rw [appended (by omega), State.closeIfFull_of_sixteen batch (by omega), State.closeOrDue_of_free batch hf]
        · rw [appended (by omega), State.closeIfFull_of_sixteen batch (by omega), State.closeOrDue_of_full batch hf]
          rfl
        · exact due (fate.trans (if_neg (by omega)))
    · intro u v
      have settled : exec row s = .next u.settleEvent := by
        have fate : s.batchFate a = .closesFirst := (State.batchFate_of_other hb other).trans (if_pos hf)
        rw [judged fate, State.applyFate_closesFirst ticked]
        rfl
      refine ⟨settled, fun act => ?_⟩
      have opens : u.judgeWaiting = v := State.judgeWaiting_closeBatch (s := waits t) rfl hs path
      rw [settled, State.settleEvent_goesOn act]
      exact congrArg (fun w : State => Host.Outcome.next w.goesOn) opens

/-- Settles O21: by the station state, and on the held-write path by the room there is and the claim slot. -/
theorem localWriteRefusedHeldOrWaiting : Obligations.LocalWriteRefusedHeldOrWaiting := by
  refine ⟨?_, ?_, ?_⟩
  · intro a x s hp hs t ht
    rw [exec_localWrite hp (State.writeFate_of_not_live hs),
      State.applyFate_refused (s := s.tickStamp) (State.waiting_of_portFree hp)]
    exact congrArg Host.Outcome.next (State.settleEvent_of_still ht)
  · intro a x s hp hs path slot new
    have fresh : s.write.held.any (fun h => h.addr = a) = false := by simpa using new
    have fate := State.writeFate_of_heldPath hs path
    refine ⟨?_, ?_⟩
    · intro room place t ht
      rw [exec_localWrite hp (fate.trans (State.heldFate_of_room fresh room place)),
        State.applyFate_appendsHeld (s := s.tickStamp) (State.waiting_of_portFree hp),
        State.holdWrite_of_noSlot (s := s.tickStamp) slot]
      exact congrArg Host.Outcome.next (State.settleEvent_of_still ht)
    · intro full t ht
      refine ⟨?_, ?_⟩
      · rw [exec_localWrite hp (fate.trans (State.heldFate_of_noRoom fresh full))]
        exact congrArg Host.Outcome.next (State.settleEvent_of_still ht)
      · have high : s.resetLow = false := State.resetLow_of_portFree hp
        simp [State.waitPin, t, high]
  · intro a x s hp hs path row
    have hw : s.tickStamp.write.waiting = none := State.waiting_of_portFree hp
    have fate := State.writeFate_of_heldPath hs path
    refine ⟨fun entered => ?_, fun new room place => ?_⟩
    · rw [exec_localWrite hp (fate.trans (State.heldFate_of_held entered)), State.applyFate_replacesHeld hw]
      rfl
    · intro u
      have held : exec row s = .next (s.tickStamp.holdWrite a x).settleEvent := by
        rw [exec_localWrite hp (fate.trans (State.heldFate_of_room new room place)), State.applyFate_appendsHeld hw]
      refine ⟨fun slot => ?_, fun c slot => ?_⟩
      · have asks : exec row s = .next u.settleEvent := by
          rw [held, State.holdWrite_of_noSlot (s := s.tickStamp) slot]
          rfl
        refine ⟨asks, fun act => ?_⟩
        rw [asks, State.settleEvent_goesOn act]
        rfl
      · rw [held, State.holdWrite_of_slot (s := s.tickStamp) slot]
        rfl

/-- Settles O22: a judgement that opens a batch, and the drop at the limit, both leave no write waiting. -/
theorem waitingWriteEnds : Obligations.WaitingWriteEnds := by
  have released : ∀ {t : State}, t.write.waiting = none → t.closes.waitPin = false := by
    intro t h
    simp [State.waitPin, h]
  refine ⟨?_, ?_⟩
  · intro w s hr hs hw path hb t ht
    refine ⟨?_, released rfl⟩
    show Host.Outcome.next (s.event State.judgeWaiting) = _
    rw [State.event_of_resetHigh hr, State.judgeWaiting_opens (s := s.tickStamp) hw hs path hb]
    exact congrArg Host.Outcome.next (State.settleEvent_of_still ht)
  · intro w s hr hw hl t ht
    refine ⟨?_, released rfl⟩
    show Host.Outcome.next (s.event State.dropWaiting) = _
    rw [State.event_of_resetHigh hr, State.dropWaiting_of_limit (s := s.tickStamp) hw hl]
    exact congrArg Host.Outcome.next (State.settleEvent_of_still ht)

end Sys2Proof.Machine
end

section
/-! Claim slots: how one opens, which block a free one goes to, and what its timeout does (R35, R41 to R46, R57). -/

namespace Sys2Proof.Machine

/-! ## The slot of a block -/

theorem State.claimSlot_eq_none {s : State} {b : Block} :
    s.claimSlot b = none ↔ ∀ c ∈ s.claim.slots, c.block ≠ b := by simp [State.claimSlot]

theorem State.block_of_claimSlot {s : State} {b : Block} {c : ClaimSlot} (h : s.claimSlot b = some c) : c.block = b := by
  simpa using List.find?_some h

section
variable {b : Block} {x : ClaimSlot} (hx : x.block = b)
include hx

theorem State.claimSlot_setClaimSlot {s : State} {c : ClaimSlot} (h : s.claimSlot b = some c) :
    (s.setClaimSlot b x).claimSlot b = some x := by
  have found : s.claim.slots.find? (fun y => decide (y.block = b)) = some c := h
  have looks : (fun y : ClaimSlot => decide (y.block = b)) ∘ (fun y => if y.block = b then x else y)
      = fun y => decide (y.block = b) := by
    funext y
    by_cases hy : y.block = b <;> simp [hy, hx]
  rw [State.claimSlot, State.setClaimSlot, State.claim_setClaim, List.find?_map, looks, found, Option.map_some,
    if_pos (State.block_of_claimSlot h)]

/-- A slot replaced twice holds what it was last given. -/
theorem State.setClaimSlot_setClaimSlot (s : State) (y : ClaimSlot) :
    (s.setClaimSlot b x).setClaimSlot b y = s.setClaimSlot b y := by
  have twice : ∀ z : ClaimSlot, (if (if z.block = b then x else z).block = b then y else if z.block = b then x else z)
      = if z.block = b then y else z := by
    intro z
    by_cases hz : z.block = b <;> simp [hz, hx]
  simp [State.setClaimSlot, State.setClaim, Function.comp_def, twice]

end

/-! ## Opening (R41, R42) -/

/-- The station with one more claim slot, its CLAIM not sent yet. -/
def State.addSlot (s : State) (c : ClaimSlot) : State := s.setClaim { s.claim with slots := s.claim.slots ++ [c] }

section
variable {s : State} {b : Block} (h : s.claimSlot b = none)
include h

theorem State.claimSlot_addSlot {c : ClaimSlot} (hc : c.block = b) : (s.addSlot c).claimSlot b = some c := by
  have absent : s.claim.slots.find? (fun y => decide (y.block = b)) = none := h
  simp [State.claimSlot, State.addSlot, absent, hc]

theorem State.setClaimSlot_addSlot {c : ClaimSlot} (hc : c.block = b) (x : ClaimSlot) :
    (s.addSlot c).setClaimSlot b x = s.addSlot x := by
  have others : s.claim.slots.map (fun y => if y.block = b then x else y) = s.claim.slots :=
    (List.map_congr_left (fun y hy => if_neg (State.claimSlot_eq_none.mp h y hy))).trans (List.map_id' _)
  simp [State.setClaimSlot, State.addSlot, State.setClaim, others, hc]

/-- A slot opened: its timer stopped and no CLAIM where the target is this station or none, else a CLAIM due to it. -/
theorem State.openClaim_of_noSlot {t : Station} (ht : s.claimTarget b = t) (held : Bool) : s.openClaim b held =
    if t = s.own ∨ t = 0 then
      (s.addSlot { block := b, target := t, attempt := 1, timer := none, held := held }).withdraw (.claim b)
    else (s.addSlot { block := b, target := t, attempt := 1, timer := some 0, held := held }).makeDue (.claim b 1) t := by
  subst ht
  have unsent : s.openClaim b held = (s.addSlot
      { block := b, target := s.claimTarget b, attempt := 1, timer := some 0, held := held }).sendClaim b := rfl
  rw [unsent, State.sendClaim_of_some (State.claimSlot_addSlot h rfl), State.setClaimSlot_addSlot h rfl,
    State.setClaimSlot_addSlot h rfl]
  rfl

end

theorem State.claimTarget_of_owned_elsewhere {s : State} {b : Block} (h : s.orphan b = false) :
    s.claimTarget b = (s.entry b).owner := if_neg (by simp [h])

theorem State.claimTarget_of_orphan {s : State} {b : Block} (h : s.orphan b = true) :
    s.claimTarget b = s.member.registrar := if_pos h

/-! ## COMMAND CLAIM (R46, Table 3-2) -/

/-- A CLAIM in LIVE for a block owned elsewhere, a slot free, is accepted and opens one. -/
theorem State.command_claim {s : State} {b : Block} (hs : s.member.state = .live) (ho : s.owned b = false)
    (h : s.claimSlot b = none) (hn : s.claim.slots.length < 4) : s.command (wordOf 2 (byteOf b.val))
      = (s.setPort { s.port with command := wordOf 2 (byteOf b.val), result := wordOf 2 1 }).openClaim b false := by
  have live : s.state = .live := hs
  have judged : judgeClaim b s = (.accepted, (·.openClaim b false)) := by
    simp [judgeClaim, live, ho, h, Config.claimSlots, Nat.not_le.mpr hn]
  simp only [State.command, hiByte_wordOf, loByte_wordOf, live]
  show s.commandWith 2 (byteOf b.val) (judgeClaim (blockAt (byteOf b.val)) s).1
    (judgeClaim (blockAt (byteOf b.val)) s).2 = _
  rw [blockAt_byteOf, judged]
  rfl

/-- Settles O25: the accepted command opens a slot, and the target says whether a CLAIM is due. -/
theorem claimOpensSlot : Obligations.ClaimOpensSlot := by
  intro b s hp hs ho h hn u slots
  have row : exec (.claim b) s = .next (u.openClaim b false).settleEvent := by
    show Host.Outcome.next (s.portEvent _) = _
    rw [State.portEvent_of_free hp, State.command_claim (s := s.tickStamp) hs ho h hn]
    rfl
  have opened : ∀ {t : Station}, u.claimTarget b = t → u.openClaim b false =
      if t = s.member.own ∨ t = 0 then (u.setClaim { s.claim with slots := slots t none }).withdraw (.claim b)
      else (u.setClaim { s.claim with slots := slots t (some 0) }).makeDue (.claim b 1) t :=
    fun ht => State.openClaim_of_noSlot (s := u) h ht false
  refine ⟨?_, row, fun horphan hr h0 => ?_, fun horphan hr => ?_⟩
  · intro horphan h0 hown t
    have due : u.openClaim b false = t :=
      (opened (State.claimTarget_of_owned_elsewhere (s := u) horphan)).trans (if_neg (not_or.mpr ⟨hown, h0⟩))
    rw [row, due]
    exact ⟨rfl, fun ht => congrArg Host.Outcome.next (State.settleEvent_of_still ht)⟩
  · exact (opened (State.claimTarget_of_orphan (s := u) horphan)).trans (if_neg (not_or.mpr ⟨hr, h0⟩))
  · exact (opened ((State.claimTarget_of_orphan (s := u) horphan).trans hr)).trans (if_pos (Or.inl rfl))

/-! ## The claim timeout (R43) -/

section
variable {s : State} {b : Block} {c : ClaimSlot} {n : Nat} (h : s.claimSlot b = some c) (ht : c.timer = some n)
  (hn : 1024 ≤ n)
include h ht hn

theorem State.claimExpires_of_last (ha : c.attempt = 8) : s.claimExpires b
    = if c.held then (s.closeClaim b).discardHeld b else s.closeClaim b := by
  simp [State.claimExpires, h, reached, ht, Config.claimTimeout, hn, ha, Config.claimAttempts]

/-- The next attempt of a slot whose block has another station for its owner: a CLAIM due to that station. -/
theorem State.claimExpires_retries (ha : c.attempt < 8) (ho : s.orphan b = false) (h0 : (s.entry b).owner ≠ 0)
    (hown : (s.entry b).owner ≠ s.own) : s.claimExpires b = (s.setClaimSlot b
      { c with attempt := c.attempt + 1, target := (s.entry b).owner, timer := some 0 }).makeDue
        (.claim b (c.attempt + 1)) (s.entry b).owner := by
  have advances : s.claimExpires b = (s.setClaimSlot b { c with attempt := c.attempt + 1 }).sendClaim b := by
    simp [State.claimExpires, h, reached, ht, Config.claimTimeout, hn, ha, Config.claimAttempts]
  have block : c.block = b := State.block_of_claimSlot h
  have target : (s.setClaimSlot b { c with attempt := c.attempt + 1 }).claimTarget b = (s.entry b).owner :=
    State.claimTarget_of_owned_elsewhere (s := s) ho
  rw [advances, State.sendClaim_of_some (State.claimSlot_setClaimSlot (by exact block) h), target,
    if_neg (not_or.mpr ⟨by exact hown, h0⟩), State.setClaimSlot_setClaimSlot (by exact block)]

end

theorem State.discardHeld_eq (s : State) (b : Block) : s.discardHeld b =
    if s.heldFor b = [] then s.setWrite { s.write with held := s.write.held.filter (fun h => blockOf h.addr ≠ b) }
    else (s.setWrite { s.write with held := s.write.held.filter (fun h => blockOf h.addr ≠ b) }).offer
      { cls := .writesDiscarded, block := some b, detail := BitVec.ofNat 16 (s.heldFor b).length } := by
  simp only [State.discardHeld, List.length_eq_zero_iff]

/-- Settles O26: the last attempt closes the slot, an earlier one sends its CLAIM again. -/
theorem claimTimeoutRetriesOrAbandons : Obligations.ClaimTimeoutRetriesOrAbandons := by
  refine ⟨?_, ?_⟩
  · intro b c n s hr h ht hn
    have row : exec (.claimTimeout b) s = .next (s.tickStamp.claimExpires b).settleEvent :=
      congrArg Host.Outcome.next (State.event_of_resetHigh hr _)
    refine ⟨?_, ?_⟩
    · intro ha t hstill
      rw [row, State.claimExpires_of_last (s := s.tickStamp) h ht hn ha]
      exact congrArg Host.Outcome.next (State.settleEvent_of_still hstill)
    · intro ha ho h0 hown t hstill
      rw [row, State.claimExpires_retries (s := s.tickStamp) h ht hn ha ho h0 hown]
      exact congrArg Host.Outcome.next (State.settleEvent_of_still hstill)
  · intro b s gone t
    exact ⟨fun hg => (s.discardHeld_eq b).trans (if_pos hg), fun hg => (s.discardHeld_eq b).trans (if_neg hg)⟩

/-! ## Granting (R41) -/

/-- The block wants a claim slot: owned elsewhere, none open for it. -/
def State.wantsSlot (s : State) (b : Block) : Bool :=
  (s.claimSlot b).isNone && !s.owned b && decide ((s.entry b).owner ≠ 0)

theorem State.wantsSlot_iff {s : State} {b : Block} :
    s.wantsSlot b = true ↔ s.claimSlot b = none ∧ s.owned b = false ∧ (s.entry b).owner ≠ 0 := by
  simp [State.wantsSlot, and_assoc]

theorem State.wanting_eq (s : State) :
    s.wanting = ((s.write.held.map (fun h => blockOf h.addr)).filter s.wantsSlot).eraseDups := rfl

theorem State.wanting_of_none {s : State} (h : ∀ x ∈ s.write.held, ¬ s.wantsSlot (blockOf x.addr) = true) :
    s.wanting = [] := by
  have none : (s.write.held.map (fun h => blockOf h.addr)).filter s.wantsSlot = [] := by simpa using h
  rw [s.wanting_eq, none]
  rfl

/-- The block whose held entry stands first among those that want a slot comes first. -/
theorem State.wanting_of_first {s : State} {pre rest : List HeldWrite} {h : HeldWrite}
    (hs : s.write.held = pre ++ h :: rest) (hh : s.wantsSlot (blockOf h.addr) = true)
    (hp : ∀ y ∈ pre, ¬ s.wantsSlot (blockOf y.addr) = true) : ∃ bs, s.wanting = blockOf h.addr :: bs := by
  have before : (pre.map (fun h => blockOf h.addr)).filter s.wantsSlot = [] := by simpa using hp
  rw [s.wanting_eq, hs, List.map_append, List.filter_append, before, List.nil_append, List.map_cons,
    List.filter_cons_of_pos hh, List.eraseDups_cons]
  exact ⟨_, rfl⟩

theorem State.grantSlot_of_first {s : State} (hs : s.member.state = .live) (hn : s.claim.slots.length < 4)
    {b : Block} {bs : List Block} (hw : s.wanting = b :: bs) : s.grantSlot = s.openClaim b true := by
  rw [State.grantSlot, if_pos ⟨hs, hn⟩, hw]

theorem State.grantSlot_of_none {s : State}
    (h : s.member.state ≠ .live ∨ 4 ≤ s.claim.slots.length ∨ s.wanting = []) : s.grantSlot = s := by
  unfold State.grantSlot
  split
  · next hs =>
    obtain ⟨live, free⟩ := hs
    obtain hl | hn | hw := h
    · exact absurd live hl
    · exact absurd free (Nat.not_lt.mpr hn)
    · rw [hw]
  · rfl

/-- The target of a CLAIM for a block owned elsewhere, by the owner's state in the peer table (R42). -/
theorem State.claimTarget_eq {s : State} {b : Block} (ho : s.owned b = false) (h0 : (s.entry b).owner ≠ 0) :
    s.claimTarget b
      = if (s.peer (s.entry b).owner).state = .excluded then s.member.registrar else (s.entry b).owner := by
  have other : (s.entry b).owner ≠ s.own := by
    intro hown
    simp [State.owned, hown] at ho
    exact h0 (hown.trans ho)
  simp [State.claimTarget, State.orphan, State.orphaned, h0, other]

/-- Settles O27: how a slot opens, and that a free one goes to the first block that wants it. -/
theorem freedSlotIsGranted : Obligations.FreedSlotIsGranted := by
  intro b s h ho h0 target slot opened
  have opens : ∀ u : State, u.claimSlot b = none → u.claimTarget b = target → u.claim = s.claim → u.own = s.own →
      ∀ held, u.openClaim b held = opened u held := by
    intro u hu ht hc hown held
    rw [State.openClaim_of_noSlot hu ht, hown, State.addSlot, State.addSlot, hc]
    rfl
  have aimed : s.claimTarget b = target := State.claimTarget_eq ho h0
  refine ⟨opens s h aimed rfl rfl, fun hr hs hn pre x rest held hb before => ?_⟩
  have wants : s.tickStamp.wantsSlot (blockOf x.addr) = true := by
    rw [hb]
    exact State.wantsSlot_iff.mpr ⟨h, ho, h0⟩
  have unwanting : ∀ y ∈ pre, ¬ s.tickStamp.wantsSlot (blockOf y.addr) = true := by
    intro y hy hw
    obtain ⟨noSlot, notOwned, known⟩ := State.wantsSlot_iff.mp hw
    obtain hy | hy | hy := before y hy
    · exact hy noSlot
    · exact Bool.false_ne_true (notOwned.symm.trans hy)
    · exact known hy
  obtain ⟨bs, first⟩ := State.wanting_of_first (s := s.tickStamp) held wants unwanting
  show Host.Outcome.next (s.event State.grantSlot) = _
  rw [State.event_of_resetHigh hr, State.grantSlot_of_first (s := s.tickStamp) hs hn first, hb, opens s.tickStamp h aimed rfl rfl]

end Sys2Proof.Machine
end

section
/-! Handovers: what a HANDOVER of this station changes, which blocks it may carry, and to whom (R41, R50 to R52, R101). -/

namespace Sys2Proof.Machine

/-! ## Giving blocks away (R52) -/

/-- The entries of a HANDOVER of these blocks. -/
def State.handoverEntries (s : State) (bs : List Block) : List HandoverEntry :=
  bs.map (fun b => { block := b, epoch := (s.entry b).epoch + 1, version := (s.entry b).version })

/-- The block of one entry given to station c. -/
def State.giveBlock (c : Station) (s : State) (h : HandoverEntry) : State :=
  (s.setEntry h.block { s.entry h.block with owner := c, epoch := h.epoch, yielding := false }).dropClaims h.block

theorem State.passOn_eq (s : State) (c : Station) (bs : List Block) : s.passOn c bs
    = (s.handoverEntries bs).foldl (State.giveBlock c) (s.enqueue (.handover c (s.handoverEntries bs))) := rfl

theorem map_block_handoverEntries (s : State) (bs : List Block) :
    (s.handoverEntries bs).map HandoverEntry.block = bs := by
  simp [State.handoverEntries, Function.comp_def]

/-- Giving blocks away changes the directory and the claim list alone: the claims for those blocks leave. -/
theorem State.giveBlocks_eq (c : Station) (es : List HandoverEntry) (s : State) : es.foldl (State.giveBlock c) s
    = (s.setDir (es.foldl (State.giveBlock c) s).dir).setClaim { s.claim with
        list := s.claim.list.filter (fun x => x.1 ∉ es.map HandoverEntry.block) } := by
  induction es generalizing s with
  | nil =>
    have all : s.claim.list.filter (fun x => x.1 ∉ ([] : List HandoverEntry).map HandoverEntry.block) = s.claim.list := by
      simp
    rw [all]
    rfl
  | cons h es ih =>
    have both : (s.claim.list.filter (fun x => x.1 ≠ h.block)).filter (fun x => x.1 ∉ es.map HandoverEntry.block)
        = s.claim.list.filter (fun x => x.1 ∉ (h :: es).map HandoverEntry.block) := by
      rw [List.filter_filter]
      refine List.filter_congr (fun x _ => ?_)
      simp [Bool.and_comm]
    rw [List.foldl_cons, ← both, ih (s.giveBlock c h)]
    rfl

theorem State.entry_giveBlock (c : Station) (s : State) (h : HandoverEntry) (b : Block) : (s.giveBlock c h).entry b
    = if b = h.block then { s.entry h.block with owner := c, epoch := h.epoch, yielding := false } else s.entry b :=
  s.entry_setEntry h.block b _

theorem State.entry_giveBlocks_other {c : Station} {es : List HandoverEntry} {b : Block}
    (hb : b ∉ es.map HandoverEntry.block) (s : State) : (es.foldl (State.giveBlock c) s).entry b = s.entry b := by
  induction es generalizing s with
  | nil => rfl
  | cons h es ih =>
    rw [List.map_cons, List.mem_cons, not_or] at hb
    rw [List.foldl_cons, ih hb.2, State.entry_giveBlock, if_neg hb.1]

theorem State.entry_giveBlocks_given {c : Station} {es : List HandoverEntry} (hn : (es.map HandoverEntry.block).Nodup)
    {h : HandoverEntry} (hh : h ∈ es) (s : State) : (es.foldl (State.giveBlock c) s).entry h.block
      = { s.entry h.block with owner := c, epoch := h.epoch, yielding := false } := by
  induction es generalizing s with
  | nil => cases hh
  | cons x es ih =>
    rw [List.map_cons, List.nodup_cons] at hn
    obtain ⟨fresh, hn⟩ := hn
    rw [List.foldl_cons]
    obtain rfl | hh := List.mem_cons.mp hh
    · rw [State.entry_giveBlocks_other fresh, State.entry_giveBlock, if_pos rfl]
    · have other : h.block ≠ x.block := fun same => fresh (same ▸ List.mem_map_of_mem hh)
      rw [ih hn hh, State.entry_giveBlock, if_neg other]

section
variable (s : State) (c : Station) (bs : List Block)

theorem State.passOn_frame : s.passOn c bs = ((s.enqueue (.handover c (s.handoverEntries bs))).setDir
    (s.passOn c bs).dir).setClaim { s.claim with list := s.claim.list.filter (fun x => x.1 ∉ bs) } := by
  have given := State.giveBlocks_eq c (s.handoverEntries bs) (s.enqueue (.handover c (s.handoverEntries bs)))
  rw [map_block_handoverEntries] at given
  exact given

theorem State.entry_passOn_of_not_mem {b : Block} (hb : b ∉ bs) : (s.passOn c bs).entry b = s.entry b := by
  rw [← map_block_handoverEntries s bs] at hb
  exact State.entry_giveBlocks_other hb _

theorem State.entry_passOn_of_mem (hn : bs.Nodup) {b : Block} (hb : b ∈ bs) : (s.passOn c bs).entry b
    = { s.entry b with owner := c, epoch := (s.entry b).epoch + 1, yielding := false } := by
  rw [← map_block_handoverEntries s bs] at hn
  exact State.entry_giveBlocks_given hn (List.mem_map_of_mem hb) _

end

/-! ## The claim slots asked for (R41) -/

/-- The units a handover may touch, but for the claim slots and the waiting requests: what no grant changes. -/
def State.ungranted (s : State) :
    SeqUnit × Window × WriteUnit × IncidentLog × Vector DirEntry 256 × MemberUnit × List (Block × Station) :=
  (s.seq, s.window, s.write, s.log, s.dir, s.member, s.claim.list)

theorem State.ungranted_sendClaim (s : State) (b : Block) : (s.sendClaim b).ungranted = s.ungranted := by
  cases h : s.claimSlot b with
  | none => rw [State.sendClaim_of_none h]
  | some c =>
    rw [State.sendClaim_of_some h]
    split <;> rfl

theorem State.ungranted_grantSlot (s : State) : s.grantSlot.ungranted = s.ungranted := by
  obtain h | ⟨b, _, _, h⟩ := s.grantSlot_cases
  · rw [h]
  · rw [h]
    exact State.ungranted_sendClaim _ b

theorem State.ungranted_handOver (s : State) (c : Station) (bs : List Block) :
    (s.handOver c bs).ungranted = (s.passOn c bs).ungranted := by
  have grants : ∀ u : State, (bs.foldl (fun v _ => v.grantSlot) u).ungranted = u.ungranted := by
    induction bs with
    | nil => exact fun _ => rfl
    | cons b bs ih => exact fun u => (ih u.grantSlot).trans u.ungranted_grantSlot
  exact grants _

/-- Settles O28: what is given away, then the grants, which change claim slots and requests alone. -/
theorem handoverGivesBlocks : Obligations.HandoverGivesBlocks := by
  refine ⟨?_, ?_⟩
  · intro c bs s hn t u
    have frame : u = _ := s.passOn_frame c bs
    have granted : t.ungranted = u.ungranted := s.ungranted_handOver c bs
    have left : t.ungranted = ((s.enqueue (.handover c (s.handoverEntries bs))).seq, s.window, s.write, s.log, u.dir,
        s.member, s.claim.list.filter (fun x => x.1 ∉ bs)) := granted.trans (congrArg State.ungranted frame)
    simp only [State.ungranted, Prod.mk.injEq] at granted left
    obtain ⟨-, -, sameWrite, -, sameDir, sameMember, sameList⟩ := granted
    obtain ⟨seq, window, write, log, dir, -, list⟩ := left
    refine ⟨congrArg SeqUnit.queue seq, congrArg SeqUnit.next seq, window, write, log, fun b hb => ?_, fun b hb => ?_,
      fun x => ?_, congrArg (fun v => v.claim.slots) frame, sameList.symm, sameDir.symm, sameWrite.symm,
      sameMember.symm, rfl⟩
    · rw [State.entry_of_dir dir, s.entry_passOn_of_mem c bs hn hb]
    · rw [State.entry_of_dir dir, s.entry_passOn_of_not_mem c bs hb]
    · rw [list]
      simp
  · intro s wants
    have toWants : ∀ b, s.wantsSlot b = true ↔ wants b := fun b => State.wantsSlot_iff
    refine ⟨fun h => State.grantSlot_of_none ?_, fun hs hf pre h rest held hw before => ?_⟩
    · exact h.imp_right (Or.imp_right (fun nobody =>
        State.wanting_of_none (fun x hx => (toWants _).not.mpr (nobody x hx))))
    · obtain ⟨_, first⟩ := State.wanting_of_first held ((toWants _).mpr hw) (fun y hy => (toWants _).not.mpr (before y hy))
      exact State.grantSlot_of_first hs hf first

/-! ## Which blocks are ready, and to whom they go (R50, R51, R101) -/

theorem State.updateQueued_eq_false {s : State} {b : Block} : s.updateQueued b = false ↔
    ∀ e ∈ s.seq.queue, ∀ ep v es, e.frame.payload ≠ .update b ep v es := by
  simp only [State.updateQueued, List.any_eq_false]
  refine forall₂_congr (fun e _ => ?_)
  cases e.frame.payload with
  | update b' ep v es =>
    simp only [decide_eq_true_eq, ne_eq, Payload.update.injEq, not_and]
    exact ⟨fun other _ _ _ same => absurd same other, fun h same => h ep v es same rfl rfl rfl⟩
  | _ => simp

theorem State.batchFor_iff {s : State} {b : Block} :
    s.batchFor b = true ↔ ∃ x, s.write.batch = some x ∧ x.block = b := by
  cases h : s.write.batch <;> simp [State.batchFor, h]

theorem State.batchFor_eq_false {s : State} {b : Block} :
    s.batchFor b = false ↔ ∀ x, s.write.batch = some x → x.block ≠ b := by
  simp [← Bool.not_eq_true, State.batchFor_iff]

theorem State.servable_iff {s : State} {b : Block} : s.servable b = true ↔ s.owned b = true
    ∧ (s.entry b).copy = .current ∧ (s.entry b).yielding = true ∧ s.updateQueued b = false := by
  simp [State.servable, State.isCurrent, and_assoc]

theorem State.handable_iff {s : State} {b : Block} : s.handable b = true ↔ s.owned b = true
    ∧ (s.entry b).copy = .current ∧ s.batchFor b = false ∧ s.updateQueued b = false := by
  simp [State.handable, State.isCurrent, and_assoc]

/-- A search for a pair ends at one that f holds for, and for none before it. -/
theorem map_snd_find?_eq_some {α β : Type} {f : α × β → Bool} {xs : List (α × β)} {y : β} :
    (xs.find? f).map Prod.snd = some y ↔
      ∃ pre x rest, xs = pre ++ (x, y) :: rest ∧ f (x, y) = true ∧ ∀ z ∈ pre, f z = false := by
  simp only [Option.map_eq_some_iff, List.find?_eq_some_iff_append, Bool.not_eq_true', Prod.exists]
  constructor
  · rintro ⟨x, _, ⟨hf, pre, rest, hxs, hpre⟩, rfl⟩
    exact ⟨pre, x, rest, hxs, hf, hpre⟩
  · rintro ⟨pre, x, rest, hxs, hf, hpre⟩
    exact ⟨x, y, ⟨hf, pre, rest, hxs, hpre⟩, rfl⟩

theorem State.firstClaimant_iff {s : State} {b : Block} {c : Station} : s.firstClaimant b = some c ↔
    ∃ pre rest, s.claim.list = pre ++ (b, c) :: rest ∧ ∀ x ∈ pre, x.1 ≠ b := by
  rw [State.firstClaimant, map_snd_find?_eq_some]
  simp only [decide_eq_true_eq, decide_eq_false_iff_not]
  constructor
  · rintro ⟨pre, _, rest, hxs, rfl, hpre⟩
    exact ⟨pre, rest, hxs, hpre⟩
  · rintro ⟨pre, rest, hxs, hpre⟩
    exact ⟨pre, b, rest, hxs, rfl, hpre⟩

theorem State.ownExclude_eq_false {s : State} {e : ReplayEntry} :
    s.ownExclude e = false ↔ ∀ c, e.frame.payload ≠ .exclude s.own c := by
  unfold State.ownExclude
  cases e.frame.payload <;> simp

theorem State.heirReady_iff {s : State} : s.heirReady = true ↔ s.state = .leaving ∧ s.member.registrar ≠ 0
    ∧ (∀ e ∈ s.seq.queue, s.ownExclude e = false) ∧ ∃ b, s.handable b = true := by
  simp [State.heirReady, State.leaving, blocks, and_assoc]

theorem firstWith_eq_take {α : Type} (f : α → Bool) (n : Nat) (xs : List α) :
    firstWith f n xs = (xs.filter f).take n := by
  induction xs generalizing n with
  | nil => cases n <;> simp [firstWith]
  | cons x xs ih =>
    cases n with
    | zero => simp [firstWith]
    | succ n =>
      cases hf : f x with
      | true => simp [firstWith, hf, ih]
      | false => simp [firstWith, hf, ih]

/-- Settles O29: each row is a handover where its unit is ready, and what ready means. -/
theorem servingHandsOver : Obligations.ServingHandsOver := by
  refine ⟨fun s hr hf => ⟨?_, ?_⟩, ?_, fun s => ⟨fun c => ?_, ?_, firstWith_eq_take _ _ _⟩⟩
  · intro c hc t ht
    have ready : s.tickStamp.servedClaimant = some c := hc
    have served : s.tickStamp.serveIfFree = t := by
      rw [State.serveIfFree, if_pos (by exact hf), State.serve, ready]
      rfl
    show Host.Outcome.next (s.event State.serveIfFree) = _
    rw [State.event_of_resetHigh hr, served, State.settleEvent_of_still ht]
  · intro hh t ht
    have handed : s.tickStamp.handToHeir = t := if_pos (Bool.and_eq_true_iff.mpr ⟨hh, hf⟩)
    show Host.Outcome.next (s.event State.handToHeir) = _
    rw [State.event_of_resetHigh hr, handed, State.settleEvent_of_still ht]
  · intro b s noUpdate
    refine ⟨?_, ?_, fun c => State.firstClaimant_iff⟩
    · rw [State.servable_iff, State.updateQueued_eq_false]
    · rw [State.handable_iff, State.batchFor_eq_false, State.updateQueued_eq_false]
  · exact map_snd_find?_eq_some
  · simp only [State.heirReady_iff, State.ownExclude_eq_false]
    exact Iff.rfl

end Sys2Proof.Machine
end

section
/-! CLAIM received: whether it joins the claim list, and the release of its block (R32, R47, R48, R130). -/

namespace Sys2Proof.Machine

/-! ## The station that has carried a CLAIM -/

@[simp] theorem State.write_hear (s : State) (p : Station) : (s.hear p).write = s.write := by rw [s.hear_eq p]; rfl
@[simp] theorem State.registrar_hear (s : State) (p : Station) : (s.hear p).member.registrar = s.member.registrar := by
  rw [s.hear_eq p]; rfl

@[simp] theorem State.write_carried (s : State) (l : LaneId) (p : Station) : (s.carried l p).write = s.write := by
  simp [State.carried]
@[simp] theorem State.registrar_carried (s : State) (l : LaneId) (p : Station) :
    (s.carried l p).member.registrar = s.member.registrar := by simp [State.carried]
@[simp] theorem State.owned_carried (s : State) (l : LaneId) (p : Station) (b : Block) :
    (s.carried l p).owned b = s.owned b := by simp [State.owned]
@[simp] theorem State.orphan_carried (s : State) (l : LaneId) (p : Station) (b : Block) :
    (s.carried l p).orphan b = s.orphan b := by simp [State.orphan, State.orphaned]
@[simp] theorem State.claimEntered_carried (s : State) (l : LaneId) (p q : Station) (b : Block) :
    (s.carried l p).claimEntered b q = s.claimEntered b q := by
  simp [State.claimEntered, State.isRegistrar]

/-! ## Entry or drop (R47) -/

theorem State.claimEntered_iff {s : State} {b : Block} {p : Station} : s.claimEntered b p = true ↔
    s.state = .live ∧ (s.owned b = true ∨ s.isRegistrar = true ∧ s.orphan b = true) ∧ (s.peer p).state = .live
      ∧ (b, p) ∉ s.claim.list ∧ s.claim.list.length < Config.claimPlaces := by
  simp [State.claimEntered, and_assoc]

theorem State.isRegistrar_iff {s : State} :
    s.isRegistrar = true ↔ s.own ≠ 0 ∧ s.member.registrar = s.own := by
  simp [State.isRegistrar]

section
variable {l : LaneId} {p : Station} {q : SeqNo} {b : Block} {a : Nat} {s : State}
  (h : s.hearsFrame l ⟨p, s.member.own, q, .claim b a⟩ = true)
include h

/-- A station that is addressed has a number (R161). -/
theorem own_ne_zero_of_hears_claim : s.member.own ≠ 0 := by
  have heard := State.canHear_of_hears h
  simp only [State.canHear, Bool.and_eq_true] at heard
  obtain ⟨⟨⟨-, wf⟩, -⟩, -⟩ := heard
  simp only [Frame.wellFormed, Bool.and_eq_true] at wf
  obtain ⟨⟨-, addressed⟩, -⟩ := wf
  simpa [Payload.kind, Kind.toOne] using addressed

/-- The row of a CLAIM heard: its claimant joins the claim list, or nothing is left of it. -/
theorem exec_claimReceived : exec (.claimReceived (cleanFrame l ⟨p, s.member.own, q, .claim b a⟩)) s
    = .next (if s.claimEntered b p then (s.carried l p).setClaim { s.claim with list := s.claim.list ++ [(b, p)] }
        else s.carried l p).settleEvent := by
  have judged : (s.carried l p).deliverActive ⟨p, s.member.own, q, .claim b a⟩ = (s.carried l p).claimArrive p b := by
    rw [State.deliverActive_unsequenced rfl (by simp [Payload.kind]) (by simp [Payload.kind])]
    by_cases hx : ((s.carried l p).peer p).state = .excluded
    · have dropped : (s.carried l p).claimEntered b p = false := by simp [State.claimEntered, hx]
      rw [if_pos hx, State.claimArrive, dropped]
      rfl
    · exact if_neg hx
  rw [← State.claimEntered_carried s l p p b, ← State.claim_carried s l p]
  exact (congrArg Host.Outcome.next (State.event_of_hearing h)).trans
    (congrArg (fun u : State => Host.Outcome.next u.settleEvent) judged)

theorem exec_claim_entered (he : s.claimEntered b p = true) :
    exec (.claimReceived (cleanFrame l ⟨p, s.member.own, q, .claim b a⟩)) s
      = .next ((s.carried l p).setClaim { s.claim with list := s.claim.list ++ [(b, p)] }).settleEvent := by
  rw [exec_claimReceived h, if_pos he]

end

/-! ## Release (R32, R48) -/

/-- The release of a block this station owns can be answered: CURRENT, not yielding, nothing held, no due batch. -/
theorem State.releasable_iff {s : State} {b : Block} (ho : s.owned b = true) : s.releasable b = true ↔
    (s.entry b).copy = .current ∧ (s.entry b).yielding = false ∧ s.hasHeld b = false
      ∧ ∀ x, s.write.batch = some x → x.block = b → x.due = false := by
  have due : s.write.batch.any (fun t => t.block = b && t.due) = false
      ↔ ∀ x, s.write.batch = some x → x.block = b → x.due = false := by
    cases hb : s.write.batch <;> simp
  rw [← due]
  simp only [State.releasable, State.awaitingCommit, State.isCurrent, ho, Bool.and_eq_true, Bool.not_eq_true',
    decide_eq_true_eq, Bool.true_and, and_assoc]
  refine and_congr_right (fun hc => and_congr_right (fun hy => ?_))
  simp [hc, hy]

theorem State.releaseBlock_of_noBatch {s : State} {b : Block} (h : s.batchFor b = false) :
    s.releaseBlock b = s.setEntry b { s.entry b with yielding := true } := if_neg (by simp [h])

theorem State.releaseBlock_of_batch {s : State} {b : Block} (h : s.batchFor b = true) :
    s.releaseBlock b = s.closeOrDue := if_pos h

/-- Settles O51: a CLAIM by whether R47 enters it, and the release of an owned block by its batch. -/
theorem claimIsEntered : Obligations.ClaimIsEntered := by
  refine ⟨?_, ?_, ?_⟩
  · intro l p q b a s f h hs ho hp hnew hroom t row
    have entered : exec row s = .next t.settleEvent :=
      exec_claim_entered h (State.claimEntered_iff.mpr ⟨hs, Or.inl ho, hp, hnew, hroom⟩)
    refine ⟨fun ht => ?_, entered, fun act => ?_, State.releasable_iff ho⟩
    · rw [entered, State.settleEvent_of_still ht]
    · have released : exec row s = .next (t.releaseBlock b).goesOn := by
        rw [entered, State.settleEvent_goesOn act]
        rfl
      have write : t.write = s.write := s.write_carried l p
      have seq : t.seq = s.seq := s.seq_carried l p
      have batch : t.batchFor b = s.batchFor b := by rw [State.batchFor, write, State.batchFor]
      have free : t.freeGeneral = s.freeGeneral := by
        simp only [State.freeGeneral, State.freeEntry, seq]
      refine ⟨fun hb => ?_, fun hb hf => ?_, fun x hx hxb hf => ?_⟩
      · have entry : t.entry b = s.entry b := s.entry_carried l p b
        rw [released, State.releaseBlock_of_noBatch (batch.trans hb), entry]
      · obtain ⟨x, hx, -⟩ := State.batchFor_iff.mp hb
        rw [released, State.releaseBlock_of_batch (batch.trans hb),
          State.closeOrDue_of_free (by rw [write, hx]) (free.trans hf)]
      · have hb : s.batchFor b = true := State.batchFor_iff.mpr ⟨x, hx, hxb⟩
        rw [released, State.releaseBlock_of_batch (batch.trans hb),
          State.closeOrDue_of_full (by rw [write, hx]) (free.trans hf), write]
  · intro l p q b a s f h hs ho horphan hr hp hnew hroom t row
    have registrar : s.isRegistrar = true := State.isRegistrar_iff.mpr ⟨own_ne_zero_of_hears_claim h, hr⟩
    have entered : exec row s = .next t.settleEvent :=
      exec_claim_entered h (State.claimEntered_iff.mpr ⟨hs, Or.inr ⟨registrar, horphan⟩, hp, hnew, hroom⟩)
    have notOwned : t.owned b = false := (s.owned_carried l p b).trans ho
    refine ⟨entered, fun ht => ?_, s.entry_carried l p b, ?_, ?_⟩
    · rw [entered, State.settleEvent_of_still ht]
    · simp [State.releasable, notOwned]
    · simp [State.servable, notOwned]
  · intro l p q b a s f row h why
    have dropped : ¬ s.claimEntered b p = true := by
      rw [State.claimEntered_iff]
      rintro ⟨hs, hblock, hp, hnew, hroom⟩
      obtain hx | ⟨ho, hx⟩ | hx | hx | hx := why
      · exact hx hs
      · obtain hown | ⟨registrar, horphan⟩ := hblock
        · exact Bool.false_ne_true (ho.symm.trans hown)
        · exact hx ⟨horphan, (State.isRegistrar_iff.mp registrar).2⟩
      · exact hx hp
      · exact hnew hx
      · exact absurd hroom (Nat.not_lt.mpr hx)
    exact (exec_claimReceived h).trans (by rw [if_neg dropped])

end Sys2Proof.Machine
end


section
/-! The places of each unit: what each list of a unit may hold, and the units' changes that stay within them (R23, R27, R33, R59, R98, R167, Tables 3-1 and 6-1). -/

namespace Sys2Proof.Machine

/-! ## The bounds, unit by unit -/

def IncidentLog.Fits (g : IncidentLog) : Prop := g.records.length ≤ Config.incidentPlaces

def LocalPort.Fits (p : LocalPort) : Prop := p.notices.length ≤ Config.noticePlaces

def SeqUnit.Fits (q : SeqUnit) : Prop :=
  q.queue.length ≤ Config.replayPlaces ∧ (q.queue.filter ReplayEntry.general).length ≤ Config.generalPlaces

def OpenBatch.Fits (t : OpenBatch) : Prop := 1 ≤ t.entries.length ∧ t.entries.length ≤ Config.batchEntries

/-- The distinct blocks of a held-write list. -/
def distinctBlocks (hs : List HeldWrite) : List Block := (hs.map (fun h => blockOf h.addr)).eraseDups

structure WriteUnit.Fits (w : WriteUnit) : Prop where
  batch : ∀ t, w.batch = some t → t.Fits
  held : w.held.length ≤ Config.heldPlaces
  blocks : (distinctBlocks w.held).length ≤ Config.heldBlocks

def ClaimUnit.Fits (c : ClaimUnit) : Prop :=
  c.slots.length ≤ Config.claimSlots ∧ c.list.length ≤ Config.claimPlaces

structure CopyUnit.Fits (c : CopyUnit) : Prop where
  slots : c.slots.length ≤ Config.fetchSlots
  answers : c.answers.length ≤ Config.answerPlaces
  holds : (c.holds.map Prod.fst).Nodup

def MemberUnit.Fits (m : MemberUnit) : Prop := (m.waitingExcludes.map Prod.fst).Nodup

/-- The lists of the station are within their places where each unit's are. -/
theorem State.bounded_iff {s : State} : s.bounded = true ↔ s.log.Fits ∧ s.port.Fits ∧ s.seq.Fits ∧ s.write.Fits
    ∧ s.claim.Fits ∧ s.copy.Fits ∧ s.member.Fits := by
  have batch : s.write.batch.all (fun t => decide (1 ≤ t.entries.length)
      && decide (t.entries.length ≤ Config.batchEntries)) = true ↔ ∀ t, s.write.batch = some t → t.Fits := by
    cases s.write.batch <;> simp [OpenBatch.Fits]
  simp only [State.bounded, Bool.and_eq_true, decide_eq_true_eq, batch, and_assoc]
  constructor
  · rintro ⟨records, notices, queue, general, entries, held, blocks, claims, list, fetches, answers, excludes, holds⟩
    exact ⟨records, notices, ⟨queue, general⟩, ⟨entries, held, blocks⟩, ⟨claims, list⟩, ⟨fetches, answers, holds⟩, excludes⟩
  · rintro ⟨records, notices, ⟨queue, general⟩, write, ⟨claims, list⟩, copy, excludes⟩
    exact ⟨records, notices, queue, general, write.batch, write.held, write.blocks, claims, list, copy.slots, copy.answers,
      excludes, copy.holds⟩

/-! ## Incident Log and local port -/

theorem IncidentLog.fits_record {g : IncidentLog} (h : g.Fits) (clock : Clock) (o : Offer) : (g.record clock o).Fits := by
  unfold IncidentLog.record
  split
  · next room => simpa [IncidentLog.Fits] using room
  · exact h

theorem IncidentLog.fits_records {g : IncidentLog} (h : g.Fits) (clock : Clock) (os : List Offer) :
    (os.foldl (fun g o => g.record clock o) g).Fits := by
  induction os generalizing g with
  | nil => exact h
  | cons o os ih => exact ih (IncidentLog.fits_record h clock o)

theorem IncidentLog.fits_ack {g : IncidentLog} (h : g.Fits) (w : Word) : (g.ack w).Fits := by
  unfold IncidentLog.ack
  split
  · next i rest hr =>
    split
    · exact (Nat.le_succ rest.length).trans ((congrArg List.length hr).symm.trans_le h)
    · exact h
  · exact h

theorem LocalPort.fits_readNotice {p : LocalPort} (h : p.Fits) : p.readNotice.Fits := by
  unfold LocalPort.readNotice
  split
  · next b rest hn => exact (Nat.le_succ rest.length).trans ((congrArg List.length hn).symm.trans_le h)
  · exact h

/-! ## Sequencing Unit -/

/-- The frame's entry takes a general slot (R59). -/
def takesGeneral (f : Frame) : Bool :=
  ReplayEntry.general { seq := 0, frame := f, sent := false, marked := false, count := 0, timer := none }

/-- What a queue takes of the places rests on its frames. -/
theorem SeqUnit.fits_iff {q : SeqUnit} : q.Fits ↔ (q.queue.map ReplayEntry.frame).length ≤ Config.replayPlaces
    ∧ (q.queue.map ReplayEntry.frame).countP takesGeneral ≤ Config.generalPlaces := by
  rw [SeqUnit.Fits, List.length_map, List.countP_map, ← List.countP_eq_length_filter]
  exact Iff.rfl

/-- A queue with no other frames than another's takes no more places. -/
theorem SeqUnit.fits_of_sublist {q r : SeqUnit}
    (h : (r.queue.map ReplayEntry.frame).Sublist (q.queue.map ReplayEntry.frame)) (hq : q.Fits) : r.Fits := by
  rw [SeqUnit.fits_iff] at hq ⊢
  exact ⟨h.length_le.trans hq.1, h.countP_le.trans hq.2⟩

/-- A queue with the frames of another takes the same places. -/
theorem SeqUnit.fits_of_frames {q r : SeqUnit} (h : r.queue.map ReplayEntry.frame = q.queue.map ReplayEntry.frame) :
    q.Fits → r.Fits := SeqUnit.fits_of_sublist (h ▸ List.Sublist.refl _)

theorem frames_takeFirst (f : ReplayEntry → Bool) (q : List ReplayEntry) :
    (takeFirst f q).map ReplayEntry.frame = q.map ReplayEntry.frame := by
  induction q with
  | nil => rfl
  | cons e rest ih =>
    unfold takeFirst
    split
    · rfl
    · rw [List.map_cons, ih, List.map_cons]

theorem frames_takeFromQueue (f : ReplayEntry → Bool) (q : List ReplayEntry) :
    (takeFromQueue f q).map ReplayEntry.frame = q.map ReplayEntry.frame := by
  cases q with
  | nil => rfl
  | cons e rest =>
    rw [takeFromQueue]
    split
    · rfl
    · rw [List.map_cons, frames_takeFirst, List.map_cons]

theorem frames_replayMarks (q : List ReplayEntry) :
    (replayMarks q).map ReplayEntry.frame = q.map ReplayEntry.frame := by
  cases q with
  | nil => rfl
  | cons e rest => simp [replayMarks]

@[simp] theorem SeqUnit.queue_owe (q : SeqUnit) : q.owe.queue = q.queue := by
  unfold SeqUnit.owe
  split <;> rfl

@[simp] theorem SeqUnit.queue_oweUrgent (q : SeqUnit) : q.oweUrgent.queue = q.queue := q.queue_owe

@[simp] theorem SeqUnit.queue_oweAccepted (q : SeqUnit) : q.oweAccepted.queue = q.queue := q.queue_owe

/-! ## Write Unit -/

theorem nodup_eraseDups (bs : List Block) : bs.eraseDups.Nodup := by
  induction hn : bs.length using Nat.strong_induction_on generalizing bs with
  | _ n ih =>
    cases bs with
    | nil => simp
    | cons b bs =>
      rw [List.eraseDups_cons, List.nodup_cons]
      subst hn
      refine ⟨by simp, ih _ (Nat.lt_succ_of_le (List.length_filter_le ..)) _ rfl⟩

/-- Fewer held writes stand for no more blocks. -/
theorem length_distinctBlocks_le {hs gs : List HeldWrite} (h : ∀ x ∈ hs, x ∈ gs) :
    (distinctBlocks hs).length ≤ (distinctBlocks gs).length := by
  refine (List.subperm_of_subset (nodup_eraseDups _) (fun b hb => ?_)).length_le
  simp only [distinctBlocks, List.mem_eraseDups, List.mem_map] at hb ⊢
  obtain ⟨x, hx, rfl⟩ := hb
  exact ⟨x, h x hx, rfl⟩

theorem distinctBlocks_append_one (hs : List HeldWrite) (x : HeldWrite) : distinctBlocks (hs ++ [x])
    = distinctBlocks hs ++ if hs.any (fun h => blockOf h.addr = blockOf x.addr) then [] else [blockOf x.addr] := by
  have removed : [blockOf x.addr].removeAll (hs.map (fun h => blockOf h.addr))
      = if hs.any (fun h => blockOf h.addr = blockOf x.addr) then [] else [blockOf x.addr] := by
    by_cases hb : hs.any (fun h => blockOf h.addr = blockOf x.addr) = true
    · rw [if_pos hb]
      simpa [List.removeAll, List.filter_cons] using hb
    · rw [if_neg hb]
      simpa [List.removeAll, List.filter_cons] using hb
  rw [distinctBlocks, List.map_append, List.eraseDups_append, List.map_singleton, removed]
  split <;> simp [distinctBlocks, List.eraseDups_cons]

section
variable {w : WriteUnit} (h : w.Fits)
include h

theorem WriteUnit.Fits.withBatch {b : Option OpenBatch} (hb : ∀ t, b = some t → t.Fits) (x : Option WaitingWrite) :
    WriteUnit.Fits { batch := b, held := w.held, waiting := x } where
  batch := hb
  held := h.held
  blocks := h.blocks

theorem WriteUnit.Fits.filterHeld (f : HeldWrite → Bool) {b : Option OpenBatch} (hb : ∀ t, b = some t → t.Fits)
    (x : Option WaitingWrite) : WriteUnit.Fits { batch := b, held := w.held.filter f, waiting := x } where
  batch := hb
  held := (List.length_filter_le ..).trans h.held
  blocks := (length_distinctBlocks_le (fun _ hx => (List.mem_filter.mp hx).1)).trans h.blocks

/-- A batch changed in its entries' values, its age or its due flag is still within its places. -/
theorem WriteUnit.Fits.mapBatch {f : OpenBatch → OpenBatch} (hf : ∀ t, w.batch = some t → t.Fits → (f t).Fits)
    (x : Option WaitingWrite) : WriteUnit.Fits { batch := w.batch.map f, held := w.held, waiting := x } :=
  WriteUnit.Fits.withBatch h (by
    intro t ht
    obtain ⟨t, hb, rfl⟩ := Option.map_eq_some_iff.mp ht
    exact hf t hb (h.batch t hb)) x

/-- A held entry replaced (R33). -/
theorem WriteUnit.Fits.replaceHeld (a : WindowAddr) (v : Word) (x : Option WaitingWrite) : WriteUnit.Fits
    { batch := w.batch, held := w.held.map (fun e => if e.addr = a then { e with value := v } else e), waiting := x } where
  batch := h.batch
  held := by simpa using h.held
  blocks := by
    have addr : ∀ e : HeldWrite, (if e.addr = a then { e with value := v } else e : HeldWrite).addr = e.addr := by
      intro e
      split <;> rfl
    simpa [distinctBlocks, Function.comp_def, addr] using h.blocks

/-- An entry appended to the held-write list, where R33 has room for it. -/
theorem WriteUnit.Fits.appendHeld (e : HeldWrite) (hn : w.held.length < Config.heldPlaces)
    (hb : w.held.any (fun x => blockOf x.addr = blockOf e.addr) = true
      ∨ (distinctBlocks w.held).length < Config.heldBlocks) (x : Option WaitingWrite) :
    WriteUnit.Fits { batch := w.batch, held := w.held ++ [e], waiting := x } where
  batch := h.batch
  held := by simpa using hn
  blocks := by
    have old := h.blocks
    rw [distinctBlocks_append_one]
    split
    · simpa using old
    · next hnew =>
      have room := hb.resolve_left hnew
      simpa using room

end

/-- A write that is entered already, or finds a place, leaves the batch within its places (R27). -/
theorem OpenBatch.Fits.take {t : OpenBatch} (h : t.Fits) {a : WindowAddr}
    (hroom : t.entries.any (fun e => e.offset = offsetOf a) = true ∨ t.entries.length < Config.batchEntries) (x : Word) :
    (t.take a x).Fits := by
  unfold OpenBatch.take
  split
  · simpa [OpenBatch.Fits] using h
  · next hnew =>
    have room := hroom.resolve_left hnew
    simpa [OpenBatch.Fits] using room

/-! ## Units over a character time -/

theorem WriteUnit.fits_tick {w : WriteUnit} (h : w.Fits) : w.tick.Fits :=
  WriteUnit.Fits.mapBatch h (f := fun t => { t with age := t.age + 1 }) (fun _ _ ht => ht) _

theorem ClaimUnit.fits_tick {c : ClaimUnit} (h : c.Fits) : c.tick.Fits := by
  simpa [ClaimUnit.tick, ClaimUnit.Fits] using h

theorem SeqUnit.fits_tick {q : SeqUnit} (h : q.Fits) : q.tick.Fits :=
  SeqUnit.fits_of_frames (by simp [SeqUnit.tick]) h

theorem CopyUnit.fits_tick {c : CopyUnit} (h : c.Fits) : c.tick.Fits where
  slots := by simpa [CopyUnit.tick] using h.slots
  answers := h.answers
  holds := by simpa [CopyUnit.tick, Function.comp_def] using h.holds

end Sys2Proof.Machine
end

section
/-! Every operation of the units keeps the lists within their places and the lines settled: each lemma follows its operation's definition, and the operations that ask for a place carry the test their callers make. -/

namespace Sys2Proof.Machine

/-- Where the lists of s are within their places, those of t are; and where the lines of s are settled, those of t are. -/
structure Keeps (s t : State) : Prop where
  lists : s.bounded = true → t.bounded = true
  lines : s.linesSettled = true → t.linesSettled = true

theorem Keeps.refl (s : State) : Keeps s s := ⟨id, id⟩

theorem length_append_one_le {α : Type} {xs : List α} {x : α} {n : Nat} (h : xs.length < n) :
    (xs ++ [x]).length ≤ n := by simpa using h

namespace Keeps

variable {s u : State} (h : Keeps s u)

/-- Either way a condition falls. -/
theorem ite {c : Prop} [Decidable c] {a b : State} (ha : c → Keeps s a) (hb : ¬ c → Keeps s b) :
    Keeps s (if c then a else b) := by
  split
  · next hc => exact ha hc
  · next hc => exact hb hc

include h

/-- One operation after another over a list. -/
theorem foldl {α : Type} {f : State → α → State} (hf : ∀ v x, Keeps s v → Keeps s (f v x)) (xs : List α) :
    Keeps s (xs.foldl f u) := by
  induction xs generalizing u with
  | nil => exact h
  | cons x xs ih => exact ih (hf u x h)

/-! ## Updates of one unit -/

theorem setWindow (x : Window) : Keeps s (u.setWindow x) := ⟨h.lists, h.lines⟩
theorem setDir (x : Vector DirEntry 256) : Keeps s (u.setDir x) := ⟨h.lists, h.lines⟩
theorem setSettle (x : SettleUnit) : Keeps s (u.setSettle x) := ⟨h.lists, h.lines⟩
theorem setAudit (x : AuditUnit) : Keeps s (u.setAudit x) := ⟨h.lists, h.lines⟩
theorem setSelect (x : Selector) : Keeps s (u.setSelect x) := ⟨h.lists, h.lines⟩
theorem tickStamp : Keeps s u.tickStamp := ⟨h.lists, h.lines⟩

theorem setWrite {x : WriteUnit} (hx : u.write.Fits → x.Fits) : Keeps s (u.setWrite x) where
  lists hs := by
    obtain ⟨log, port, seq, write, claim, copy, member⟩ := State.bounded_iff.mp (h.lists hs)
    exact State.bounded_iff.mpr ⟨log, port, seq, hx write, claim, copy, member⟩
  lines := h.lines

theorem setClaim {x : ClaimUnit} (hx : u.claim.Fits → x.Fits) : Keeps s (u.setClaim x) where
  lists hs := by
    obtain ⟨log, port, seq, write, claim, copy, member⟩ := State.bounded_iff.mp (h.lists hs)
    exact State.bounded_iff.mpr ⟨log, port, seq, write, hx claim, copy, member⟩
  lines := h.lines

theorem setSeq {x : SeqUnit} (hx : u.seq.Fits → x.Fits) : Keeps s (u.setSeq x) where
  lists hs := by
    obtain ⟨log, port, seq, write, claim, copy, member⟩ := State.bounded_iff.mp (h.lists hs)
    exact State.bounded_iff.mpr ⟨log, port, hx seq, write, claim, copy, member⟩
  lines := h.lines

theorem setMember {x : MemberUnit} (hx : u.member.Fits → x.Fits) : Keeps s (u.setMember x) where
  lists hs := by
    obtain ⟨log, port, seq, write, claim, copy, member⟩ := State.bounded_iff.mp (h.lists hs)
    exact State.bounded_iff.mpr ⟨log, port, seq, write, claim, copy, hx member⟩
  lines := h.lines

theorem setCopyUnit {x : CopyUnit} (hx : u.copy.Fits → x.Fits) : Keeps s (u.setCopyUnit x) where
  lists hs := by
    obtain ⟨log, port, seq, write, claim, copy, member⟩ := State.bounded_iff.mp (h.lists hs)
    exact State.bounded_iff.mpr ⟨log, port, seq, write, claim, hx copy, member⟩
  lines := h.lines

theorem setLog {x : IncidentLog} (hx : u.log.Fits → x.Fits) : Keeps s (u.setLog x) where
  lists hs := by
    obtain ⟨log, port, seq, write, claim, copy, member⟩ := State.bounded_iff.mp (h.lists hs)
    exact State.bounded_iff.mpr ⟨hx log, port, seq, write, claim, copy, member⟩
  lines := h.lines

theorem setPort {x : LocalPort} (hx : u.port.Fits → x.Fits) : Keeps s (u.setPort x) where
  lists hs := by
    obtain ⟨log, port, seq, write, claim, copy, member⟩ := State.bounded_iff.mp (h.lists hs)
    exact State.bounded_iff.mpr ⟨log, hx port, seq, write, claim, copy, member⟩
  lines := h.lines

theorem setLane (l : LaneId) {x : Lane} (hx : (u.lane l).settled = true → x.settled = true) :
    Keeps s (u.setLane l x) where
  lists := by cases l <;> exact h.lists
  lines hs := by
    have old := h.lines hs
    simp only [State.linesSettled, Bool.and_eq_true] at old ⊢
    cases l with
    | A => exact ⟨hx old.1, old.2⟩
    | B => exact ⟨old.1, hx old.2⟩

theorem setPeer (p : Station) (x : Peer) : Keeps s (u.setPeer p x) := h.setMember id
theorem setEntry (b : Block) (e : DirEntry) : Keeps s (u.setEntry b e) := h.setDir _
theorem offerBy (n : IncidentUnit) (o : Offer) : Keeps s (u.offerBy n o) := h.setLog id
theorem offer (o : Offer) : Keeps s (u.offer o) := h.offerBy _ o
theorem withdraw (k : RequestKey) : Keeps s (u.withdraw k) := h.setSelect _
theorem makeDue (p : Payload) (t : Station) : Keeps s (u.makeDue p t) := (h.withdraw _).setSelect _

theorem choose (k : Nat) : Keeps s (u.choose k).2 := by
  unfold State.choose
  split
  · exact h
  · exact ⟨h.lists, h.lines⟩

theorem recordOffers : Keeps s u.recordOffers := by
  have recorded := h.setLog (x := u.recordOffers.log) (fun (old : u.log.Fits) =>
    IncidentLog.fits_records (g := { u.log with offered := [] }) old u.clock _)
  exact ⟨recorded.lists, recorded.lines⟩

theorem notice (b : Block) : Keeps s (u.notice b) := by
  unfold State.notice
  split
  · split
    · exact h
    · split
      · next room => exact h.setPort (fun _ => by simpa [LocalPort.Fits] using room)
      · exact h.setPort id
  · exact h

/-! ## Sequencing Unit -/

theorem enqueueGeneral (hf : u.freeGeneral = true) (p : Payload) : Keeps s (u.enqueue p) := by
  simp only [State.freeGeneral, State.freeEntry, Bool.and_eq_true, decide_eq_true_eq] at hf
  refine h.setSeq (fun _ => ⟨by simpa using hf.1, ?_⟩)
  rw [List.filter_append, List.length_append]
  exact (Nat.add_le_add_left (List.length_filter_le ..) _).trans hf.2

theorem enqueueOther (hf : u.freeEntry = true) {p : Payload} (hp : ∀ f : Frame, f.payload = p → takesGeneral f = false) :
    Keeps s (u.enqueue p) := by
  simp only [State.freeEntry, decide_eq_true_eq] at hf
  refine h.setSeq (fun old => ⟨by simpa using hf, ?_⟩)
  have other : ReplayEntry.general { seq := u.seq.next, frame := ⟨u.own, 0, u.seq.next, p⟩, sent := false
                                     marked := false, count := 0, timer := none } = false := hp _ rfl
  simpa [List.filter_append, List.filter_cons, other] using old.2

theorem enqueueExclude (hf : u.freeEntry = true) (p : Station) (c : Cause) : Keeps s (u.enqueue (.exclude p c)) :=
  h.enqueueOther hf (fun f hp => by simp [takesGeneral, ReplayEntry.general, hp])

theorem enqueueAdmission (hf : u.freeEntry = true) (p : Station) (m : StationMask) :
    Keeps s (u.enqueue (.admission p m)) :=
  h.enqueueOther hf (fun f hp => by simp [takesGeneral, ReplayEntry.general, hp])

theorem enqueueSettle (hf : u.freeEntry = true) (r : Round) (es : List SettleEntry) :
    Keeps s (u.enqueue (.settle r es)) :=
  h.enqueueOther hf (fun f hp => by simp [takesGeneral, ReplayEntry.general, hp])

theorem dropHead : Keeps s u.dropHead := by
  refine h.setSeq (SeqUnit.fits_of_sublist ?_)
  split
  · next e x rest hq =>
    rw [hq]
    exact List.sublist_cons_self e.frame (x.frame :: rest.map ReplayEntry.frame)
  · exact List.nil_sublist _

theorem setSeqFrames {x : SeqUnit} (hx : x.queue = u.seq.queue) : Keeps s (u.setSeq x) :=
  h.setSeq (SeqUnit.fits_of_frames (by rw [hx]))

theorem noteJudgement (p : Station) (q : SeqNo) (j : Judgement) : Keeps s (u.noteJudgement p q j) := by
  cases j with
  | accepted => exact (h.setPeer _ _).setSeqFrames u.seq.queue_oweAccepted
  | gap => exact h.setSeqFrames u.seq.queue_oweUrgent
  | duplicate => exact h.setSeqFrames u.seq.queue_owe
  | refused => exact h

/-! ## Claim Unit -/

theorem setClaimSlots {xs : List ClaimSlot} (hx : u.claim.Fits → xs.length ≤ Config.claimSlots) :
    Keeps s (u.setClaim { u.claim with slots := xs }) := h.setClaim (fun old => ⟨hx old, old.2⟩)

theorem setClaimList {xs : List (Block × Station)} (hx : u.claim.Fits → xs.length ≤ Config.claimPlaces) :
    Keeps s (u.setClaim { u.claim with list := xs }) := h.setClaim (fun old => ⟨old.1, hx old⟩)

theorem setClaimSlot (b : Block) (c : ClaimSlot) : Keeps s (u.setClaimSlot b c) :=
  h.setClaimSlots (fun old => by simpa using old.1)

theorem filterClaimList (f : Block × Station → Bool) :
    Keeps s (u.setClaim { u.claim with list := u.claim.list.filter f }) :=
  h.setClaimList (fun old => (List.length_filter_le ..).trans old.2)

theorem sendClaim (b : Block) : Keeps s (u.sendClaim b) := by
  cases hc : u.claimSlot b with
  | none => rwa [State.sendClaim_of_none hc]
  | some c =>
    rw [State.sendClaim_of_some hc]
    exact .ite (fun _ => (h.setClaimSlot b _).withdraw _) (fun _ => (h.setClaimSlot b _).makeDue _ _)

theorem openClaim (hn : u.claim.slots.length < Config.claimSlots) (b : Block) (held : Bool) :
    Keeps s (u.openClaim b held) :=
  (h.setClaimSlots (fun _ => length_append_one_le hn)).sendClaim b

theorem closeClaim (b : Block) : Keeps s (u.closeClaim b) :=
  (h.setClaimSlots (fun old => (List.length_filter_le ..).trans old.1)).withdraw _

theorem retargetClaims (bs : List Block) : Keeps s (u.retargetClaims bs) := h.foldl (fun _ b hv => hv.sendClaim b) bs

theorem grantSlot : Keeps s u.grantSlot := by
  unfold State.grantSlot
  split
  · next room =>
    split
    · exact h
    · exact h.openClaim room.2 _ true
  · exact h

theorem dropClaims (b : Block) : Keeps s (u.dropClaims b) := h.filterClaimList _
theorem dropOrphanClaims : Keeps s u.dropOrphanClaims := h.filterClaimList _
theorem endYield (b : Block) : Keeps s (u.endYield b) := .ite (fun _ => h.setEntry b _) (fun _ => h)

theorem dropClaimant (p : Station) : Keeps s (u.dropClaimant p) :=
  (h.filterClaimList _).foldl (fun _ b hv => hv.endYield b) _

/-! ## Copy Unit -/

theorem setFetches {xs : List FetchSlot} (hx : u.copy.Fits → xs.length ≤ Config.fetchSlots) :
    Keeps s (u.setCopyUnit { u.copy with slots := xs }) := h.setCopyUnit (fun old => ⟨hx old, old.answers, old.holds⟩)

theorem setHolds {xs : List (Block × Nat)} (hx : u.copy.Fits → (xs.map Prod.fst).Nodup) :
    Keeps s (u.setCopyUnit { u.copy with holds := xs }) := h.setCopyUnit (fun old => ⟨old.slots, old.answers, hx old⟩)

theorem setAnswers {xs : List Answer} (hx : u.copy.Fits → xs.length ≤ Config.answerPlaces) :
    Keeps s (u.setCopyUnit { u.copy with answers := xs }) := h.setCopyUnit (fun old => ⟨old.slots, hx old, old.holds⟩)

theorem setMissing (m : Word) (n : Option Nat) : Keeps s (u.setCopyUnit { u.copy with missing := m, snapq := n }) :=
  h.setCopyUnit (fun old => ⟨old.slots, old.answers, old.holds⟩)

theorem startAttempt (b : Block) (n : Nat) (p : Station) : Keeps s (u.startAttempt b n p) := by
  have started := h.setFetches
    (xs := u.copy.slots.map (fun c => if c.block = b then ⟨b, p, n, 0⟩ else c)) (fun old => by simpa using old.slots)
  exact .ite (fun _ => started.withdraw _) (fun _ => started.makeDue _ _)

theorem nextAttempt (b : Block) (n : Nat) : Keeps s (u.nextAttempt b n) := h.startAttempt b n _

theorem openFetch (hn : u.copy.slots.length < Config.fetchSlots) (b : Block) : Keeps s (u.openFetch b) :=
  ((h.setEntry b _).setFetches (fun _ => length_append_one_le hn)).nextAttempt b 1

theorem closeFetch (b : Block) : Keeps s (u.closeFetch b) :=
  (h.setFetches (fun old => (List.length_filter_le ..).trans old.slots)).withdraw _

theorem endHold (b : Block) : Keeps s (u.endHold b) :=
  h.setHolds (fun old => old.holds.sublist (List.filter_sublist.map _))

theorem makeStale (b : Block) : Keeps s (u.makeStale b) :=
  .ite (fun _ => (h.setEntry b _).closeFetch b) (fun _ => h.setEntry b _)

theorem raiseSeen (b : Block) (v : Version) : Keeps s (u.raiseSeen b v) := by
  unfold State.raiseSeen
  split
  · exact h.setEntry b _
  · exact .ite (fun _ => h.setEntry b _) (fun _ => h)

theorem failFetch (b : Block) (p : Station) : Keeps s (u.failFetch b p) := by
  have ended : ∀ x ∈ ((u.makeStale b).endHold b).copy.holds, x.1 ≠ b := by
    intro x hx
    simpa using (List.mem_filter.mp hx).2
  refine (((h.makeStale b).endHold b).setHolds (fun old => ?_)).offer _
  rw [List.map_append, List.nodup_append]
  refine ⟨old.holds, by simp, fun a ha c hc => ?_⟩
  obtain ⟨x, hx, rfl⟩ := List.mem_map.mp ha
  rw [show c = b by simpa using hc]
  exact ended x hx

theorem endAttempt (c : FetchSlot) : Keeps s (u.endAttempt c) :=
  .ite (fun _ => h.nextAttempt _ _) (fun _ => h.failFetch _ _)

theorem retargetFetches (g : Option Station) : Keeps s (u.retargetFetches g) :=
  h.foldl (fun _ c hv => .ite (fun _ => hv.startAttempt c.block _ _) (fun _ => hv)) _

theorem sendSnapq : Keeps s u.sendSnapq :=
  (h.setMissing u.copy.missing _).makeDue _ _

theorem endSnapq : Keeps s u.endSnapq := (h.setMissing _ _).withdraw _

theorem queueAnswer (a : Answer) : Keeps s (u.queueAnswer a) := by
  refine .ite (fun _ => h) (fun hn => h.setAnswers (fun _ => ?_))
  simpa using (not_or.mp hn).2

/-! ## Settle Unit -/

theorem clearJob : Keeps s u.clearJob := (h.setSettle _).withdraw _

theorem offerFlaggers (rs : List SettleRecord) : Keeps s (u.offerFlaggers rs) := by
  refine h.foldl (fun v r hv => ?_) rs
  split
  · exact hv.offerBy _ _
  · exact hv

theorem decideJob : Keeps s u.decideJob :=
  .ite (fun _ => h.clearJob) (fun _ => ((h.offerFlaggers _).setSettle _).withdraw _)

theorem sendQuery : Keeps s u.sendQuery := (h.setSettle _).makeDue _ _

theorem startJob : Keeps s u.startJob :=
  .ite (fun _ => (h.setSettle _).decideJob) (fun _ => (h.setSettle _).sendQuery)

theorem restartJob : Keeps s u.restartJob :=
  .ite (fun _ => .ite (fun _ => h.clearJob) (fun _ => h.startJob)) (fun _ => h)

theorem checkJob : Keeps s u.checkJob := .ite (fun _ => h.clearJob) (fun _ => h)

theorem foldVersions (p : Station) (last : Bool) (es : List VersionsEntry) : Keeps s (u.foldVersions p last es) :=
  h.setSettle _

theorem replyToQuery (q : Station) (r : Round) (bm : List Byte) : Keeps s (u.replyToQuery q r bm) := by
  unfold State.replyToQuery
  refine .ite (fun _ => .ite (fun _ => h) (fun _ => ?_)) (fun _ => .ite (fun room => ?_) (fun _ => h))
  · exact (h.setSettle _).setAnswers (fun old => by simpa using old.answers)
  · exact (h.setSettle _).setAnswers (fun _ => by simpa using room)

/-! ## Write Unit -/

theorem waitNoMore (x : Option WaitingWrite) : Keeps s (u.setWrite { u.write with waiting := x }) :=
  h.setWrite (fun old => old.withBatch old.batch x)

theorem closeBatch (hf : u.freeGeneral = true) : Keeps s u.closeBatch := by
  unfold State.closeBatch
  split
  · exact h
  · exact ((h.setEntry _ _).setWrite (fun old => old.withBatch (by simp) _)).enqueueGeneral hf _

theorem makeBatchDue : Keeps s u.makeBatchDue :=
  h.setWrite (fun old => old.mapBatch (f := fun b => { b with due := true }) (fun _ _ ht => ht) _)

theorem closeOrDue : Keeps s u.closeOrDue :=
  .ite (fun _ => .ite (fun hf => h.closeBatch hf) (fun _ => h.makeBatchDue)) (fun _ => h)

theorem storeWord (a : WindowAddr) (x : Word) : Keeps s (u.storeWord a x) := h.setWindow _
theorem offerRefused (a : WindowAddr) : Keeps s (u.offerRefused a) := h.offer _

theorem joinBatch {a : WindowAddr} (hroom : ∀ t, u.write.batch = some t →
    t.entries.any (fun e => e.offset = offsetOf a) = true ∨ t.entries.length < Config.batchEntries) (x : Word) :
    Keeps s (u.joinBatch a x) :=
  (h.setWrite (fun old => old.mapBatch (fun t hb ht => ht.take (hroom t hb) x) _)).storeWord a x

theorem holdWrite {a : WindowAddr} (hn : u.write.held.length < Config.heldPlaces)
    (hb : u.hasHeld (blockOf a) = true ∨ u.heldBlocks.length < Config.heldBlocks) (x : Word) :
    Keeps s (u.holdWrite a x) := by
  have held := h.setWrite (fun old => old.appendHeld { addr := a, value := x } hn hb u.write.waiting)
  unfold State.holdWrite
  dsimp only
  split
  · exact held
  · exact held.setClaimSlot _ _

theorem closeIfFull : Keeps s u.closeIfFull := .ite (fun _ => h.closeOrDue) (fun _ => h)

theorem discardHeld (b : Block) : Keeps s (u.discardHeld b) := by
  have gone := h.setWrite (x := { u.write with held := u.write.held.filter (fun x => blockOf x.addr ≠ b) })
    (fun old => old.filterHeld _ old.batch _)
  exact .ite (fun _ => gone) (fun _ => gone.offer _)

theorem commitHeld {b : Block} (hb : u.hasHeld b = true) : Keeps s (u.commitHeld b) := by
  refine ((h.setWindow _).setWrite (fun old => old.filterHeld _ (fun t ht => ?_) _)).closeOrDue
  obtain ⟨x, hx, hxb⟩ := List.any_eq_true.mp hb
  have entered : x ∈ u.heldFor b := List.mem_filter.mpr ⟨hx, hxb⟩
  obtain rfl := Option.some.inj ht
  rw [OpenBatch.Fits, List.length_map]
  exact ⟨List.length_pos_of_mem entered, (List.length_filter_le ..).trans old.held⟩

theorem offerDiscarded (bs : List Block) : Keeps s (u.offerDiscarded bs) := .ite (fun _ => h) (fun _ => h.offer _)

theorem discardBatch (b : Block) : Keeps s (u.discardBatch b) := by
  unfold State.discardBatch
  split
  · exact h
  · exact .ite (fun _ => ((h.setWrite (fun old => old.withBatch (by simp) _)).setEntry b _).offer _) (fun _ => h)

end Keeps

end Sys2Proof.Machine
end

section
/-! The same of local writes, membership, the Directory, the Transmit Selector, the lanes, and the acts of an event. -/

namespace Sys2Proof.Machine

/-! ## What a write's fate says of the room for it (R27, R28, R33) -/

section
variable {s : State} {a : WindowAddr}

/-- A write routed to the open-batch path has a fate of that path, any other one of the held-write path. -/
theorem State.writeFate_cases (s : State) (a : WindowAddr) :
    s.writeFate a = .refused ∨ s.writeFate a = s.batchFate a ∨ s.writeFate a = s.heldFate a := by
  unfold State.writeFate
  split
  · exact Or.inl rfl
  · split
    · exact Or.inr (Or.inl rfl)
    · exact Or.inr (Or.inr rfl)

theorem State.heldFate_cases (s : State) (a : WindowAddr) : s.heldFate a = .replacesHeld ∨ s.heldFate a = .waitsForRoom
    ∨ (s.heldFate a = .appendsHeld ∧ s.write.held.length < Config.heldPlaces
      ∧ (s.hasHeld (blockOf a) = true ∨ s.heldBlocks.length < Config.heldBlocks)) := by
  unfold State.heldFate
  split
  · exact Or.inl rfl
  · split
    · next room => exact Or.inr (Or.inr ⟨rfl, room⟩)
    · exact Or.inr (Or.inl rfl)

theorem State.batchFate_cases (s : State) (a : WindowAddr) : s.batchFate a = .opens ∨ s.batchFate a = .waitsForBatch
    ∨ (s.batchFate a = .closesFirst ∧ s.freeGeneral = true)
    ∨ ((s.batchFate a = .replaces ∨ s.batchFate a = .appends) ∧ ∀ t, s.write.batch = some t →
      t.entries.any (fun e => e.offset = offsetOf a) = true ∨ t.entries.length < Config.batchEntries) := by
  unfold State.batchFate
  split
  · exact Or.inl rfl
  · next t ht =>
    rw [ht]
    have this : ∀ {q : OpenBatch → Prop}, q t → ∀ x, some t = some x → q x := by
      rintro q hq x hx
      rwa [← Option.some.inj hx]
    split
    · split
      · next entered => exact Or.inr (Or.inr (Or.inr ⟨Or.inl rfl, this (Or.inl entered)⟩))
      · split
        · next room => exact Or.inr (Or.inr (Or.inr ⟨Or.inr rfl, this (Or.inr room)⟩))
        · exact Or.inr (Or.inl rfl)
    · split
      · next free => exact Or.inr (Or.inr (Or.inl ⟨rfl, free⟩))
      · exact Or.inr (Or.inl rfl)

end

/-- A lane whose controller stops keeps its receiver. -/
theorem State.settled_quit (s : State) (l : LaneId) : (s.quit l).settled = (s.lane l).settled := by
  simp only [State.quit]
  split <;> rfl

namespace Keeps

variable {s u : State} (h : Keeps s u)
include h

/-! ## Local writes -/

theorem judged (a : WindowAddr) (x : Word) : Keeps s (u.applyFate a x (u.writeFate a)) := by
  have quiet := h.waitNoMore none
  obtain hf | hf | hf := u.writeFate_cases a
  · rw [hf]
    exact (h.offerRefused a).waitNoMore none
  · rw [hf]
    obtain hb | hb | ⟨hb, free⟩ | ⟨hb | hb, room⟩ := u.batchFate_cases a <;> rw [hb]
    · refine (h.setWrite (fun old => old.withBatch (fun t ht => ?_) none)).storeWord a x
      rw [← Option.some.inj ht]
      exact ⟨Nat.le_refl 1, Nat.le_add_left 1 15⟩
    · exact h.makeBatchDue
    · exact h.closeBatch free
    · exact quiet.joinBatch room x
    · exact (quiet.joinBatch room x).closeIfFull
  · rw [hf]
    obtain hb | hb | ⟨hb, room, blocks⟩ := u.heldFate_cases a <;> rw [hb]
    · exact h.setWrite (fun old => old.replaceHeld a x none)
    · exact h
    · exact quiet.holdWrite room blocks x

theorem judgeWaiting : Keeps s u.judgeWaiting := by
  unfold State.judgeWaiting
  split
  · exact h
  · exact h.judged _ _

/-! ## Membership Unit -/

theorem quit (l : LaneId) : Keeps s (u.setLane l (u.quit l)) := h.setLane l (fun old => (u.settled_quit l).trans old)

theorem silence : Keeps s u.silence := ((h.quit .A).setLane .B (fun old => (State.settled_quit _ .B).trans old)).setSelect _

theorem refuseWaiting : Keeps s u.refuseWaiting := by
  unfold State.refuseWaiting
  split
  · exact h
  · exact (h.offerRefused _).waitNoMore none

/-! Each unit's reset (R84). -/

theorem resetWrite : Keeps s (u.setWrite WriteUnit.reset) :=
  h.setWrite (fun _ => ⟨by simp [WriteUnit.reset], Nat.zero_le _, Nat.zero_le _⟩)
theorem resetClaim : Keeps s (u.setClaim ClaimUnit.reset) := h.setClaim (fun _ => ⟨Nat.zero_le _, Nat.zero_le _⟩)
theorem resetSeq (n : SeqNo) : Keeps s (u.setSeq { SeqUnit.reset with next := n }) :=
  h.setSeq (fun _ => ⟨Nat.zero_le _, Nat.zero_le _⟩)
theorem resetCopy : Keeps s (u.setCopyUnit CopyUnit.reset) :=
  h.setCopyUnit (fun _ => ⟨Nat.zero_le _, Nat.zero_le _, List.nodup_nil⟩)

theorem teardown (new : StationState) : Keeps s (u.teardown new) :=
  ((((((((((h.setMember (by exact id)).refuseWaiting.offerDiscarded _).resetWrite.resetClaim.resetSeq _).setMember
    (by exact fun _ => List.nodup_nil)).resetCopy).setSettle _).setAudit _).setDir _).setSelect _)).silence

theorem enterListening : Keeps s u.enterListening := (h.setMember (by exact id)).setSeqFrames rfl
theorem sendJoin : Keeps s u.sendJoin := (h.setMember (by exact id)).makeDue _ _
theorem enterJoining : Keeps s u.enterJoining := (h.setMember (by exact id)).sendJoin

theorem found : Keeps s u.found :=
  ((((((h.setMember (by exact id)).setDir _).setWindow _).setAudit _).setSelect _).withdraw _).offer _

theorem depart (d : Word) : Keeps s (u.depart d) := (h.offer _).teardown _

theorem isolate : Keeps s u.isolate :=
  .ite (fun _ => h.depart 1) (fun _ => .ite (fun _ => (h.teardown _).enterListening) (fun _ => h.teardown _))

theorem clash (l : LaneId) (k : Byte) : Keeps s (u.clash l k) := (h.offer _).teardown _

theorem takeRegistrar : Keeps s u.takeRegistrar := by
  refine .ite (fun _ => h) (fun _ => ?_)
  have retargeted := fun bs => (h.setMember (x := { u.member with registrar := u.computeRegistrar }) id).retargetClaims bs
  have dropped := fun (c : Bool) bs =>
    Keeps.ite (c := c = true) (fun _ => (retargeted bs).dropOrphanClaims) (fun _ => retargeted bs)
  exact .ite (fun _ => (dropped _ _).sendSnapq) (fun _ => dropped _ _)

theorem peersChanged (g : Option Station) : Keeps s (u.peersChanged g) := by
  have changed := h.takeRegistrar.checkJob.retargetFetches g
  exact .ite (fun _ => (changed.offer _).isolate) (fun _ => changed)

theorem dropAnswers (p : Station) : Keeps s (u.dropAnswers p) :=
  (h.setAnswers (fun old => (List.length_filter_le ..).trans old.answers)).setSettle _

theorem retargetFrom (p : Station) : Keeps s (u.retargetFrom p) := h.retargetClaims _

theorem excludeEntry (c : Cause) (p : Station) : Keeps s (u.excludeEntry c p) := by
  have excluded := ((h.setPeer p { Peer.empty with state := .excluded }).dropClaimant p).dropAnswers p
  exact .ite (fun _ => excluded) (fun _ => excluded.offer _)

theorem excludeAll (ps : List Station) (c : Cause) (r : Bool) : Keeps s (u.excludeAll ps c r) := by
  refine .ite (fun _ => h) (fun _ => ?_)
  have changed := fun qs => (h.foldl (fun _ p hv => hv.excludeEntry c p) qs).peersChanged none
  have retargeted := fun qs => (changed qs).foldl (fun _ p hv => hv.retargetFrom p) qs
  exact .ite (fun _ => .ite (fun _ => (retargeted _).restartJob) (fun _ => retargeted _)) (fun _ => changed _)

theorem exclude (p : Station) (c : Cause) (r : Bool) : Keeps s (u.exclude p c r) := h.excludeAll [p] c r

theorem askExclude (p : Station) (c : Cause) : Keeps s (u.askExclude p c) := by
  refine .ite (fun hf => h.enqueueExclude hf p c) (fun _ => .ite (fun _ => h) (fun hn => h.setMember (fun old => ?_)))
  have unlisted : ∀ x ∈ u.member.waitingExcludes, x.1 ≠ p :=
    fun x hx hp => hn (List.any_eq_true.mpr ⟨x, hx, by simpa using hp⟩)
  simp only [MemberUnit.Fits, List.map_append, List.nodup_append]
  refine ⟨old, by simp, fun a ha b hb => ?_⟩
  obtain ⟨x, hx, rfl⟩ := List.mem_map.mp ha
  rw [show b = p by simpa using hb]
  exact unlisted x hx

theorem decideExcludes (ps : List Station) (c : Cause) (r : Bool) : Keeps s (u.decideExcludes ps c r) :=
  .ite (fun _ => .ite (fun _ => (h.excludeAll _ c r).foldl (fun _ p hv => hv.askExclude p c) _)
    (fun _ => h.excludeAll _ c r)) (fun _ => h)

theorem decideExclude (p : Station) (c : Cause) (r : Bool) : Keeps s (u.decideExclude p c r) := h.decideExcludes [p] c r

theorem enterLive : Keeps s u.enterLive :=
  ((((h.setMember (by exact id)).endSnapq).setAudit _).offer _).peersChanged none

theorem testLive : Keeps s u.testLive := .ite (fun _ => h.enterLive) (fun _ => h)

theorem closeClaims : Keeps s u.closeClaims := h.foldl (fun _ b hv => hv.closeClaim b) _

theorem emptyClaimList : Keeps s u.emptyClaimList :=
  (h.setClaimList (fun _ => Nat.zero_le _)).foldl (fun _ b hv => hv.endYield b) _

theorem emptyHeld : Keeps s (u.setWrite { u.write with held := [] }) :=
  h.setWrite (fun old => ⟨old.batch, Nat.zero_le _, Nat.zero_le _⟩)

theorem enterLeaving : Keeps s u.enterLeaving := by
  unfold State.enterLeaving
  extract_lets _ left closed discarded _ emptied
  have hl : Keeps s left := h.setMember id
  have hc : Keeps s closed := hl.refuseWaiting.closeOrDue
  have hd : Keeps s discarded := hc.offerDiscarded _
  have he : Keeps s emptied := hd.emptyHeld
  exact he.closeClaims.emptyClaimList.peersChanged none

/-! ## Directory -/

theorem mismatch (b : Block) (p : Station) (d : Word) : Keeps s (u.mismatch b p d) := h.offer _

theorem loseBlock (b : Block) (p : Station) (e : Epoch) : Keeps s (u.loseBlock b p e) :=
  (((h.setEntry b _).discardBatch b).dropClaims b).mismatch b p _

theorem takeOwner (b : Block) (p n : Station) (e : Epoch) (d : Option Station) : Keeps s (u.takeOwner b p n e d) := by
  have lost := Keeps.ite (c := u.owned b = true) (fun _ => h.loseBlock b p e) (fun _ => h)
  exact .ite (fun _ => (lost.setEntry b _).dropClaims b) (fun _ => lost.setEntry b _)

theorem updateContent (b : Block) (v : Version) (es : List WordWrite) (passed : Bool) :
    Keeps s (u.updateContent b v es passed) := by
  unfold State.updateContent
  split
  · exact .ite (fun _ => ((h.setWindow _).setEntry b _).notice b) (fun _ => .ite (fun _ => h.setEntry b _) (fun _ => h))
  · exact h.raiseSeen b v
  · exact h.raiseSeen b v
  · exact .ite (fun _ => h.setEntry b _) (fun _ => h)

theorem updateArrive (p : Station) (b : Block) (e : Epoch) (v : Version) (es : List WordWrite) :
    Keeps s (u.updateArrive p b e v es) := by
  have owned :=
    Keeps.ite (c := u.passes b e = true) (fun _ => ((h.takeOwner b p p e none).sendClaim b).grantSlot) (fun _ => h)
  exact .ite (fun _ => owned.updateContent b v es _) (fun _ => .ite (fun _ => owned.mismatch b p v) (fun _ => owned))

theorem copyNotGained (b : Block) (p : Station) (v : Version) : Keeps s (u.copyNotGained b p v) := by
  unfold State.copyNotGained
  split
  · exact h.makeStale b
  · exact h
  · exact .ite (fun _ => h.makeStale b) (fun _ => h)
  · split
    · exact h.makeStale b
    · exact h
    · exact h.mismatch b p v

theorem copyGained (b : Block) (p : Station) (v : Version) : Keeps s (u.copyGained b p v) := by
  unfold State.copyGained
  split
  · exact .ite (fun _ => h) (fun _ => .ite (fun _ => h.mismatch b p v) (fun _ => (h.makeStale b).discardBatch b))
  all_goals exact h.makeStale b

theorem dropDonorIfCurrent (b : Block) : Keeps s (u.dropDonorIfCurrent b) := .ite (fun _ => h.setEntry b _) (fun _ => h)

theorem ownershipEntry (p : Station) (b : Block) (n : Station) (e : Epoch) (v : Version) (d : Option Station) :
    Keeps s (u.ownershipEntry p b n e v d) :=
  .ite (fun _ => h) (fun _ => .ite
    (fun _ => .ite (fun _ => ((((h.setEntry b _).closeClaim b).copyGained b p v).dropDonorIfCurrent b).grantSlot)
      (fun _ => h.mismatch b p _))
    (fun _ => ((((h.takeOwner b p n e d).copyNotGained b p v).dropDonorIfCurrent b).sendClaim b).grantSlot))

theorem handoverEntry (p n : Station) (e : HandoverEntry) : Keeps s (u.handoverEntry p n e) := h.ownershipEntry ..
theorem settleEntry (p : Station) (e : SettleEntry) : Keeps s (u.settleEntry p e) := h.ownershipEntry ..

theorem snapEntry (b : Block) (t : SnapEntry) : Keeps s (u.snapEntry b t) :=
  .ite (fun _ => (h.setEntry b _).makeStale b) (fun _ => h)

theorem snapEntries (p : Part) (es : List SnapEntry) : Keeps s (u.snapEntries p es) :=
  h.foldl (fun _ t hv => hv.snapEntry _ t.1) _

theorem copyArrive (b : Block) (v : Version) (ws : List Word) : Keeps s (u.copyArrive b v ws) := by
  refine .ite (fun _ => h) (fun _ => ?_)
  have stored := fun (changed : Bool) x y => Keeps.ite (c := changed = true)
    (fun _ => ((h.setWindow x).setEntry b y).notice b) (fun _ => (h.setWindow x).setEntry b y)
  exact .ite (fun _ => (stored _ _ _).nextAttempt b 1) (fun _ => (((stored _ _ _).setEntry b _).closeFetch b).testLive)

theorem digestEntry (p : Station) (d : DigestEntry) : Keeps s (u.digestEntry p d) := by
  refine .ite (fun _ => h) (fun _ => ?_)
  split
  · exact h
  · exact h.raiseSeen _ _
  · exact h.raiseSeen _ _
  · split
    · exact h.setEntry _ _
    · exact .ite (fun _ => h) (fun _ => (h.setEntry _ _).offerBy _ _)
    · exact (h.setEntry _ _).offerBy _ _

end Keeps

end Sys2Proof.Machine
end

section
/-! The same of the Transmit Selector, the lanes and the acts of an event (R50 to R52, R66, R69, R142 to R152). -/

namespace Sys2Proof.Machine

namespace Keeps

variable {s u : State} (h : Keeps s u)
include h

/-! ## Transmit Selector -/

theorem takeStatus (m : MemberState) : Keeps s (u.takeStatus m).2 :=
  ((h.setMember (by exact id)).setSeqFrames (by rfl)).setSelect _

theorem takeReplay (e : ReplayEntry) : Keeps s (u.takeReplay e).2 :=
  h.setSeq (SeqUnit.fits_of_frames (frames_takeFromQueue _ _))

/-- An answer taken leaves its place, which the next part of a VERSIONS answer may take again (R117, R122). -/
theorem takeAnswer {a : Answer} (ha : a ∈ u.copy.answers) : Keeps s (u.takeAnswer a).2 := by
  have shorter : (u.copy.answers.erase a).length + 1 = u.copy.answers.length := List.length_erase_add_one ha
  have taken : Keeps s (u.setCopyUnit { u.copy with answers := u.copy.answers.erase a }) :=
    h.setAnswers (fun old => List.length_erase_le.trans old.answers)
  cases a with
  | copy q b => exact taken
  | snap q p => exact taken
  | versions q r =>
    simp only [State.takeAnswer, State.buildAnswer]
    split
    · exact taken
    · next x _ =>
      refine .ite (fun _ => taken.setSettle _) (fun _ => ?_)
      have again : Keeps s (u.setCopyUnit
          { u.copy with answers := u.copy.answers.erase (.versions q r) ++ [.versions x.requester x.round] }) :=
        h.setAnswers (fun old => by simpa [shorter] using old.answers)
      exact again.setSettle { u.settle with reply := some { x with next := x.after, finished := x.after.isNone } }

theorem takeQueued {p : Frame × State} (hp : u.takeQueued = some p) : Keeps s p.2 := by
  unfold State.takeQueued at hp
  repeat' split at hp
  · rw [← Option.some.inj hp]
    exact h.takeReplay _
  · obtain ⟨a, ha, rfl⟩ := Option.map_eq_some_iff.mp hp
    exact h.takeAnswer (List.mem_of_find?_eq_some ha)
  all_goals cases hp

theorem takeOther {p : Frame × State} (hp : u.takeOther = some p) : Keeps s p.2 := by
  unfold State.takeOther at hp
  repeat' split at hp
  · rw [← Option.some.inj hp]
    exact h.setSelect _
  · rw [← Option.some.inj hp]
    exact h.takeStatus _
  · cases hp
  · rw [← Option.some.inj hp]
    exact h.setAudit _
  · cases hp

theorem nextTake {p : Frame × State} (hp : u.nextTake = some p) : Keeps s p.2 := by
  unfold State.nextTake at hp
  split at hp
  · rw [← Option.some.inj hp]
    exact h.takeStatus _
  · cases hq : u.takeQueued with
    | some q => rw [hq] at hp; exact h.takeQueued (hq.trans hp)
    | none => rw [hq] at hp; exact h.takeOther hp

theorem give (f : Frame) : Keeps s (u.give f) := by
  unfold State.give
  extract_lets _ current givenA
  have hc : Keeps s current := h.setSelect _
  have ha : Keeps s givenA := .ite (fun _ => hc.setLane .A (by exact id)) (fun _ => hc)
  exact .ite (fun _ => ha.setLane .B (by exact id)) (fun _ => ha)

theorem release : Keeps s u.release := .ite (fun _ => h.setSelect _) (fun _ => h)

theorem pump : Keeps s u.pump := by
  refine .ite (fun _ => ?_) (fun _ => h.release)
  split
  · exact h.release
  · next hp => exact (h.release.nextTake hp).give _

/-! ## Lanes -/

theorem markDone (l : LaneId) : Keeps s (u.markDone l) := by cases l <;> exact h.setSelect _

theorem lostLanes : Keeps s u.lostLanes :=
  .ite (fun _ => h.isolate) (fun _ => .ite (fun _ => h.setMember id) (fun _ => h))

theorem gainedLane : Keeps s u.gainedLane := by
  unfold State.gainedLane
  split
  · exact h.enterListening
  · exact h.setMember id
  · exact h.sendJoin
  all_goals exact h

theorem laneDown (l : LaneId) (d : Word) : Keeps s (u.laneDown l d) := by
  have fallen := ((h.setLane l (x := (u.lane l).fall) (fun _ => rfl)).markDone l).offer
    { cls := .laneDown, lane := some l, detail := d }
  exact .ite (fun _ => fallen.lostLanes) (fun _ => fallen)

theorem laneReturn (l : LaneId) : Keeps s (u.laneReturn l) := by
  have returned := (h.setLane l (x := { u.lane l with state := .up, good := 0 }) id).offer
    { cls := .laneUp, lane := some l }
  exact .ite (fun _ => returned.gainedLane) (fun _ => returned)

theorem weigh (l : LaneId) (up down : Nat) : Keeps s (u.weigh l up down) := by
  have weighed := h.setLane l (x := { u.lane l with score := addScore (u.lane l).score up down }) id
  exact .ite (fun _ => weighed.laneDown l 1) (fun _ => weighed)

theorem bring (l : LaneId) (cells : List LineCell) : Keeps s (u.bring l cells) := h.setLane l id
theorem frameEnds (l : LaneId) : Keeps s (u.frameEnds l) := h.setLane l id
theorem badFrame (l : LaneId) (f : FrameBuffer) : Keeps s (u.badFrame l f) := h.weigh l _ _

theorem probationFrame (l : LaneId) (f : FrameBuffer) : Keeps s (u.probationFrame l f) := by
  unfold State.probationFrame
  extract_lets _ counted returned
  have hc : Keeps s counted := h.setLane l id
  have hr : Keeps s returned := .ite (fun _ => hc.laneReturn l) (fun _ => hc)
  exact hr.weigh l _ _

theorem laneDone (l : LaneId) : Keeps s (u.laneDone l) := (h.quit l).markDone l

/-! ## Acts -/

theorem passOn (hf : u.freeGeneral = true) (c : Station) (bs : List Block) : Keeps s (u.passOn c bs) :=
  (h.enqueueGeneral hf _).foldl (fun _ x hv => (hv.setEntry x.block _).dropClaims x.block) _

theorem handOver (hf : u.freeGeneral = true) (c : Station) (bs : List Block) : Keeps s (u.handOver c bs) :=
  (h.passOn hf c bs).foldl (fun _ _ hv => hv.grantSlot) bs

theorem serve (hf : u.freeGeneral = true) : Keeps s u.serve := by
  unfold State.serve
  split
  · exact h
  · exact h.handOver hf _ _

theorem retireHead : Keeps s u.retireHead := .ite (fun _ => h.dropHead.depart 0) (fun _ => h.dropHead)

theorem releaseBlock (b : Block) : Keeps s (u.releaseBlock b) := .ite (fun _ => h.closeOrDue) (fun _ => h.setEntry b _)

theorem announceNext (hf : u.freeEntry = true) : Keeps s u.announceNext := by
  unfold State.announceNext
  extract_lets es queued _ dropped applied
  have hq : Keeps s queued := h.enqueueSettle hf _ _
  have ha : Keeps s applied := (hq.setSettle _).foldl (fun v t hv => hv.settleEntry v.own t) es
  exact .ite (fun _ => ha.clearJob.offer _) (fun _ => ha)

theorem enqueueWaiting (hf : u.freeEntry = true) (p : Station) : Keeps s (u.enqueueWaiting p) := by
  unfold State.enqueueWaiting
  split
  · exact h
  · have unlisted : Keeps s (u.setMember
        { u.member with waitingExcludes := u.member.waitingExcludes.filter (fun x => x.1 ≠ p) }) :=
      h.setMember (fun old => old.sublist (List.filter_sublist.map _))
    exact unlisted.enqueueExclude hf _ _

end Keeps

/-- What the acts that take a place find when they become possible: the place (R34, R41, R69, R102, R108). -/
def State.grants (s : State) : Act → Prop
  | .commit b => s.hasHeld b = true
  | .closeDue | .serve | .heir => s.freeGeneral = true
  | .askLeave | .exclude _ | .settle => s.freeEntry = true
  | .openFetch _ => s.copy.slots.length < Config.fetchSlots
  | .grantSlot _ => s.claim.slots.length < Config.claimSlots
  | .retire | .departAlone | .release _ | .startJob | .judge => True

theorem Keeps.perform {s u : State} (h : Keeps s u) {a : Act} (ha : u.grants a) : Keeps s (u.perform a) := by
  cases a with
  | retire => exact h.retireHead
  | departAlone => exact h.depart 0
  | askLeave => exact h.enqueueExclude ha _ _
  | commit b => exact h.commitHeld ha
  | release b => exact h.releaseBlock b
  | closeDue => exact h.closeBatch ha
  | serve => exact h.serve ha
  | heir => exact h.handOver ha _ _
  | exclude p => exact h.enqueueWaiting ha p
  | settle => exact h.announceNext ha
  | startJob => exact h.startJob
  | openFetch b => exact h.openFetch ha b
  | grantSlot b => exact h.openClaim ha b true
  | judge => exact h.judgeWaiting

/-! ## The acts that are possible have their place -/

theorem mem_actIf {c : Bool} {a b : Act} : a ∈ actIf c b ↔ c = true ∧ a = b := by
  cases c <;> simp [actIf]

theorem State.freeEntry_of_asksLeave {s : State} (h : s.asksLeave = true) : s.freeEntry = true := by
  simp only [State.asksLeave, Bool.and_eq_true, List.isEmpty_iff] at h
  obtain ⟨⟨⟨-, empty⟩, -⟩, -⟩ := h
  simp [State.freeEntry, empty, Config.replayPlaces]

theorem State.hasHeld_of_mem_commitReady {s : State} {b : Block} (h : b ∈ s.commitReady) : s.hasHeld b = true := by
  unfold State.commitReady at h
  split at h
  · cases h
  · exact State.mem_heldBlocks.mp (List.mem_filter.mp h).1

theorem State.room_of_nextFetch {s : State} {b : Block} (h : s.nextFetch = some b) :
    s.copy.slots.length < Config.fetchSlots := by
  unfold State.nextFetch at h
  split at h
  · next room =>
    simp only [Bool.and_eq_true, decide_eq_true_eq] at room
    exact room.1.2
  · cases h

theorem State.grants_of_mem_placeActs {s : State} {a : Act} (h : a ∈ s.placeActs) : s.grants a := by
  unfold State.placeActs at h
  split at h
  · next free =>
    rw [List.mem_append, List.mem_append] at h
    obtain (h | h) | h := h
    · split at h
      · next general =>
        simp only [List.mem_append, mem_actIf] at h
        obtain (⟨-, rfl⟩ | ⟨-, rfl⟩) | ⟨-, rfl⟩ := h <;> exact general
      · cases h
    · obtain ⟨w, -, rfl⟩ := List.mem_map.mp h
      exact free
    · obtain ⟨-, rfl⟩ := mem_actIf.mp h
      exact free
  · cases h

theorem State.grants_of_mem_grantActs {s : State} {a : Act} (h : a ∈ s.grantActs) : s.grants a := by
  unfold State.grantActs at h
  split at h
  · next room =>
    split at h
    · cases h
    · rw [List.mem_singleton.mp h]
      exact room.2
  · cases h

/-- An act that is possible has the place it takes. -/
theorem State.grants_of_mem_nextActs {s : State} {a : Act} (h : a ∈ s.nextActs) : s.grants a := by
  cases hg : s.actGroups.find? (fun g => !g.isEmpty) with
  | none => simp [State.nextActs, hg] at h
  | some g =>
    have ha : a ∈ g := by simpa [State.nextActs, hg] using h
    have group : g ∈ s.actGroups := List.mem_of_find?_eq_some hg
    simp only [State.actGroups, List.mem_cons, List.not_mem_nil, or_false] at group
    obtain rfl | rfl | rfl | rfl | rfl | rfl | rfl | rfl | rfl := group
    · obtain ⟨-, rfl⟩ := mem_actIf.mp ha
      trivial
    · obtain ⟨b, hb, rfl⟩ := List.mem_map.mp ha
      exact State.hasHeld_of_mem_commitReady hb
    · obtain ⟨b, -, rfl⟩ := List.mem_map.mp ha
      trivial
    · exact State.grants_of_mem_placeActs ha
    · obtain ha | ha := List.mem_append.mp ha
      · obtain ⟨-, rfl⟩ := mem_actIf.mp ha
        trivial
      · obtain ⟨asks, rfl⟩ := mem_actIf.mp ha
        exact State.freeEntry_of_asksLeave asks
    · obtain ⟨-, rfl⟩ := mem_actIf.mp ha
      trivial
    · obtain ⟨b, hb, rfl⟩ := List.mem_map.mp ha
      exact State.room_of_nextFetch (Option.mem_toList.mp hb)
    · exact State.grants_of_mem_grantActs ha
    · obtain ⟨-, rfl⟩ := mem_actIf.mp ha
      trivial

/-- A free choice bears on no list. -/
theorem State.grants_choose {s : State} {a : Act} (k : Nat) (h : s.grants a) : (s.choose k).2.grants a := by
  unfold State.choose
  split
  · exact h
  · cases a <;> exact h

theorem getD_mem_cons (a : Act) (as : List Act) (n : Nat) : (a :: as).getD n a ∈ a :: as := by
  rw [List.getD_eq_getElem?_getD]
  cases hn : (a :: as)[n]? with
  | none => simp
  | some x => exact List.mem_of_getElem? hn

namespace Keeps

variable {s u : State} (h : Keeps s u)
include h

theorem quiesceFor (n : Nat) : Keeps s (State.quiesceFor n u) := by
  induction n generalizing u with
  | zero => exact h
  | succ n ih =>
    unfold State.quiesceFor
    split
    · exact h
    · next a as acts =>
      have possible : (a :: as).getD (u.choose (as.length + 1)).1 a ∈ u.nextActs := acts ▸ getD_mem_cons a as _
      exact ih ((h.choose _).perform (State.grants_choose _ (State.grants_of_mem_nextActs possible)))

theorem settleEvent : Keeps s u.settleEvent := (h.quiesceFor actLimit).pump.recordOffers

/-- An event keeps them where its effect does. -/
theorem event {f : State → State} (hf : ∀ v, Keeps s v → Keeps s (f v)) : Keeps s (u.event f) :=
  .ite (fun _ => h) (fun _ => (hf _ h.tickStamp).settleEvent)

theorem portEvent {f : State → State} (hf : ∀ v, Keeps s v → Keeps s (f v)) : Keeps s (u.portEvent f) :=
  .ite (fun _ => h.event hf) (fun _ => h)

theorem portAccess {f : State → State} (hf : Keeps s (f u)) : Keeps s (u.portAccess f) := .ite (fun _ => hf) (fun _ => h)

end Keeps

end Sys2Proof.Machine
end

section
/-! Every frame that comes in and every row keeps the lists within their places and the lines settled, so every step does (R59, R140). -/

namespace Sys2Proof.Machine

/-- Characters that have come in with the idle after them leave a lane settled (R143). -/
theorem Lane.settled_hearAll {l : Lane} (hl : l.settled = true) (cs : List RxChar) : (l.hearAll cs).settled = true := by
  simp only [Lane.hearAll]
  split
  · rfl
  · exact hl

namespace Keeps

variable {s u : State} (h : Keeps s u)
include h

/-! ## Frames at their units -/

theorem foreignStatus (m : MemberState) (mask : StationMask) : Keeps s (u.foreignStatus m mask) :=
  .ite (fun _ => (h.offer _).isolate) (fun _ => h)

theorem useStatus (p : Station) (m : MemberState) (mask known : StationMask) (rs : List Byte)
    (ws : List (Station × SeqNo)) : Keeps s (u.useStatus p m mask known rs ws) := by
  unfold State.useStatus
  extract_lets old new entered receipted
  have he : Keeps s entered := h.setPeer p new
  have hr : Keeps s receipted := .ite (fun _ => he.setSeqFrames entered.seq.queue_oweUrgent) (fun _ => he)
  have hd := Keeps.ite (c := old.state = .live) (fun _ => hr.dropClaimant p) (fun _ => hr)
  exact .ite (fun _ => hr) (fun _ => hd.peersChanged _)

theorem memberStatus (p : Station) (m : MemberState) (mask known : StationMask) (rs : List Byte)
    (ws : List (Station × SeqNo)) : Keeps s (u.memberStatus p m mask known rs ws) := by
  unfold State.memberStatus
  split
  · exact h.setPeer p _
  · exact .ite (fun _ => (h.offer _).isolate) (fun _ => h.useStatus p m mask known rs ws)

theorem admitJoiner (hf : u.freeEntry = true) (j : Station) : Keeps s (u.admitJoiner j) :=
  ((h.setPeer j _).enqueueAdmission hf j _).peersChanged none

theorem joinArrive (j : Station) : Keeps s (u.joinArrive j) :=
  .ite (fun _ => h) (fun _ => .ite (fun _ => h) (fun _ => .ite (fun _ => h.decideExclude j .rejoin true)
    (fun _ => .ite (fun _ => h) (fun _ => .ite (fun _ => h) (fun hf => h.admitJoiner (by simpa using hf) j)))))

theorem admitArrive (j : Station) : Keeps s (u.admitArrive j) := by
  refine .ite (fun _ => h) (fun _ => ?_)
  have decided := h.decideExclude j .rejoin true
  exact .ite (fun _ => ((decided.setPeer j _).setMember (by exact id)).peersChanged none) (fun _ => decided)

theorem admitted (p : Station) (q : SeqNo) (mask : StationMask) : Keeps s (u.admitted p q mask) := by
  unfold State.admitted
  extract_lets _ entered owed _ timed changed _ wanting
  have he : Keeps s entered := h.setMember id
  have ho : Keeps s owed := (he.withdraw _).setSeqFrames entered.seq.queue_oweUrgent
  have ht : Keeps s timed := ho.setSelect _
  have hw : Keeps s wanting := (ht.peersChanged none).setMissing _ _
  exact hw.sendSnapq

theorem excludeArrive (p q : Station) (c : Cause) : Keeps s (u.excludeArrive p q c) :=
  .ite (fun _ => (h.offer _).isolate) (fun _ => h.exclude q c true)

theorem claimArrive (p : Station) (b : Block) : Keeps s (u.claimArrive p b) := by
  refine .ite (fun entered => ?_) (fun _ => h)
  obtain ⟨-, -, -, -, room⟩ := State.claimEntered_iff.mp entered
  exact h.setClaimList (fun _ => length_append_one_le room)

theorem fetchArrive (p : Station) (b : Block) : Keeps s (u.fetchArrive p b) :=
  .ite (fun _ => h.queueAnswer _) (fun _ => h)

theorem snapqArrive (p : Station) (parts : Word) : Keeps s (u.snapqArrive p parts) :=
  .ite (fun _ => h.foldl (fun _ q hv => hv.queueAnswer (.snap p q)) _) (fun _ => h)

theorem copyNotCurrentArrive (p : Station) (b : Block) : Keeps s (u.copyNotCurrentArrive p b) := by
  unfold State.copyNotCurrentArrive
  split
  · exact h
  · exact .ite (fun _ => h.endAttempt _) (fun _ => h)

theorem snapArrive (p : Station) (q : Part) (es : List SnapEntry) : Keeps s (u.snapArrive p q es) := by
  refine .ite (fun _ => ?_) (fun _ => h)
  have taken := (h.snapEntries q es).setMissing
    ((u.snapEntries q es).copy.missing &&& ~~~(1#16 <<< q.val)) (u.snapEntries q es).copy.snapq
  exact .ite (fun _ => taken.endSnapq) (fun _ => taken.sendSnapq)

theorem queryArrive (p : Station) (r : Round) (bm : List Byte) : Keeps s (u.queryArrive p r bm) := by
  have deferred := Keeps.ite (c := (u.isMember p && decide (p.val < u.own.val)) = true)
    (fun _ => h.clearJob.setSettle { u.clearJob.settle with deference := some 0 }) (fun _ => h)
  exact .ite (fun _ => deferred.replyToQuery p r bm) (fun _ => deferred)

theorem versionsArrive (p : Station) (r : Round) (last : Bool) (es : List VersionsEntry) :
    Keeps s (u.versionsArrive p r last es) :=
  .ite (fun _ => .ite (fun _ => (h.foldVersions p last es).decideJob) (fun _ => h.foldVersions p last es)) (fun _ => h)

/-! ## Delivery -/

theorem accept (f : Frame) : Keeps s (u.accept f) := by
  unfold State.accept
  split
  case h_1 j _ _ => exact h.admitArrive j
  case h_2 p c _ => exact h.excludeArrive _ p c
  case h_3 b e v es _ => exact h.updateArrive _ b e v es
  case h_4 n es _ => exact h.foldl (fun _ x hv => hv.handoverEntry f.sender n x) es
  case h_5 r es _ => exact h.foldl (fun _ x hv => hv.settleEntry f.sender x) es
  all_goals exact h

theorem sequenced (f : Frame) : Keeps s (u.sequenced f) := by
  have noted := h.noteJudgement f.sender f.seq (u.judgeSeq f.sender f.seq)
  exact .ite (fun _ => noted.accept f) (fun _ => noted)

theorem unsequenced (f : Frame) : Keeps s (u.unsequenced f) := by
  unfold State.unsequenced
  split
  case h_1 b _ _ => exact h.claimArrive _ b
  case h_2 b _ => exact h.fetchArrive _ b
  case h_3 b v ws _ => exact .ite (fun _ => h.copyArrive b v ws) (fun _ => h)
  case h_4 b _ _ => exact h.copyNotCurrentArrive _ b
  case h_5 m _ => exact h.snapqArrive _ m
  case h_6 p es _ => exact h.snapArrive _ p es
  case h_7 r bm _ => exact h.queryArrive _ r bm
  case h_8 r last es _ => exact h.versionsArrive _ r last es
  case h_9 es _ => exact h.foldl (fun _ d hv => hv.digestEntry f.sender d) es
  all_goals exact h

theorem deliverActive (f : Frame) : Keeps s (u.deliverActive f) := by
  unfold State.deliverActive
  split
  · exact .ite (fun _ => h.memberStatus _ _ _ _ _ _) (fun _ => h.foreignStatus _ _)
  · exact h.joinArrive _
  · exact .ite (fun _ => h.sequenced f) (fun _ => .ite (fun _ => h) (fun _ => h.unsequenced f))

theorem deliverJoining (f : Frame) : Keeps s (u.deliverJoining f) := by
  unfold State.deliverJoining
  split
  · exact .ite (fun _ => h.admitted _ _ _) (fun _ => h)
  · exact h

theorem heard (k : Kind) : Keeps s (u.heard k) := by
  refine .ite (fun _ => h) (fun _ => ?_)
  split
  · exact h.enterJoining
  · exact h.setMember id
  all_goals exact h

theorem deliver (f : Frame) : Keeps s (u.deliver f) :=
  .ite (fun _ => h.deliverActive f) (fun _ => .ite (fun _ => (h.heard _).deliverJoining f) (fun _ => h.heard _))

theorem malformed (l : LaneId) (r : RawFrame) : Keeps s (u.malformed l r) := h.offer _

theorem judgeKind (l : LaneId) (r : RawFrame) (k : Kind) : Keeps s (u.judgeKind l r k) := by
  refine .ite (fun _ => h.malformed l r) (fun _ => .ite (fun _ => h.heard k) (fun _ => ?_))
  split
  · exact h.malformed l r
  · exact h.deliver _

theorem judgeFrame (l : LaneId) (r : RawFrame) : Keeps s (u.judgeFrame l r) := by
  refine .ite (fun _ => h.malformed l r) (fun _ => .ite (fun _ => .ite (fun _ => h) (fun _ => h.clash l _)) (fun _ => ?_))
  have hears : Keeps s (u.hear r.sender) := .ite (fun _ => h.setPeer _ _) (fun _ => h)
  split
  · exact hears.malformed l r
  · exact hears.judgeKind l r _

theorem goodFrame (l : LaneId) (f : FrameBuffer) : Keeps s (u.goodFrame l f) :=
  .ite (fun _ => h.weigh l _ _) (fun _ => (h.weigh l _ _).judgeFrame l _)

theorem judgeBuffer (l : LaneId) (f : FrameBuffer) : Keeps s (u.judgeBuffer l f) := by
  unfold State.judgeBuffer
  split
  · exact h.badFrame l f
  · exact .ite (fun _ => h.goodFrame l f) (fun _ => h.probationFrame l f)

theorem frameIn (rx : RxFrame) : Keeps s (u.frameIn rx) := by
  unfold State.frameIn
  extract_lets told heard entered
  have ht : Keeps s told := h.bring _ _
  have he : Keeps s entered := ht.setLane _ (fun old => Lane.settled_hearAll old rx.chars)
  exact .ite (fun _ => .ite (fun _ => (he.frameEnds _).judgeBuffer _ _) (fun _ => he)) (fun _ => ht)

/-! ## The rows' effects -/

theorem writeLatched (a : WindowAddr) (x : Word) : Keeps s (u.writeLatched a x) := (h.waitNoMore _).judgeWaiting

theorem dropWaiting : Keeps s u.dropWaiting := by
  unfold State.dropWaiting
  split
  · exact h
  · exact .ite (fun _ => (h.waitNoMore none).offer _) (fun _ => h)

theorem holdReached : Keeps s u.holdReached := .ite (fun _ => h.closeOrDue) (fun _ => h)

theorem closeDueBatch : Keeps s u.closeDueBatch :=
  .ite (fun hf => h.closeBatch (Bool.and_eq_true_iff.mp hf).1) (fun _ => h)

theorem commitIfReady (b : Block) : Keeps s (u.commitIfReady b) :=
  .ite (fun hb => h.commitHeld (State.hasHeld_of_mem_commitReady (List.contains_iff_mem.mp hb))) (fun _ => h)

theorem leavePending : Keeps s u.leavePending := by
  have pending : Keeps s (u.setMember { u.member with leavePending := true }) := h.setMember id
  exact pending.askExclude u.own .leave

/-! The effect of a COMMAND that is judged on v, where the unit it looks to for a place is u's (R173). -/

theorem judgedCommit (v : State) : Keeps s ((judgeCommit v).2 u) := by
  unfold judgeCommit
  split
  · exact h
  · exact h.closeOrDue

theorem judgedClaim {v : State} (hv : v.claim = u.claim) (b : Block) : Keeps s ((judgeClaim b v).2 u) := by
  unfold judgeClaim
  split
  · exact h
  · split
    · exact h
    · split
      · exact h
      · split
        · exact h
        · next room => exact h.openClaim (hv ▸ Nat.lt_of_not_le room) b false

theorem judgedRefresh (v : State) (b : Block) : Keeps s ((judgeRefresh b v).2 u) := by
  unfold judgeRefresh
  split
  · exact h
  · split
    · exact h
    · split
      · exact h
      · exact h.makeStale b
      · exact h.endHold b
      · exact h

theorem judgedLeave (v : State) : Keeps s ((judgeLeave v).2 u) := by
  unfold judgeLeave
  split
  · dsimp only
    exact h.depart 0
  · dsimp only
    exact h.depart 0
  · split
    · exact h
    · exact h.leavePending
  · dsimp only
    exact h.enterLeaving
  all_goals exact h

theorem judgedRejoin (v : State) : Keeps s ((judgeRejoin v).2 u) := by
  unfold judgeRejoin
  split
  · exact h.enterListening
  · exact h

theorem command (w : Word) : Keeps s (u.command w) := by
  have placed := fun c r => h.setPort (x := { u.port with command := c, result := r }) id
  unfold State.command
  refine .ite (fun _ => placed _ _) (fun _ => ?_)
  show Keeps s ((judgeWord (hiByte w) (loByte w) u).2 (u.setPort _))
  generalize hj : judgeWord (hiByte w) (loByte w) = judge
  unfold judgeWord at hj
  split at hj <;> subst hj
  · exact (placed _ _).judgedCommit u
  · exact (placed _ _).judgedClaim (v := u) (by rfl) _
  · exact (placed _ _).judgedRefresh u _
  · exact (placed _ _).judgedLeave u
  · exact (placed _ _).judgedRejoin u
  · exact placed _ _

theorem abortMark (l : LaneId) : Keeps s (u.abortMark l) := .ite (fun _ => h.setLane l (fun _ => rfl)) (fun _ => h)
theorem stuckLine (l : LaneId) : Keeps s (u.stuckLine l) := .ite (fun _ => h.laneDown l 2) (fun _ => h)
theorem restEnd (l : LaneId) : Keeps s (u.restEnd l) := .ite (fun _ => h.setLane l (fun _ => rfl)) (fun _ => h)
theorem attemptStart (l : LaneId) : Keeps s (u.attemptStart l) := .ite (fun _ => h.setLane l id) (fun _ => h)

theorem collision (l : LaneId) (c : Option RxChar) : Keeps s (u.collision l c) :=
  .ite (fun _ => h.setLane l id) (fun _ => h)

theorem abortMarkEnd (l : LaneId) : Keeps s (u.abortMarkEnd l) :=
  .ite (fun _ => .ite (fun _ => h.setLane l (fun _ => rfl)) (fun _ => (h.laneDone l).weigh l 8 0)) (fun _ => h)

theorem frameSent (l : LaneId) : Keeps s (u.frameSent l) := .ite (fun _ => h.laneDone l) (fun _ => h)

theorem claimExpires (b : Block) : Keeps s (u.claimExpires b) := by
  unfold State.claimExpires
  split
  · exact h
  · exact .ite (fun _ => .ite (fun _ => (h.setClaimSlot b _).sendClaim b)
      (fun _ => .ite (fun _ => (h.closeClaim b).discardHeld b) (fun _ => h.closeClaim b))) (fun _ => h)

theorem serveIfFree : Keeps s u.serveIfFree := .ite (fun hf => h.serve hf) (fun _ => h)

theorem replayExpires : Keeps s u.replayExpires := by
  unfold State.replayExpires
  split
  · exact h
  · refine .ite (fun _ => .ite (fun _ => ?_) (fun _ => .ite (fun _ => h.depart 0) (fun _ => ?_))) (fun _ => h)
    · exact h.setSeq (SeqUnit.fits_of_frames (frames_replayMarks _))
    · exact h.decideExcludes _ _ _

theorem receiptAges : Keeps s u.receiptAges := .ite (fun _ => h.setSeqFrames rfl) (fun _ => h)
theorem enqueueIfFree (p : Station) : Keeps s (u.enqueueIfFree p) := .ite (fun hf => h.enqueueWaiting hf p) (fun _ => h)
theorem listenExpires : Keeps s u.listenExpires := .ite (fun _ => h.found) (fun _ => h)
theorem joinExpires : Keeps s u.joinExpires := .ite (fun _ => (h.setMember (by exact id)).makeDue _ _) (fun _ => h)

theorem silenceExpires (p : Station) : Keeps s (u.silenceExpires p) :=
  .ite (fun _ => h.decideExclude p .silence true) (fun _ => h)

theorem handToHeir : Keeps s u.handToHeir :=
  .ite (fun hf => h.handOver (Bool.and_eq_true_iff.mp hf).2 _ _) (fun _ => h)

theorem askLeave : Keeps s u.askLeave :=
  .ite (fun hf => h.enqueueExclude (State.freeEntry_of_asksLeave hf) _ _) (fun _ => h)

theorem departureEnds : Keeps s u.departureEnds :=
  .ite (fun _ => h.depart 0) (fun _ => .ite (fun _ => h.retireHead) (fun _ => h))

theorem snapqExpires : Keeps s u.snapqExpires := .ite (fun _ => h.sendSnapq) (fun _ => h)

theorem openNextFetch : Keeps s u.openNextFetch := by
  unfold State.openNextFetch
  split
  · exact h
  · next hb => exact h.openFetch (State.room_of_nextFetch hb) _

theorem fetchExpires (b : Block) : Keeps s (u.fetchExpires b) := by
  unfold State.fetchExpires
  split
  · exact h
  · exact .ite (fun _ => h.endAttempt _) (fun _ => h)

theorem holdExpires (b : Block) : Keeps s (u.holdExpires b) := .ite (fun _ => h.endHold b) (fun _ => h)
theorem startIfWanted : Keeps s u.startIfWanted := .ite (fun _ => h.startJob) (fun _ => h)

theorem queryLimit : Keeps s u.queryLimit := by
  unfold State.queryLimit
  extract_lets silent decided
  have hd : Keeps s decided := h.decideExcludes _ _ _
  exact .ite (fun _ => (hd.setSettle _).decideJob) (fun _ => hd)

theorem queryExpires : Keeps s u.queryExpires :=
  .ite (fun _ => .ite (fun _ => (h.setSettle _).sendQuery) (fun _ => h.queryLimit)) (fun _ => h)

theorem settleIfFree : Keeps s u.settleIfFree :=
  .ite (fun hf => h.announceNext (Bool.and_eq_true_iff.mp hf).2) (fun _ => h)

theorem deferenceExpires : Keeps s u.deferenceExpires := .ite (fun _ => h.setSettle _) (fun _ => h)
theorem digestExpires : Keeps s u.digestExpires := .ite (fun _ => h.setAudit _) (fun _ => h)

/-! ## Steps -/

theorem resetFalls : Keeps s u.resetFalls := by
  have fallen := (h.silence.waitNoMore none).setLog (x := IncidentLog.reset) (fun _ => Nat.zero_le _)
  exact ⟨fallen.lists, fallen.lines⟩

theorem idle : Keeps s u.idle := by
  refine .ite (fun _ => h) (fun _ => ⟨fun hs => ?_, fun hs => ?_⟩)
  · obtain ⟨log, port, seq, write, claim, copy, member⟩ := State.bounded_iff.mp (h.lists hs)
    exact State.bounded_iff.mpr ⟨log, port, SeqUnit.fits_tick seq, WriteUnit.fits_tick write, ClaimUnit.fits_tick claim,
      CopyUnit.fits_tick copy, member⟩
  · have old := h.lines hs
    simp only [State.linesSettled, Bool.and_eq_true] at old ⊢
    exact ⟨Lane.settled_tick old.1 _, Lane.settled_tick old.2 _⟩

end Keeps

/-- Every command keeps the lists within their places and the lines settled. -/
theorem exec_keeps (c : Instr) {s t : State} (ht : exec c s = .next t) : Keeps s t := by
  have h := Keeps.refl s
  cases c with
  | localWrite addr x => 
    cases ht
    split
    · exact h.portEvent fun _ hv => hv.writeLatched _ x
    · exact h
  | waitingWriteJudged => cases ht; exact h.event fun _ hv => hv.judgeWaiting
  | waitLimit => cases ht; exact h.event fun _ hv => hv.dropWaiting
  | batchHold => cases ht; exact h.event fun _ hv => hv.holdReached
  | dueBatchClose => cases ht; exact h.event fun _ hv => hv.closeDueBatch
  | heldWriteCommit b => cases ht; exact h.event fun _ hv => hv.commitIfReady b
  | commit | claim | refresh | leave | rejoin | commandUnknown => cases ht; exact h.portEvent fun _ hv => hv.command _
  | incidentAck w => cases ht; exact h.portAccess (h.setLog (fun old => IncidentLog.fits_ack old w))
  | unrecordedMaskWrite w => cases ht; exact h.portAccess (h.setLog id)
  | noticeRead => cases ht; exact h.portAccess (h.setPort LocalPort.fits_readNotice)
  | watchMapWrite n w => cases ht; exact h.portAccess (h.setPort id)
  | stationAreaWriteIgnored => cases ht; exact h
  | resetAssert => cases ht; exact h.resetFalls
  | resetRelease stn dual rate =>
    cases ht
    exact ⟨fun _ => State.bounded_released stn dual rate, fun _ => State.linesSettled_released stn dual rate⟩
  | statusReceived rx | joinReceived rx | admitReceived rx | updateReceived rx | claimReceived rx | handoverReceived rx
  | excludeReceived rx | fetchReceived rx | copyReceived rx | snapqReceived rx | snapReceived rx | queryReceived rx
  | versionsReceived rx | settleReceived rx | digestReceived rx | badFrameReceived rx | probationFrameReceived rx =>
    cases ht; exact h.event fun _ hv => hv.frameIn rx
  | abortMarkReceived l => cases ht; exact h.event fun _ hv => hv.abortMark l
  | stuckLine l => cases ht; exact h.event fun _ hv => hv.stuckLine l
  | laneRestEnd l => cases ht; exact h.event fun _ hv => hv.restEnd l
  | attemptStart l => cases ht; exact h.event fun _ hv => hv.attemptStart l
  | collision l c => cases ht; exact h.event fun _ hv => hv.collision l c
  | abortMarkEnd l => cases ht; exact h.event fun _ hv => hv.abortMarkEnd l
  | frameSent l => cases ht; exact h.event fun _ hv => hv.frameSent l
  | claimTimeout b => cases ht; exact h.event fun _ hv => hv.claimExpires b
  | claimSlotGrant => cases ht; exact h.event fun _ hv => hv.grantSlot
  | handoverServe => cases ht; exact h.event fun _ hv => hv.serveIfFree
  | replayTimeout => cases ht; exact h.event fun _ hv => hv.replayExpires
  | receiptAgeLimit => cases ht; exact h.event fun _ hv => hv.receiptAges
  | waitingExcludeEnqueue p => cases ht; exact h.event fun _ hv => hv.enqueueIfFree p
  | listenTimeout => cases ht; exact h.event fun _ hv => hv.listenExpires
  | joinTimeout => cases ht; exact h.event fun _ hv => hv.joinExpires
  | silenceTimeout p => cases ht; exact h.event fun _ hv => hv.silenceExpires p
  | heirHandover => cases ht; exact h.event fun _ hv => hv.handToHeir
  | leaveExcludeRequest => cases ht; exact h.event fun _ hv => hv.askLeave
  | departureEnd => cases ht; exact h.event fun _ hv => hv.departureEnds
  | snapqTimeout => cases ht; exact h.event fun _ hv => hv.snapqExpires
  | fetchSlotOpen => cases ht; exact h.event fun _ hv => hv.openNextFetch
  | fetchTimeout b => cases ht; exact h.event fun _ hv => hv.fetchExpires b
  | holdEnd b => cases ht; exact h.event fun _ hv => hv.holdExpires b
  | settleJobStart => cases ht; exact h.event fun _ hv => hv.startIfWanted
  | queryTimeout => cases ht; exact h.event fun _ hv => hv.queryExpires
  | settleEnqueue => cases ht; exact h.event fun _ hv => hv.settleIfFree
  | deferenceEnd => cases ht; exact h.event fun _ hv => hv.deferenceExpires
  | digestTimeout => cases ht; exact h.event fun _ hv => hv.digestExpires
  | heartbeatTimeout => cases ht; exact h.event fun _ hv => hv

theorem step_keeps {s t : State} (ht : step s = .next t) : Keeps s t := by
  unfold step at ht
  split at ht
  · cases ht
    exact (Keeps.refl s).idle
  · next rest _ =>
    have ran := exec_keeps _ ht
    exact ⟨ran.lists, ran.lines⟩

/-- Settles O8: a character time changes timers and lanes alone, and each command's operations keep both invariants. -/
theorem stepKeepsListsBounded : Obligations.StepKeepsListsBounded :=
  ⟨fun _ _ hs ht => (step_keeps ht).lists hs, fun _ _ hs ht => (step_keeps ht).lines hs⟩

end Sys2Proof.Machine
end

section
/-! The head of the replay queue: who must receipt it, its retirement, its timeout, and the exclusions this station decides (R61, R62, R64 to R68, R74, R98). -/

namespace Sys2Proof.Machine

/-! ## Required receivers (R62, R65) -/

theorem mem_stations {p : Station} : p ∈ stations ↔ p ≠ 0 := by
  revert p
  decide

theorem State.requires_iff {s : State} {p : Station} {q : SeqNo} : s.requires p q = true ↔
    (s.peer p).state.member = true ∧ ∀ b, (s.peer p).base = some b → later8 b q = false := by
  rw [State.requires, Bool.and_eq_true, State.isMember]
  refine and_congr_right (fun _ => ?_)
  cases (s.peer p).base <;> simp

theorem State.receipted_iff {s : State} {p : Station} {q : SeqNo} :
    s.receipted p q = true ↔ ∃ r, (s.peer p).receipt = some r ∧ later8 r q = true := by
  unfold State.receipted
  cases (s.peer p).receipt <;> simp

theorem State.not_receipted_iff {s : State} {p : Station} {q : SeqNo} :
    s.receipted p q = false ↔ ∀ r, (s.peer p).receipt = some r → later8 r q = false := by
  rw [← Bool.not_eq_true, State.receipted_iff]
  simp

theorem State.mem_laggards {s : State} {p : Station} {q : SeqNo} :
    p ∈ s.laggards q ↔ p ≠ 0 ∧ s.requires p q = true ∧ s.receipted p q = false := by
  simp [State.laggards, mem_stations]

/-! ## Retirement (R66) -/

/-- A queue whose first entry has just become head (R64). -/
def headed : List ReplayEntry → List ReplayEntry
  | [] => []
  | x :: more => x.becomeHead :: more

section
variable {s : State} {e : ReplayEntry} {rest : List ReplayEntry} (hq : s.seq.queue = e :: rest)
include hq

theorem State.headReceipted_iff : s.headReceipted = true ↔
    ∀ p : Station, p ≠ 0 → s.requires p e.seq = true → s.receipted p e.seq = true := by
  have none : s.headReceipted = true ↔ ∀ p, p ∉ s.laggards e.seq := by
    simp [State.headReceipted, hq, List.eq_nil_iff_forall_not_mem]
  rw [none]
  refine forall_congr' (fun p => ?_)
  simp only [State.mem_laggards, not_and, Bool.not_eq_false]

/-- The queue once its head has left (R66). -/
theorem State.dropHead_eq : s.dropHead = s.setSeq { s.seq with queue := headed rest } := by
  simp only [State.dropHead, hq]
  cases rest <;> rfl

theorem State.retireHead_other (hx : s.ownExclude e = false) : s.retireHead = s.dropHead := by
  simp [State.retireHead, hq, hx]

theorem State.retireHead_own (hx : s.ownExclude e = true) : s.retireHead = s.dropHead.depart 0 := by
  simp [State.retireHead, hq, hx]

end

theorem State.ownExclude_iff {s : State} {e : ReplayEntry} :
    s.ownExclude e = true ↔ ∃ c, e.frame.payload = .exclude s.member.own c := by
  rw [← Bool.not_eq_false, State.ownExclude_eq_false]
  simp [State.own]

/-- A receipted head retires before every other act (log entry 6). -/
theorem State.nextActs_of_headReceipted {s : State} (h : s.headReceipted = true) : s.nextActs = [.retire] := by
  simp [State.nextActs, State.actGroups, actIf, h]

/-- Settles O31: the head by its required receivers, and what its retirement leaves. -/
theorem headRetiresWhenReceipted : Obligations.HeadRetiresWhenReceipted := by
  intro e rest s hq
  refine ⟨?_, fun hr => ?_⟩
  · simp only [State.headReceipted_iff hq, State.requires_iff, State.receipted_iff, and_imp]
  · intro u n
    have retired : State.quiesceFor (n + 1) s = State.quiesceFor n s.retireHead :=
      State.quiesceFor_of_act (State.nextActs_of_headReceipted hr) n
    have dropped : s.dropHead = u := (State.dropHead_eq hq).trans (by cases rest <;> rfl)
    refine ⟨fun other => ?_, fun own => ?_⟩
    · rw [retired, State.retireHead_other hq (State.ownExclude_eq_false.mpr other), dropped]
    · rw [retired, State.retireHead_own hq (State.ownExclude_iff.mpr own), dropped]
      rfl

/-! ## The two timeouts (R67, R68, R74) -/

section
variable {s : State} {e : ReplayEntry} {rest : List ReplayEntry} {n : Nat} (hq : s.seq.queue = e :: rest)
  (ht : e.timer = some n) (hn : 512 ≤ n)
include hq ht hn

theorem State.replayExpires_eq : s.replayExpires =
    if e.count < 6 then s.setSeq { s.seq with
      queue := { e with marked := e.marked || e.sent, count := e.count + 1, timer := none }
        :: rest.map (fun x => { x with marked := x.marked || x.sent }) }
    else if s.ownExclude e then s.depart 0
    else s.decideExcludes (s.laggards e.seq) .replay true := by
  have run : reached e.timer Config.replayTimeout = true := by simp [reached, ht, Config.replayTimeout, hn]
  simp only [State.replayExpires, hq, run, if_true]
  rfl

end

theorem State.receiptAges_of_old {s : State} {n : Nat} (ho : s.seq.owed = true) (ha : s.seq.age = some n) (hn : 64 ≤ n) :
    s.receiptAges = s.setSeq { s.seq with urgent := true } := by
  simp [State.receiptAges, ho, reached, ha, Config.receiptAge, hn]

/-! ## What follows an exclusion: the peer table stays, and incidents may be offered (R91, R96, R128) -/

/-- From s on, the station's state and peer table stay as they are, and what s has offered stands first. -/
structure Follows (s t : State) : Prop where
  state : t.member.state = s.member.state
  peers : t.member.peers = s.member.peers
  offered : s.log.offered <+: t.log.offered

namespace Follows

theorem refl (s : State) : Follows s s := ⟨rfl, rfl, List.prefix_rfl⟩

theorem trans {s t u : State} (h : Follows s t) (k : Follows t u) : Follows s u :=
  ⟨k.state.trans h.state, k.peers.trans h.peers, h.offered.trans k.offered⟩

theorem foldl {α : Type} {f : State → α → State} (hf : ∀ s x, Follows s (f s x)) (xs : List α) (s : State) :
    Follows s (xs.foldl f s) := by
  induction xs generalizing s with
  | nil => exact .refl s
  | cons x xs ih => exact (hf s x).trans (ih _)

/-- What changes slots and requests alone. -/
theorem of_unretargeted {s t : State} (h : t.unretargeted = s.unretargeted) : Follows s t := by
  simp only [State.unretargeted, Prod.mk.injEq] at h
  obtain ⟨member, -, -, -, log, -⟩ := h
  exact ⟨by rw [member], by rw [member], by rw [log]⟩

theorem peersChanged {s : State} (h : s.state ≠ .catchup) (g : Option Station) : Follows s (s.peersChanged g) :=
  Follows.trans (t := s.registered) ⟨rfl, rfl, List.prefix_rfl⟩
    (.of_unretargeted (State.unretargeted_peersChanged h g))

theorem retargetFrom (s : State) (p : Station) : Follows s (s.retargetFrom p) :=
  .of_unretargeted (s.unretargeted_retargetClaims _)

theorem clearJob (s : State) : Follows s s.clearJob := ⟨rfl, rfl, List.prefix_rfl⟩

theorem offerFlaggers (s : State) (rs : List SettleRecord) : Follows s (s.offerFlaggers rs) := by
  refine foldl (fun s r => ?_) rs s
  split
  · exact ⟨rfl, rfl, List.prefix_append _ _⟩
  · exact .refl s

theorem decideJob (s : State) : Follows s s.decideJob := by
  simp only [State.decideJob]
  split
  · exact clearJob s
  · exact (offerFlaggers s _).trans ⟨rfl, rfl, List.prefix_rfl⟩

theorem startJob (s : State) : Follows s s.startJob := by
  simp only [State.startJob]
  split
  · refine Follows.trans ?_ (decideJob _)
    exact ⟨rfl, rfl, List.prefix_rfl⟩
  · exact ⟨rfl, rfl, List.prefix_rfl⟩

theorem restartJob (s : State) : Follows s s.restartJob := by
  unfold State.restartJob
  split
  · split
    · exact clearJob s
    · exact startJob s
  · exact .refl s

theorem askExclude (s : State) (p : Station) (c : Cause) : Follows s (s.askExclude p c) := by
  unfold State.askExclude
  split
  · exact ⟨rfl, rfl, List.prefix_rfl⟩
  · split
    · exact .refl s
    · exact ⟨rfl, rfl, List.prefix_rfl⟩

theorem peer {s t : State} (h : Follows s t) (p : Station) : t.peer p = s.peer p := by
  rw [State.peer, h.peers, State.peer]

end Follows

/-! ## The entries of the excluded (R96) -/

/-- The incident of an exclusion. -/
def exclusionOf (cause : Cause) (p : Station) : IncidentUnit × Offer :=
  (.membership, { cls := .peerExcluded, peer := some p, detail := cause.code.setWidth 16 })

theorem State.dropClaimant_frame (s : State) (p : Station) :
    (s.dropClaimant p).member = s.member ∧ (s.dropClaimant p).log = s.log := by
  have yields : ∀ (bs : List Block) (u : State),
      (bs.foldl State.endYield u).member = u.member ∧ (bs.foldl State.endYield u).log = u.log := by
    intro bs
    induction bs with
    | nil => exact fun u => ⟨rfl, rfl⟩
    | cons b bs ih =>
      intro u
      have one : (u.endYield b).member = u.member ∧ (u.endYield b).log = u.log := by
        unfold State.endYield
        split <;> exact ⟨rfl, rfl⟩
      exact ⟨(ih _).1.trans one.1, (ih _).2.trans one.2⟩
  exact yields _ _

theorem State.excludeEntry_member (cause : Cause) (s : State) (p : Station) :
    (s.excludeEntry cause p).member = (s.setPeer p { Peer.empty with state := .excluded }).member := by
  have dropped := (State.dropClaimant_frame (s.setPeer p { Peer.empty with state := .excluded }) p).1
  simp only [State.excludeEntry]
  split <;> exact dropped

theorem State.excludeEntry_offered {s : State} {p : Station} (h : (s.peer p).state ≠ .absent) (cause : Cause) :
    (s.excludeEntry cause p).log.offered = s.log.offered ++ [exclusionOf cause p] := by
  have dropped := (State.dropClaimant_frame (s.setPeer p { Peer.empty with state := .excluded }) p).2
  simp only [State.excludeEntry, if_neg h]
  rw [State.log_offer]
  exact congrArg (fun g : IncidentLog => g.offered ++ [exclusionOf cause p]) dropped

theorem State.excludeEntries_state (cause : Cause) (ps : List Station) (s : State) :
    (ps.foldl (State.excludeEntry cause) s).member.state = s.member.state := by
  induction ps generalizing s with
  | nil => rfl
  | cons p ps ih => rw [List.foldl_cons, ih, State.excludeEntry_member]; rfl

theorem State.peer_excludeEntry (cause : Cause) (s : State) (p q : Station) :
    (s.excludeEntry cause p).peer q = if q = p then { Peer.empty with state := .excluded } else s.peer q := by
  rw [State.peer, State.excludeEntry_member]
  exact s.peer_setPeer p q _

theorem State.peer_excludeEntries (cause : Cause) (ps : List Station) (s : State) (q : Station) :
    (ps.foldl (State.excludeEntry cause) s).peer q
      = if q ∈ ps then { Peer.empty with state := .excluded } else s.peer q := by
  induction ps generalizing s with
  | nil => simp
  | cons p ps ih =>
    rw [List.foldl_cons, ih, State.peer_excludeEntry]
    by_cases hq : q ∈ ps <;> simp [hq]

/-- Each of several peers with an entry has its one incident, in their order (log entry 27). -/
theorem State.offered_excludeEntries (cause : Cause) {ps : List Station} (hn : ps.Nodup) {s : State}
    (h : ∀ p ∈ ps, (s.peer p).state ≠ .absent) :
    (ps.foldl (State.excludeEntry cause) s).log.offered = s.log.offered ++ ps.map (exclusionOf cause) := by
  induction ps generalizing s with
  | nil => simp
  | cons p ps ih =>
    obtain ⟨hp, hn⟩ := List.nodup_cons.mp hn
    have others : ∀ q ∈ ps, ((s.excludeEntry cause p).peer q).state ≠ .absent := by
      intro q hq
      rw [State.peer_excludeEntry, if_neg (by rintro rfl; exact hp hq)]
      exact h q (List.mem_cons_of_mem p hq)
    rw [List.foldl_cons, ih hn others, State.excludeEntry_offered (h p List.mem_cons_self), List.append_assoc]
    rfl

/-! ## The exclusions a LIVE or LEAVING station decides (R61, R68, R98) -/

/-- What follows the entries of an exclusion outside CATCHUP. -/
theorem Follows.excludeAll {s : State} (hs : s.state ≠ .catchup) {ps : List Station}
    (hp : ∀ p ∈ ps, (s.peer p).state ≠ .excluded) (cause : Cause) (restart : Bool) :
    Follows (ps.foldl (State.excludeEntry cause) s) (s.excludeAll ps cause restart) := by
  have members : ps.filter (fun p => (s.peer p).state ≠ .excluded) = ps := by simpa using hp
  simp only [State.excludeAll, members]
  split
  · next none => rw [none]; exact .refl s
  · have state : (ps.foldl (State.excludeEntry cause) s).state ≠ .catchup := by
      rw [State.state, State.excludeEntries_state]
      exact hs
    have changed := Follows.peersChanged state none
    split
    · have retargeted := changed.trans (Follows.foldl Follows.retargetFrom ps _)
      split
      · exact retargeted.trans (.restartJob _)
      · exact retargeted
    · exact changed

/-- The EXCLUDE of the station stands in the replay queue, or waits (R98). -/
def State.asked (s : State) (cause : Cause) (p : Station) : Prop :=
  (∃ x ∈ s.seq.queue, x.frame.payload = .exclude p cause) ∨ ∃ c, (p, c) ∈ s.member.waitingExcludes

theorem State.asked_askExclude (s : State) (cause : Cause) (p : Station) : (s.askExclude p cause).asked cause p := by
  unfold State.askExclude
  split
  · exact Or.inl ⟨_, List.mem_append_right _ (List.mem_singleton_self _), rfl⟩
  · split
    · next listed =>
      obtain ⟨w, hw, e⟩ := List.any_eq_true.mp listed
      obtain rfl := of_decide_eq_true e
      exact Or.inr ⟨w.2, hw⟩
    · exact Or.inr ⟨cause, List.mem_append_right _ (List.mem_singleton_self _)⟩

theorem State.asked_of_asked {s : State} {cause : Cause} {p : Station} (h : s.asked cause p) (c : Cause) (q : Station) :
    (s.askExclude q c).asked cause p := by
  unfold State.askExclude
  split
  · exact h.imp_left (fun ⟨x, hx, e⟩ => ⟨x, List.mem_append_left _ hx, e⟩)
  · split
    · exact h
    · exact h.imp_right (fun ⟨d, hd⟩ => ⟨d, List.mem_append_left _ hd⟩)

theorem State.asked_askExcludes (cause : Cause) {ps : List Station} {s : State} {p : Station}
    (h : p ∈ ps ∨ s.asked cause p) : (ps.foldl (fun s p => s.askExclude p cause) s).asked cause p := by
  induction ps generalizing s with
  | nil => simpa using h
  | cons q ps ih =>
    refine ih ?_
    obtain h | h := h
    · obtain rfl | h := List.mem_cons.mp h
      · exact Or.inr (s.asked_askExclude cause p)
      · exact Or.inl h
    · exact Or.inr (State.asked_of_asked h cause q)

theorem PeerState.known_of_member {x : PeerState} (h : x.member = true) : x ≠ .absent ∧ x ≠ .excluded := by
  cases x <;> simp_all [PeerState.member]

theorem State.active_of_state {s : State} (h : s.member.state = .live ∨ s.member.state = .leaving) : s.active = true := by
  obtain h | h := h <;> simp [State.active, State.state, h]

section
variable {s : State} (hs : s.member.state = .live ∨ s.member.state = .leaving) {ps : List Station}
  (hm : ∀ p ∈ ps, (s.peer p).state.member = true) (cause : Cause) (restart : Bool)
include hs hm

theorem Follows.excludeMembers :
    Follows (ps.foldl (State.excludeEntry cause) s) (s.excludeAll ps cause restart) := by
  refine .excludeAll (fun hc => ?_) (fun p hp => (PeerState.known_of_member (hm p hp)).2) cause restart
  rw [State.state] at hc
  simp [hc] at hs

/-- Every member named is excluded in the event, and its EXCLUDE asked for. -/
theorem State.decideExcludes_eq : s.decideExcludes ps cause restart
    = ps.foldl (fun s p => s.askExclude p cause) (s.excludeAll ps cause restart) := by
  have members : ps.filter s.isMember = ps := by simpa [State.isMember] using hm
  have state := (Follows.excludeMembers hs hm cause restart).state.trans (State.excludeEntries_state cause ps s)
  simp only [State.decideExcludes, members, State.active_of_state hs, if_true]
  exact if_pos (State.active_of_state (state ▸ hs))

theorem Follows.decideExcludes :
    Follows (ps.foldl (State.excludeEntry cause) s) (s.decideExcludes ps cause restart) := by
  rw [State.decideExcludes_eq hs hm]
  exact (Follows.excludeMembers hs hm cause restart).trans (Follows.foldl (fun s p => .askExclude s p cause) ps _)

end

/-- Settles O30: the head by its replay count, the old receipt, the laggards, and the exclusions decided. -/
theorem replayAndReceiptTimers : Obligations.ReplayAndReceiptTimers := by
  refine ⟨?_, ?_, ?_, ?_, ?_⟩
  · intro e rest n s hr hq ht hn hc t still
    have marked : s.tickStamp.replayExpires = t :=
      (State.replayExpires_eq (s := s.tickStamp) hq ht hn).trans (if_pos hc)
    show Host.Outcome.next (s.event State.replayExpires) = _
    rw [State.event_of_resetHigh hr, marked, State.settleEvent_of_still still]
  · intro n s hr ho ha hn t still
    have urgent : s.tickStamp.receiptAges = t := State.receiptAges_of_old (s := s.tickStamp) ho ha hn
    show Host.Outcome.next (s.event State.receiptAges) = _
    rw [State.event_of_resetHigh hr, urgent, State.settleEvent_of_still still]
  · intro e rest n s hr hq ht hn hc
    have row : exec .replayTimeout s = .next (s.tickStamp.replayExpires).settleEvent :=
      congrArg Host.Outcome.next (State.event_of_resetHigh hr _)
    have limit := (State.replayExpires_eq (s := s.tickStamp) hq ht hn).trans (if_neg (Nat.not_lt.mpr hc))
    refine ⟨fun own => ?_, fun other => ?_⟩
    · rw [row, limit, if_pos (State.ownExclude_iff (s := s.tickStamp).mpr own)]
      rfl
    · have notOwn : s.tickStamp.ownExclude e = false := State.ownExclude_eq_false.mpr other
      rw [row, limit, if_neg (by simp [notOwn])]
      rfl
  · intro p q s
    rw [State.mem_laggards, State.requires_iff, State.not_receipted_iff, and_assoc]
  · intro ps cause restart s hs hn hm t
    have after : Follows (ps.foldl (State.excludeEntry cause) s) t := Follows.decideExcludes hs hm cause restart
    refine ⟨fun p => ?_, fun p hp => ?_, ?_⟩
    · rw [after.peer, State.peer_excludeEntries]
    · have asked : t.asked cause p := by
        rw [show t = _ from State.decideExcludes_eq hs hm cause restart]
        exact State.asked_askExcludes cause (Or.inl hp)
      exact asked
    · obtain ⟨more, offers⟩ := after.offered
      refine ⟨more, ?_⟩
      rw [← offers, State.offered_excludeEntries cause hn (fun p hp => (PeerState.known_of_member (hm p hp)).1),
        List.append_assoc]
      rfl

end Sys2Proof.Machine
end

section
/-! What the end of an event leaves of the group and the directory, and the timers and frames of a station without a group (R79 to R81, R86, R152, R167). -/

namespace Sys2Proof.Machine

/-! ## What a take leaves (R152, R153) -/

/-- What no take changes: the directory, the log, the station state, the registrar and the peers; a heartbeat timer that
runs goes on or restarts. -/
structure Taken (s t : State) : Prop where
  dir : t.dir = s.dir
  log : t.log = s.log
  state : t.member.state = s.member.state
  registrar : t.member.registrar = s.member.registrar
  peers : t.member.peers = s.member.peers
  heartbeat : s.select.heartbeat ≠ none → t.select.heartbeat ≠ none

namespace Taken

theorem refl (s : State) : Taken s s := ⟨rfl, rfl, rfl, rfl, rfl, id⟩

theorem trans {s t u : State} (h : Taken s t) (k : Taken t u) : Taken s u :=
  ⟨k.dir.trans h.dir, k.log.trans h.log, k.state.trans h.state, k.registrar.trans h.registrar, k.peers.trans h.peers,
    k.heartbeat ∘ h.heartbeat⟩

theorem release (s : State) : Taken s s.release := by
  unfold State.release
  split
  · exact ⟨rfl, rfl, rfl, rfl, rfl, id⟩
  · exact .refl s

theorem give (s : State) (f : Frame) : Taken s (s.give f) := by
  simp only [State.give]
  split <;> split <;> exact ⟨rfl, rfl, rfl, rfl, rfl, id⟩

theorem takeAnswer (s : State) (a : Answer) : Taken s (s.takeAnswer a).2 := by
  cases a with
  | copy q b => exact ⟨rfl, rfl, rfl, rfl, rfl, id⟩
  | snap q i => exact ⟨rfl, rfl, rfl, rfl, rfl, id⟩
  | versions q r =>
    simp only [State.takeAnswer, State.buildAnswer]
    split
    · exact ⟨rfl, rfl, rfl, rfl, rfl, id⟩
    · split <;> exact ⟨rfl, rfl, rfl, rfl, rfl, id⟩

theorem nextTake {s : State} {p : Frame × State} (h : s.nextTake = some p) : Taken s p.2 := by
  obtain ⟨_, rfl⟩ | ⟨_, rfl⟩ | ⟨a, rfl⟩ | ⟨_, rfl⟩ | ⟨_, rfl⟩ := State.nextTake_cases h
  case inl => exact ⟨rfl, rfl, rfl, rfl, rfl, fun _ => Option.some_ne_none 0⟩
  case inr.inr.inl => exact takeAnswer s a
  all_goals exact ⟨rfl, rfl, rfl, rfl, rfl, id⟩

theorem pump (s : State) : Taken s s.pump := by
  simp only [State.pump]
  split
  · split
    · exact release s
    · next f t h => exact (release s).trans ((nextTake h).trans (give t f))
  · exact release s

end Taken

/-- A single incident of an event is recorded as it is offered (R167). -/
theorem State.log_recordOffers_of_one {s : State} {u : IncidentUnit} {o : Offer} (h : s.log.offered = [(u, o)]) :
    s.recordOffers.log = { s.log with offered := [] }.record s.clock o := by
  have alone : (interleave 1 s.freeCount [(u, o)]).1 = [o] := rfl
  simp only [State.recordOffers, h, List.length_singleton, alone, List.foldl_cons, List.foldl_nil]

theorem State.clock_pump (s : State) : s.pump.clock = s.clock := by
  have kept := s.setting_pump
  simp only [State.setting, Prod.mk.injEq] at kept
  exact kept.2.2.2.2.1

/-! ## Founding (R79, R81) -/

theorem State.listenExpires_of_limit {s : State} {n : Nat}
    (hs : s.member.state = .listening ∨ s.member.state = .joining) (hl : s.member.listen = some n) (hn : 8192 ≤ n) :
    s.listenExpires = s.found := by
  have run : reached s.member.listen Config.listenLimit = true := by simp [reached, hl, Config.listenLimit, hn]
  exact if_pos ⟨hs, run⟩

theorem State.log_found (s : State) : s.found.log
    = { s.log with offered := s.log.offered ++ [(.membership, { cls := .founded })] } := rfl

theorem State.entry_of_found {s t : State} (h : t.dir = s.found.dir) (b : Block) :
    t.entry b = DirEntry.founded s.own := by
  rw [State.entry, h]
  exact look_replicate _ b

/-- The log after founding, where nothing was offered before it. -/
theorem State.log_closes_found {s : State} (h : s.log.offered = []) :
    s.found.closes.log = s.log.record s.clock { cls := .founded } := by
  have kept : s.found.pump.log = s.found.log := (Taken.pump _).log
  have clock : s.found.pump.clock = s.clock := s.found.clock_pump
  have offered : s.found.pump.log.offered = [(.membership, { cls := .founded })] := by rw [kept, s.log_found, h]; rfl
  have before : { s.found.pump.log with offered := [] } = s.log := by rw [kept, s.log_found, ← h]
  rw [State.closes, State.log_recordOffers_of_one offered, before, clock]

/-- Settles O32: the founding state, then the end of the event, which takes a frame and numbers FOUNDED. -/
theorem listenTimeoutFounds : Obligations.ListenTimeoutFounds := by
  intro n s hr hs hl hn still
  have founds : s.tickStamp.listenExpires = s.tickStamp.found := State.listenExpires_of_limit (s := s.tickStamp) hs hl hn
  refine ⟨?_, ?_⟩
  · show Host.Outcome.next (s.event State.listenExpires) = _
    rw [State.event_of_resetHigh hr, founds, State.settleEvent_of_still still]
  · have kept : Taken s.tickStamp.found s.tickStamp.found.pump := .pump _
    exact ⟨kept.state, kept.registrar, s.tickStamp.found.window_closes, kept.heartbeat (Option.some_ne_none 0),
      fun empty => State.log_closes_found (s := s.tickStamp) empty, fun p => congrArg (look · p) kept.peers,
      fun b => State.entry_of_found (s := s.tickStamp) kept.dir b⟩

/-! ## The JOIN timer, REJOIN, and what a station without a group hears (R79, R80, R86) -/

theorem State.joinExpires_of_limit {s : State} {n : Nat} (hs : s.member.state = .joining) (hj : s.member.join = some n)
    (hn : 2048 ≤ n) : s.joinExpires = (s.setMember { s.member with join := some 0 }).makeDue .join 0 := by
  have run : reached s.member.join Config.heartbeat = true := by simp [reached, hj, Config.heartbeat, hn]
  exact if_pos ⟨hs, run⟩

/-- COMMAND REJOIN is accepted in DEPARTED and HALTED (R86). -/
theorem State.command_rejoin {s : State} (h : s.member.state = .departed ∨ s.member.state = .halted) (low : Byte) :
    s.command (wordOf 5 low)
      = (s.setPort { s.port with command := wordOf 5 low, result := wordOf 5 1 }).enterListening := by
  have online : s.state ≠ .offline := by
    obtain h | h := h <;> simp [State.state, h]
  have judged : judgeWord 5 low s = (.accepted, State.enterListening) := if_pos h
  simp only [State.command, hiByte_wordOf, loByte_wordOf, if_neg online, judged]
  rfl

/-- Every row of a frame kind is the event of the frame's end (log entry 18). -/
theorem exec_frameRow (k : Kind) (rx : RxFrame) (s : State) : exec (k.row rx) s = .next (s.event (·.frameIn rx)) := by
  cases k <;> rfl

theorem exec_frameRow_delivers {s : State} {l : LaneId} {f : Frame} (h : s.canHear l f = true) (k : Kind) :
    exec (k.row (cleanFrame l f)) s = .next ((s.carried l f.sender).deliver f).settleEvent := by
  have wf : Frame.wellFormed f = true := by
    simp only [State.canHear, Bool.and_eq_true] at h
    exact h.1.1.2
  rw [exec_frameRow, State.event_of_canHear h (readFrame_bytes wf)]

section
variable {s : State} {f : Frame}

theorem State.deliver_listening (hs : s.member.state = .listening) : s.deliver f = s.heard f.payload.kind := by
  simp [State.deliver, State.active, State.state, hs]

theorem State.deliver_joining (hs : s.member.state = .joining) :
    s.deliver f = (s.heard f.payload.kind).deliverJoining f := by
  simp [State.deliver, State.active, State.state, hs]

theorem State.heard_join (s : State) : s.heard .join = s := rfl

theorem State.heard_listening (hs : s.member.state = .listening) {k : Kind} (hk : k ≠ .join) :
    s.heard k = (s.setMember { s.member with state := .joining, listen := some 0, join := some 0 }).makeDue .join 0 := by
  rw [State.heard, if_neg hk, State.state, hs]
  rfl

theorem State.heard_joining (hs : s.member.state = .joining) {k : Kind} (hk : k ≠ .join) :
    s.heard k = s.setMember { s.member with listen := some 0 } := by
  rw [State.heard, if_neg hk, State.state, hs]

/-- In JOINING a frame is delivered that is the ADMIT of this station (R72). -/
theorem State.deliverJoining_other (h : ∀ m, f.payload ≠ .admission s.own m) : s.deliverJoining f = s := by
  unfold State.deliverJoining
  split
  · next j m e => exact if_neg (fun hj => h m (by rw [e, hj]))
  · rfl

theorem Payload.kind_eq_join {p : Payload} : p.kind = .join ↔ p = .join := by
  cases p <;> simp [Payload.kind]

end

/-- Settles O33: the timer's row, the command, and the frame heard by the station state and the frame's kind. -/
theorem joinTimerAndRejoin : Obligations.JoinTimerAndRejoin := by
  refine ⟨?_, ?_, ?_⟩
  · intro n s hr hs hj hn t still
    have expires : s.tickStamp.joinExpires = t := State.joinExpires_of_limit (s := s.tickStamp) hs hj hn
    show Host.Outcome.next (s.event State.joinExpires) = _
    rw [State.event_of_resetHigh hr, expires, State.settleEvent_of_still still]
  · intro low s hp hs t still
    have rejoins : s.tickStamp.command (wordOf 5 low) = t := State.command_rejoin (s := s.tickStamp) hs low
    show Host.Outcome.next (s.portEvent (·.command (wordOf 5 low))) = _
    rw [State.portEvent_of_free hp, rejoins, State.settleEvent_of_still still]
  · intro l f s h row u
    have delivers : exec row s = .next (u.deliver f).settleEvent := exec_frameRow_delivers h _
    have state : u.member.state = s.member.state := s.member_state_carried l f.sender
    have own : u.own = s.member.own := s.member_own_carried l f.sender
    refine ⟨fun hs hf => ?_, fun hs hf ha => ?_, fun hs hf => ?_⟩
    · have hs := state.trans hs
      rw [delivers, State.deliver_listening hs, State.heard_listening hs (fun e => hf (Payload.kind_eq_join.mp e))]
    · have hs := state.trans hs
      rw [delivers, State.deliver_joining hs, State.heard_joining hs (fun e => hf (Payload.kind_eq_join.mp e)),
        State.deliverJoining_other (fun m => own ▸ ha m)]
    · have kind : f.payload.kind = .join := Payload.kind_eq_join.mpr hf
      obtain hs | hs := hs
      · rw [delivers, State.deliver_listening (state.trans hs), kind, State.heard_join]
      · rw [delivers, State.deliver_joining (state.trans hs), kind, State.heard_join,
          State.deliverJoining_other (fun m => by simp [hf])]

end Sys2Proof.Machine
end

section
/-! Teardown: what each unit keeps, and the writes reported as refused or discarded (R21, R25, R38, R39, R84, Table 5-3). -/

namespace Sys2Proof.Machine

/-! ## The incidents of the Write Unit (R25, R38, R39) -/

/-- The incident of a waiting write, if one waits (R25). -/
def State.refusals (s : State) : List (IncidentUnit × Offer) :=
  s.write.waiting.toList.map (fun w =>
    (.write, { cls := .writeRefused, block := some (blockOf w.addr), detail := s.member.state.code }))

/-- The one incident of discarded entries of these blocks, if there are any (R38, R39). -/
def discards (bs : List Block) : List (IncidentUnit × Offer) :=
  if bs = [] then []
  else [(.write, { cls := .writesDiscarded, block := theBlock bs, detail := BitVec.ofNat 16 bs.length })]

theorem State.offered_nothing (s : State) : s.setLog { s.log with offered := s.log.offered ++ [] } = s := by
  rw [List.append_nil]
  rfl

theorem State.refuseWaiting_eq (s : State) : s.refuseWaiting
    = (s.setWrite { s.write with waiting := none }).setLog { s.log with offered := s.log.offered ++ s.refusals } := by
  cases h : s.write.waiting with
  | none =>
    have same : s.setWrite { s.write with waiting := none } = s := by rw [← h]; rfl
    rw [same, State.refusals, h]
    simp only [State.refuseWaiting, h]
    exact s.offered_nothing.symm
  | some w =>
    simp only [State.refuseWaiting, State.refusals, h]
    rfl

theorem State.refuseWaiting_of_none {s : State} (h : s.write.waiting = none) : s.refuseWaiting = s := by
  simp only [State.refuseWaiting, h]

theorem State.offerDiscarded_eq (s : State) (bs : List Block) :
    s.offerDiscarded bs = s.setLog { s.log with offered := s.log.offered ++ discards bs } := by
  unfold State.offerDiscarded discards
  split
  · exact s.offered_nothing.symm
  · rfl

/-- One block is named where all the entries are of it (R38). -/
theorem theBlock_iff {bs : List Block} (hn : bs ≠ []) {b : Block} : theBlock bs = some b ↔ ∀ x ∈ bs, x = b := by
  have members : ∀ x, x ∈ bs.eraseDups ↔ x ∈ bs := fun x => List.mem_eraseDups
  have distinct := nodup_eraseDups bs
  obtain ⟨y, hy⟩ := List.exists_mem_of_ne_nil bs hn
  unfold theBlock
  constructor
  · intro h x hx
    split at h
    · next c one =>
      obtain rfl := Option.some.inj h
      rw [← members, one] at hx
      exact List.mem_singleton.mp hx
    · cases h
  · intro all
    have only : bs.eraseDups = [b] := by
      match he : bs.eraseDups with
      | [] =>
        rw [← members, he] at hy
        cases hy
      | [c] => rw [all c ((members c).mp (by simp [he]))]
      | c :: d :: rest =>
        rw [he] at distinct
        have hc := all c ((members c).mp (by simp [he]))
        have hd := all d ((members d).mp (by simp [he]))
        simp [hc, hd] at distinct
    rw [only]

theorem discards_of_some {bs : List Block} (hn : bs ≠ []) :
    ∃ o, discards bs = [(.write, { cls := .writesDiscarded, block := o, detail := BitVec.ofNat 16 bs.length })]
      ∧ ∀ b, o = some b ↔ ∀ x ∈ bs, x = b :=
  ⟨theBlock bs, if_neg hn, fun _ => theBlock_iff hn⟩

theorem discards_nil : discards [] = [] := rfl

/-! ## Teardown (R84, Table 5-3) -/

/-- The station whose Write Unit has reported what teardown takes from it (log entry 32). -/
def State.reported (s : State) (new : StationState) : State :=
  let u := (s.setMember { s.member with state := new }).refuseWaiting
  u.offerDiscarded u.write.discarded

theorem State.reported_eq (s : State) (new : StationState) : s.reported new
    = ((s.setMember { s.member with state := new }).setWrite { s.write with waiting := none }).setLog { s.log with
      offered := s.log.offered ++ (s.setMember { s.member with state := new }).refusals ++ discards s.write.discarded } := by
  simp only [State.reported, State.offerDiscarded_eq, State.refuseWaiting_eq]
  rfl

/-- Every unit emptied but the lanes: the rows of Table 5-3. -/
def State.emptied (s : State) : State :=
  { s with
    write := WriteUnit.reset
    claim := ClaimUnit.reset
    seq := { SeqUnit.reset with next := s.seq.next }
    member := { s.member with
      peers := Vector.replicate 16 Peer.empty, registrar := 0, listen := none, join := none, urgentStatus := false
      leavePending := false, waitingExcludes := [] }
    copy := CopyUnit.reset
    settle := { SettleUnit.reset with round := s.settle.round }
    audit := { s.audit with timer := none, due := false }
    dir := mapTable DirEntry.tornDown s.dir
    select := { s.select with requests := [], heartbeat := none } }

theorem State.teardown_eq (s : State) (new : StationState) : s.teardown new = (s.reported new).emptied.silence := by
  unfold State.teardown
  extract_lets member entered refused discarded
  have reports : s.reported new = discarded := rfl
  rw [reports]
  clear_value discarded
  obtain ⟨⟩ := discarded
  exact congrArg State.silence rfl

/-- Silence changes the lanes and the current frame (R151, R154). -/
theorem State.silence_eq (s : State) : s.silence
    = { s with laneA := s.quit .A, laneB := (s.setLane .A (s.quit .A)).quit .B
               select := { s.select with current := none, doneA := true, doneB := true } } := rfl

theorem State.quit_lane (s : State) (l : LaneId) : (s.quit l).state = (s.lane l).state
    ∧ (s.quit l).score = (s.lane l).score ∧ (s.quit l).access = .idle := by
  simp only [State.quit]
  split <;> exact ⟨rfl, rfl, rfl⟩

theorem State.lane_silence (s : State) (l : LaneId) : (s.silence.lane l).state = (s.lane l).state
    ∧ (s.silence.lane l).score = (s.lane l).score ∧ (s.silence.lane l).access = .idle := by
  cases l with
  | A => exact s.quit_lane .A
  | B => exact (s.setLane .A (s.quit .A)).quit_lane .B

theorem State.lane_teardown (s : State) (new : StationState) (l : LaneId) :
    ((s.teardown new).lane l).state = (s.lane l).state ∧ ((s.teardown new).lane l).score = (s.lane l).score
      ∧ ((s.teardown new).lane l).access = .idle := by
  have kept : (s.reported new).emptied.lane l = s.lane l := by
    rw [State.reported_eq]
    cases l <;> rfl
  rw [State.teardown_eq, ← kept]
  exact State.lane_silence _ l

theorem State.offered_teardown (s : State) (new : StationState) : (s.teardown new).log.offered
    = s.log.offered ++ (s.setMember { s.member with state := new }).refusals ++ discards s.write.discarded := by
  rw [State.teardown_eq, State.silence_eq, State.reported_eq]
  rfl

/-- Settles O35: each unit by what teardown makes of it, the incidents by what the Write Unit reports. -/
theorem teardownTable : Obligations.TeardownTable := by
  intro new s t
  have units : t = (s.reported new).emptied.silence := s.teardown_eq new
  have lanes := s.lane_teardown new
  have offered : t.log.offered = _ := s.offered_teardown new
  rw [State.silence_eq, State.reported_eq] at units
  clear_value t
  subst units
  refine ⟨rfl, rfl, rfl, fun p => look_replicate _ p, rfl, rfl, rfl, rfl, rfl, fun b => s.entry_torn b, rfl, rfl, rfl, rfl,
    rfl, rfl, ?_, ?_⟩
  · rwa [State.teardown_eq, State.silence_eq, State.reported_eq] at lanes
  · intro refused gone
    have hrefused : (s.setMember { s.member with state := new }).refusals = refused := by
      show s.write.waiting.toList.map _ = refused
      cases h : s.write.waiting <;> simp only [refused, h] <;> rfl
    have hgone : s.write.discarded = gone := rfl
    rw [offered, hrefused, hgone]
    refine ⟨fun none => ?_, fun some => ?_⟩
    · rw [none, discards_nil, List.append_nil]
    · obtain ⟨o, one, named⟩ := discards_of_some some
      exact ⟨o, by rw [one], named⟩

end Sys2Proof.Machine
end

section
/-! A good frame judged step by step, number clash, and the collision of two groups (R85, R99, R161, R163 to R165). -/

namespace Sys2Proof.Machine

/-! ## The lowest station with a property -/

/-- In a rising list the first item with a property is the lowest one. -/
theorem find?_eq_some_of_rising {f : Station → Bool} {xs : List Station} (h : xs.Pairwise (· < ·)) {p : Station} :
    xs.find? f = some p ↔ p ∈ xs ∧ f p = true ∧ ∀ y ∈ xs, f y = true → p ≤ y := by
  induction xs with
  | nil => simp
  | cons x xs ih =>
    obtain ⟨first, rest⟩ := List.pairwise_cons.mp h
    by_cases hx : f x = true
    · rw [List.find?_cons_of_pos hx, Option.some_inj]
      constructor
      · rintro rfl
        refine ⟨List.mem_cons_self, hx, fun y hy _ => ?_⟩
        obtain rfl | hy := List.mem_cons.mp hy
        · exact Nat.le_refl _
        · exact Nat.le_of_lt (first y hy)
      · rintro ⟨hp, -, low⟩
        obtain rfl | hp := List.mem_cons.mp hp
        · rfl
        · exact absurd (low x List.mem_cons_self hx) (Nat.not_le.mpr (first p hp))
    · rw [List.find?_cons_of_neg hx, ih rest]
      constructor
      · rintro ⟨hp, hf, low⟩
        refine ⟨List.mem_cons_of_mem x hp, hf, fun y hy hfy => ?_⟩
        obtain rfl | hy := List.mem_cons.mp hy
        · exact absurd hfy hx
        · exact low y hy hfy
      · rintro ⟨hp, hf, low⟩
        obtain rfl | hp := List.mem_cons.mp hp
        · exact absurd hf hx
        · exact ⟨hp, hf, fun y hy => low y (List.mem_cons_of_mem x hy)⟩

theorem stations_find?_eq_some {f : Station → Bool} {p : Station} :
    stations.find? f = some p ↔ p ≠ 0 ∧ f p = true ∧ ∀ y, y ≠ 0 → f y = true → p ≤ y := by
  rw [find?_eq_some_of_rising (by decide)]
  simp only [mem_stations]

theorem stations_find?_eq_none {f : Station → Bool} : stations.find? f = none ↔ ∀ p, p ≠ 0 → f p = false := by
  simp [List.find?_eq_none, mem_stations]

theorem maskLowest_eq {m : StationMask} {p : Station} (h0 : p ≠ 0) (hp : maskHas m p = true)
    (low : ∀ y, y ≠ 0 → maskHas m y = true → p ≤ y) : maskLowest m = p := by
  rw [maskLowest, stations_find?_eq_some.mpr ⟨h0, hp, low⟩]
  rfl

/-! ## Two groups (R99) -/

theorem dissolves_iff (mine theirs : StationMask) : dissolves mine theirs = true ↔
    (maskLowest theirs).val < (maskLowest mine).val ∨ ((maskLowest mine).val = (maskLowest theirs).val
      ∧ (maskCount mine < maskCount theirs ∨ (maskCount mine = maskCount theirs ∧ mine.toNat < theirs.toNat))) := by
  simp [dissolves]

theorem not_dissolves_iff (mine theirs : StationMask) : dissolves mine theirs = false ↔
    ¬ ((maskLowest theirs).val < (maskLowest mine).val ∨ ((maskLowest mine).val = (maskLowest theirs).val
      ∧ (maskCount mine < maskCount theirs ∨ (maskCount mine = maskCount theirs ∧ mine.toNat < theirs.toNat)))) := by
  rw [← dissolves_iff, Bool.not_eq_true]

/-- The tests of R99 order the masks: of two different ones the groups dissolve one way. -/
theorem dissolves_other {a b : StationMask} (h : a ≠ b) : dissolves a b = !dissolves b a := by
  have differ : a.toNat ≠ b.toNat := fun e => h (BitVec.eq_of_toNat_eq e)
  rw [Bool.eq_not]
  cases hab : dissolves a b <;> cases hba : dissolves b a <;> simp only [ne_eq, not_true, reduceCtorEq, not_false_eq_true]
  · rw [not_dissolves_iff] at hab hba
    omega
  · rw [dissolves_iff] at hab hba
    omega

theorem State.membershipMask_carried (s : State) (l : LaneId) (p : Station) :
    (s.carried l p).membershipMask = s.membershipMask := by
  simp [State.membershipMask]

/-- The row of a STATUS heard from a station that is no member is the event of the collision test. -/
theorem exec_foreignStatus {l : LaneId} {p : Station} {q next : SeqNo} {shown : MemberState} {mask known : StationMask}
    {receipts : List Byte} {welcome : List (Station × SeqNo)} {s : State}
    (h : s.hearsFrame l ⟨p, 0, q, .status shown mask next known receipts welcome⟩ = true)
    (hm : (s.peer p).state.member = false) :
    exec (.statusReceived (cleanFrame l ⟨p, 0, q, .status shown mask next known receipts welcome⟩)) s
      = .next ((s.carried l p).foreignStatus shown mask).settleEvent := by
  have stranger : (s.carried l p).isMember p = false := by rw [State.isMember_carried]; exact hm
  have judged : (s.carried l p).deliverActive ⟨p, 0, q, .status shown mask next known receipts welcome⟩
      = (s.carried l p).foreignStatus shown mask := by simp [State.deliverActive, stranger]
  rw [← judged]
  exact congrArg Host.Outcome.next (State.event_of_hearing h)

/-! ## The end of a good frame (R143 to R145) -/

theorem State.setLane_setLane (s : State) (l : LaneId) (x y : Lane) : (s.setLane l x).setLane l y = s.setLane l y := by
  cases l <;> rfl

theorem State.lane_tickStamp (s : State) (l : LaneId) : s.tickStamp.lane l = s.lane l := by
  cases l <;> rfl

/-- A good frame on an UP lane whose score stays below 64 is weighed and judged (R145, R161). -/
theorem State.goodFrame_of_below {s : State} {l : LaneId} {g : FrameBuffer} (hs : s.state ≠ .offline)
    (hc : (s.lane l).score < 64) : s.goodFrame l g = (s.setLane l { s.lane l with
      score := (s.lane l).score + (if g.noisy then 1 else 0) - 1 }).judgeFrame l (rawFrame g.chars) := by
  have bound : (s.lane l).score + frameNoise g - 1 < 64 := by
    unfold frameNoise
    split <;> omega
  have score : addScore (s.lane l).score (frameNoise g) 1 = (s.lane l).score + frameNoise g - 1 := by
    simp only [addScore, Config.scoreLimit]
    omega
  have below : ¬ (s.lane l).score + frameNoise g - 1 = Config.scoreLimit := by
    simp only [Config.scoreLimit]
    omega
  have weighed : s.weigh l (frameNoise g) 1
      = s.setLane l { s.lane l with score := (s.lane l).score + frameNoise g - 1 } := by
    simp only [State.weigh, score, below, decide_false, Bool.and_false, Bool.false_eq_true, if_false]
  have online : (s.setLane l { s.lane l with score := (s.lane l).score + frameNoise g - 1 }).state ≠ .offline := by
    rw [State.state, State.member_setLane]
    exact hs
  simp only [State.goodFrame, weighed, if_neg online]
  rfl

theorem FrameBuffer.count_of_verdict {g : FrameBuffer} (h : g.verdict = none) : 6 ≤ g.count := by
  by_contra short
  have bad : g.fault = true ∨ g.count > Config.frameMax ∨ g.count < Config.frameMin
      ∨ g.count ≠ (g.chars.getD 3 0).toNat + 6 := Or.inr (Or.inr (Or.inl (Nat.not_le.mp short)))
  rw [FrameBuffer.verdict, if_pos bad] at h
  split at h <;> cases h

/-- The event of a row that brings a good frame whole to an UP lane that awaits one. -/
theorem State.frameIn_of_good {s : State} {rx : RxFrame} (hs : s.member.state ≠ .offline) (hu : s.laneUp rx.lane = true)
    (hh : (s.lane rx.lane).hears = true) (ha : (s.lane rx.lane).awaitsFrame = true) (hc : (s.lane rx.lane).score < 64)
    (hv : rx.buffer.verdict = none) :
    s.frameIn rx = (s.setLane rx.lane { s.lane rx.lane with
      score := (s.lane rx.lane).score + (if rx.buffer.noisy then 1 else 0) - 1
      idle := 2, spaceRun := 0, buffer := FrameBuffer.empty
      line := (s.lane rx.lane).line ++ rx.line }).judgeFrame rx.lane (rawFrame rx.buffer.chars) := by
  have count : 0 < rx.buffer.count := Nat.lt_of_lt_of_le (by decide) (FrameBuffer.count_of_verdict hv)
  have run : (s.lane rx.lane).spaceRun = 0 := by
    simp only [Lane.awaitsFrame, Bool.and_eq_true, decide_eq_true_eq] at ha
    exact ha.2
  generalize hl : s.lane rx.lane = lane at *
  obtain ⟨rl, chars, line⟩ := rx
  dsimp only at *
  set told : Lane := { lane with line := lane.line ++ line } with htold
  have heard : told.hearAll chars = { told with buffer := RxFrame.buffer ⟨rl, chars, line⟩, idle := Config.frameEnd } :=
    Lane.hearAll_of_awaits (lane := told) (rx := ⟨rl, chars, line⟩) ha count
  have brought : s.bring rl line = s.setLane rl told := by rw [State.bring, hl]
  set ended : State := s.setLane rl { told with idle := 2, buffer := FrameBuffer.empty } with hended
  have up : ended.laneUp rl = true := by
    rw [State.laneUp, hended, State.lane_setLane_same]
    rwa [State.laneUp, hl] at hu
  have online : ended.state ≠ .offline := by
    rw [State.state, hended, State.member_setLane]
    exact hs
  have score : (ended.lane rl).score < 64 := by
    rw [hended, State.lane_setLane_same]
    exact hc
  have judged : s.frameIn ⟨rl, chars, line⟩ = ended.goodFrame rl (RxFrame.buffer ⟨rl, chars, line⟩) := by
    have hears : told.hears = true := hh
    simp only [State.frameIn, brought, State.lane_setLane_same, hears, if_true, heard, count, true_and, Nat.le_refl,
      State.frameEnds, State.setLane_setLane, State.judgeBuffer, hv]
    exact if_pos up
  rw [judged, State.goodFrame_of_below online score, hended, State.lane_setLane_same, State.setLane_setLane]
  refine congrArg (fun x : Lane => (s.setLane rl x).judgeFrame rl _) ?_
  rw [htold, ← run]

/-! ## The steps of R161 -/

section
variable {s : State} {l : LaneId} {r : RawFrame}

theorem State.judgeFrame_clash (h0 : r.sender ≠ 0) (ho : r.sender = s.own) :
    s.judgeFrame l r = if s.state = .halted then s else s.clash l r.kind := by
  rw [State.judgeFrame, if_neg h0, if_pos ho]

theorem State.judgeFrame_other (h0 : r.sender ≠ 0) (ho : r.sender ≠ s.own) (hk : Kind.ofCode r.kind = none) :
    s.judgeFrame l r = (s.hear r.sender).malformed l r := by
  simp only [State.judgeFrame, if_neg h0, if_neg ho, hk]

theorem State.judgeFrame_kind (h0 : r.sender ≠ 0) (ho : r.sender ≠ s.own) {k : Kind}
    (hk : Kind.ofCode r.kind = some k) : s.judgeFrame l r = (s.hear r.sender).judgeKind l r k := by
  simp only [State.judgeFrame, if_neg h0, if_neg ho, hk]

theorem State.judgeKind_class {k : Kind} (h : k.toOne ≠ decide (r.target ≠ 0)) :
    s.judgeKind l r k = s.malformed l r := if_pos h

theorem State.judgeKind_elsewhere {k : Kind} (hk : k.toOne = true) (h0 : r.target ≠ 0) (ho : r.target ≠ s.own) :
    s.judgeKind l r k = s.heard k := by
  rw [State.judgeKind, if_neg (by simp [hk, h0]), if_pos ⟨hk, ho⟩]

theorem State.judgeKind_here {k : Kind} (hk : k.toOne = decide (r.target ≠ 0)) (ho : r.target = 0 ∨ r.target = s.own) :
    (readPayload k r.sender r.payload = none → s.judgeKind l r k = s.malformed l r)
      ∧ ∀ x, readPayload k r.sender r.payload = some x → s.judgeKind l r k = s.deliver ⟨r.sender, r.target, r.seq, x⟩ := by
  have here : ¬ (k.toOne = true ∧ r.target ≠ s.own) := by
    rintro ⟨one, other⟩
    obtain h0 | h := ho
    · simp [hk, h0] at one
    · exact other h
  constructor
  · intro hp
    simp only [State.judgeKind, ne_eq, hk, not_true, if_false, if_neg (hk ▸ here), hp]
  · intro x hp
    simp only [State.judgeKind, ne_eq, hk, not_true, if_false, if_neg (hk ▸ here), hp]

/-- Outside a group, and with none to find, a frame does nothing (R164, R165). -/
theorem State.deaf (hs : s.member.state ∈ [StationState.departed, .halted, .isolated]) (k : Kind) (f : Frame) :
    s.heard k = s ∧ s.deliver f = s := by
  have silent : ∀ k, s.heard k = s := by
    intro k
    simp only [List.mem_cons, List.not_mem_nil, or_false] at hs
    unfold State.heard State.state
    obtain hs | hs | hs := hs <;> simp [hs]
  have passive : s.active = false := by
    simp only [List.mem_cons, List.not_mem_nil, or_false] at hs
    unfold State.active State.state
    obtain hs | hs | hs := hs <;> simp [hs]
  have searching : ¬ s.state = .joining := by
    rw [State.state]
    rintro h
    simp [h] at hs
  exact ⟨silent k, by simp [State.deliver, passive, searching, silent]⟩

end

/-- Settles O60: the steps of R161 in their order, R99's tests on two masks, and what a frame's end makes of its lane. -/
theorem groupConflicts : Obligations.GroupConflicts := by
  refine ⟨?_, ?_, fun a b hne _ _ => dissolves_other hne, ?_, ?_, ?_, fun k f s hs => State.deaf hs k f⟩
  · intro l r s h0 ho
    have judged : s.judgeFrame l r = if s.state = .halted then s else s.clash l r.kind := State.judgeFrame_clash h0 ho
    exact ⟨fun hs => judged.trans (if_pos hs), fun hs => judged.trans (if_neg hs)⟩
  · intro mine theirs p q lowest size hp hq
    obtain ⟨hp0, hpm, hpl⟩ := hp
    obtain ⟨hq0, hqm, hql⟩ := hq
    have yes := dissolves_iff mine theirs
    have no := not_dissolves_iff mine theirs
    rw [maskLowest_eq hp0 hpm hpl, maskLowest_eq hq0 hqm hql] at yes no
    have counts : ∀ m, size m = maskCount m := fun _ => rfl
    simp only [counts]
    refine ⟨fun h => yes.mpr (Or.inl h), fun h => no.mpr ?_, fun e h => yes.mpr (Or.inr ⟨congrArg Fin.val e, Or.inl h⟩),
      fun e h => no.mpr ?_, fun e h => Bool.eq_iff_iff.mpr ?_⟩
    · have h : p.val < q.val := h
      omega
    · have e : p.val = q.val := congrArg Fin.val e
      omega
    · have e : p.val = q.val := congrArg Fin.val e
      rw [yes, decide_eq_true_eq]
      omega
  · intro l p shown mask known next q receipts welcome s f loses h hm
    have row := exec_foreignStatus h hm
    have test : ((s.carried l p).foreignStatus shown mask) = if loses then ((s.carried l p).offer
        { cls := .groupDissolved, peer := some (maskLowest mask) }).isolate else s.carried l p := by
      rw [State.foreignStatus, State.membershipMask_carried, State.own_carried]
      rfl
    exact ⟨fun hl => by rw [row, test, if_pos hl], fun hl => by rw [row, test, if_neg hl]⟩
  · intro k rx s hr hs hu hh ha hc hv
    rw [exec_frameRow, State.event_of_resetHigh hr]
    have lane := s.lane_tickStamp rx.lane
    rw [State.frameIn_of_good (s := s.tickStamp) hs (by rwa [State.laneUp, lane]) (by rwa [lane]) (by rwa [lane])
      (by rwa [lane]) hv, lane]
  · intro l r s bad u
    have hears : s.hear r.sender = u := rfl
    refine ⟨fun h0 => if_pos h0, fun h0 ho => ⟨fun hk => ?_, fun k hk => ?_⟩⟩
    · rw [State.judgeFrame_other h0 ho hk, hears]
      rfl
    · have own : u.own = s.member.own := s.own_hear r.sender
      rw [State.judgeFrame_kind h0 ho hk, hears]
      refine ⟨State.judgeKind_class, fun one h0 other => State.judgeKind_elsewhere one h0 (own ▸ other),
        fun class_ here => ?_⟩
      exact State.judgeKind_here class_ (own ▸ here)

end Sys2Proof.Machine
end

section
/-! What a change of the peer table tells the units: the registrar, the claim slots, the settle job, the fetch slots and their requests (R42, R44, R49, R91, R105, R109, R112, R129). -/

namespace Sys2Proof.Machine

/-! ## Waiting requests (R57, R115, R153) -/

theorem State.mem_withdraw {s : State} {k : RequestKey} {r : Request} :
    r ∈ (s.withdraw k).select.requests ↔ r ∈ s.select.requests ∧ Payload.key r.payload ≠ k := by
  simp [State.withdraw]

theorem State.mem_makeDue {s : State} {p : Payload} {x : Station} {r : Request} :
    r ∈ (s.makeDue p x).select.requests
      ↔ (r ∈ s.select.requests ∧ Payload.key r.payload ≠ Payload.key p) ∨ r = ⟨p, x, s.stamp⟩ := by
  show r ∈ (s.withdraw (Payload.key p)).select.requests ++ [⟨p, x, s.stamp⟩] ↔ _
  rw [List.mem_append, State.mem_withdraw, List.mem_singleton]

theorem Payload.key_eq_query {p : Payload} : Payload.key p = .query ↔ p.kind = .query := by
  cases p <;> simp [Payload.key, Payload.kind]

/-! ## Claim slots (R42, R44) -/

/-- From s on, only claim slots and waiting CLAIMs have changed. -/
structure ClaimsMoved (s t : State) : Prop where
  same : ∃ slots requests, t = (s.setClaim { s.claim with slots := slots }).setSelect { s.select with requests := requests }
  others : ∀ r : Request, (∀ b, Payload.key r.payload ≠ .claim b) → (r ∈ t.select.requests ↔ r ∈ s.select.requests)

namespace ClaimsMoved

theorem refl (s : State) : ClaimsMoved s s := ⟨⟨s.claim.slots, s.select.requests, rfl⟩, fun _ _ => Iff.rfl⟩

theorem trans {s t u : State} (h : ClaimsMoved s t) (k : ClaimsMoved t u) : ClaimsMoved s u := by
  refine ⟨?_, fun r hr => (k.others r hr).trans (h.others r hr)⟩
  obtain ⟨_, _, rfl⟩ := h.same
  obtain ⟨slots, requests, rfl⟩ := k.same
  exact ⟨slots, requests, rfl⟩

theorem sendClaim (s : State) (b : Block) : ClaimsMoved s (s.sendClaim b) := by
  cases h : s.claimSlot b with
  | none => rw [State.sendClaim_of_none h]; exact refl s
  | some c =>
    rw [State.sendClaim_of_some h]
    split
    · refine ⟨⟨_, _, rfl⟩, fun r hr => ?_⟩
      rw [State.mem_withdraw]
      exact and_iff_left (hr b)
    · refine ⟨⟨_, _, rfl⟩, fun r hr => ?_⟩
      rw [State.mem_makeDue]
      constructor
      · rintro (⟨waits, -⟩ | rfl)
        · exact waits
        · exact absurd rfl (hr b)
      · exact fun waits => Or.inl ⟨waits, hr b⟩

theorem retargetClaims (s : State) (bs : List Block) : ClaimsMoved s (s.retargetClaims bs) := by
  induction bs generalizing s with
  | nil => exact refl s
  | cons b bs ih => exact (sendClaim s b).trans (ih _)

section
variable {s t : State} (h : ClaimsMoved s t)
include h

theorem member : t.member = s.member := by obtain ⟨_, _, rfl⟩ := h.same; rfl
theorem dir : t.dir = s.dir := by obtain ⟨_, _, rfl⟩ := h.same; rfl
theorem copy : t.copy = s.copy := by obtain ⟨_, _, rfl⟩ := h.same; rfl
theorem settle : t.settle = s.settle := by obtain ⟨_, _, rfl⟩ := h.same; rfl
theorem list : t.claim.list = s.claim.list := by obtain ⟨_, _, rfl⟩ := h.same; rfl
theorem orphan (b : Block) : t.orphan b = s.orphan b := by obtain ⟨_, _, rfl⟩ := h.same; rfl
theorem claimTarget (b : Block) : t.claimTarget b = s.claimTarget b := by obtain ⟨_, _, rfl⟩ := h.same; rfl
theorem own : t.own = s.own := by obtain ⟨_, _, rfl⟩ := h.same; rfl

end

end ClaimsMoved

/-- A claim slot as its retarget leaves it: its target computed afresh, its timer at 0 where there is one to ask (R42, R44). -/
def State.aimed (s : State) (c : ClaimSlot) : ClaimSlot :=
  { c with
    target := s.claimTarget c.block
    timer := if s.claimTarget c.block = s.own ∨ s.claimTarget c.block = 0 then none else some 0 }

theorem State.claimSlot_setClaimSlot_other (s : State) {b d : Block} (hd : d ≠ b) {x : ClaimSlot} (hx : x.block = b) :
    (s.setClaimSlot b x).claimSlot d = s.claimSlot d := by
  have looks : (fun y : ClaimSlot => decide (y.block = d)) ∘ (fun y => if y.block = b then x else y)
      = fun y => decide (y.block = d) := by
    funext y
    by_cases hy : y.block = b
    · simp [hy, hx]
    · simp [hy]
  rw [State.claimSlot, State.setClaimSlot, State.claim_setClaim, List.find?_map, looks]
  cases h : s.claimSlot d with
  | none =>
    rw [State.claimSlot] at h
    rw [h]
    rfl
  | some c =>
    have block : c.block ≠ b := fun e => hd ((State.block_of_claimSlot h).symm.trans e)
    rw [State.claimSlot] at h
    rw [h, Option.map_some, if_neg block]

theorem State.claimSlot_sendClaim_other (s : State) {b d : Block} (hd : d ≠ b) :
    (s.sendClaim b).claimSlot d = s.claimSlot d := by
  cases h : s.claimSlot b with
  | none => rw [State.sendClaim_of_none h]
  | some c =>
    have block := State.block_of_claimSlot h
    rw [State.sendClaim_of_some h]
    split <;> exact s.claimSlot_setClaimSlot_other hd block

theorem State.claimSlot_sendClaim_same {s : State} {b : Block} {c : ClaimSlot} (h : s.claimSlot b = some c) :
    (s.sendClaim b).claimSlot b = some (s.aimed c) := by
  obtain rfl := State.block_of_claimSlot h
  rw [State.sendClaim_of_some h, State.aimed]
  split
  · exact State.claimSlot_setClaimSlot (x := { c with target := s.claimTarget c.block, timer := none }) rfl h
  · exact State.claimSlot_setClaimSlot (x := { c with target := s.claimTarget c.block, timer := some 0 }) rfl h

/-- The slot of a block that is among those retargeted is aimed afresh, and stays so however often it is (R44). -/
theorem State.claimSlot_retargetClaims {s : State} {b : Block} {c : ClaimSlot} (h : s.claimSlot b = some c)
    (bs : List Block) :
    (s.retargetClaims bs).claimSlot b = some (if b ∈ bs then s.aimed c else c) := by
  induction bs generalizing s c with
  | nil => simpa [State.retargetClaims] using h
  | cons d bs ih =>
    have moved := ClaimsMoved.sendClaim s d
    have aims : ∀ x, (s.sendClaim d).aimed x = s.aimed x := by
      intro x
      simp only [State.aimed, moved.claimTarget, moved.own]
    show ((s.sendClaim d).retargetClaims bs).claimSlot b = _
    by_cases hd : b = d
    · subst hd
      rw [ih (State.claimSlot_sendClaim_same h), aims]
      have again : s.aimed (s.aimed c) = s.aimed c := rfl
      simp [again]
    · rw [ih ((s.claimSlot_sendClaim_other hd).trans h), aims]
      simp [hd]

end Sys2Proof.Machine
end

section
/-! The registrar computed afresh, the settle job that ends, the fetch slots retargeted, and all of it as a change of a peer's state brings it (R83, R91, R105, R109, R112, R129). -/

namespace Sys2Proof.Machine

/-! ## The registrar (R91) -/

/-- This station is registrar by what it holds and not by its tables (R42, R49). -/
def State.losesRole (s : State) : Prop := s.isRegistrar = true ∧ s.computeRegistrar ≠ s.own

/-- A CATCHUP station with parts missing whose tables give another registrar, if one (R105). -/
def State.asksAnew (s : State) : Prop :=
  s.state = .catchup ∧ s.computeRegistrar ≠ s.member.registrar ∧ s.copy.missing ≠ 0 ∧ s.computeRegistrar ≠ 0

theorem State.isRegistrar_registered {s : State} :
    s.registered.isRegistrar = true ↔ s.own ≠ 0 ∧ s.computeRegistrar = s.own := State.isRegistrar_iff

/-- What a fresh registrar leaves: claim slots, the claims for orphans, the SNAPQ and its timer, and requests. -/
structure RegistrarTaken (s t : State) : Prop where
  same : ∃ claim snapq requests, t = (((s.registered.setClaim claim).setCopyUnit { s.copy with snapq := snapq }).setSelect
    { s.select with requests := requests })
  list : ∀ x, x ∈ t.claim.list ↔ x ∈ s.claim.list ∧ ¬ (s.losesRole ∧ s.orphan x.1 = true)
  asked : s.asksAnew → t.copy.snapq = some 0 ∧ ∀ r : Request, (∀ b, Payload.key r.payload ≠ .claim b) →
    (r ∈ t.select.requests ↔ (r ∈ s.select.requests ∧ Payload.key r.payload ≠ .snapq)
      ∨ r = ⟨.snapq s.copy.missing, s.computeRegistrar, s.stamp⟩)
  unasked : ¬ s.asksAnew → t.copy.snapq = s.copy.snapq ∧ ∀ r : Request, (∀ b, Payload.key r.payload ≠ .claim b) →
    (r ∈ t.select.requests ↔ r ∈ s.select.requests)

theorem State.takeRegistrar_same {s : State} (h : s.computeRegistrar = s.member.registrar) : s.takeRegistrar = s :=
  if_pos h

theorem State.registered_same {s : State} (h : s.computeRegistrar = s.member.registrar) : s.registered = s := by
  rw [State.registered, h]
  rfl

/-- The blocks whose claim slots a change of registrar retargets (R42, R44). -/
def State.roleBlocks (s : State) : List Block :=
  let lost := s.isRegistrar && !s.registered.isRegistrar
  (s.claim.slots.filter (fun c => s.registered.orphan c.block || lost && c.timer.isNone)).map ClaimSlot.block

/-- Those slots retargeted, and the claims for orphans dropped where the role is lost. -/
def State.roleTaken (s : State) : State :=
  let t := s.registered.retargetClaims s.roleBlocks
  if s.isRegistrar && !s.registered.isRegistrar then t.dropOrphanClaims else t

theorem State.takeRegistrar_changed {s : State} (h : s.computeRegistrar ≠ s.member.registrar) : s.takeRegistrar
    = if s.roleTaken.state = .catchup ∧ s.roleTaken.copy.missing ≠ 0 ∧ s.computeRegistrar ≠ 0 then s.roleTaken.sendSnapq
      else s.roleTaken := if_neg h

theorem State.losesRole_iff {s : State} : (s.isRegistrar && !s.registered.isRegistrar) = true ↔ s.losesRole := by
  rw [Bool.and_eq_true, Bool.not_eq_true', ← Bool.not_eq_true, State.isRegistrar_registered, State.losesRole]
  refine and_congr_right (fun role => ?_)
  simp [(State.isRegistrar_iff.mp role).1]

/-- From s with its new registrar on, claim slots and waiting CLAIMs have changed, and the claims for orphans are gone where
the role is lost. -/
theorem State.roleTaken_moves (s : State) : ∃ t, ClaimsMoved s.registered t
    ∧ ((s.losesRole ∧ s.roleTaken = t.dropOrphanClaims) ∨ (¬ s.losesRole ∧ s.roleTaken = t)) := by
  refine ⟨_, ClaimsMoved.retargetClaims s.registered s.roleBlocks, ?_⟩
  by_cases hl : s.losesRole
  · exact Or.inl ⟨hl, if_pos (State.losesRole_iff.mpr hl)⟩
  · exact Or.inr ⟨hl, if_neg (fun h => hl (State.losesRole_iff.mp h))⟩

theorem State.roleTaken_same (s : State) : ∃ claim requests,
    s.roleTaken = (s.registered.setClaim claim).setSelect { s.select with requests := requests } := by
  obtain ⟨t, moved, ⟨-, e⟩ | ⟨-, e⟩⟩ := s.roleTaken_moves
  all_goals
    obtain ⟨slots, requests, rfl⟩ := moved.same
    exact ⟨_, requests, e⟩

theorem State.requests_roleTaken (s : State) (r : Request) (hr : ∀ b, Payload.key r.payload ≠ .claim b) :
    r ∈ s.roleTaken.select.requests ↔ r ∈ s.select.requests := by
  obtain ⟨t, moved, ⟨-, e⟩ | ⟨-, e⟩⟩ := s.roleTaken_moves <;> rw [e] <;> exact moved.others r hr

theorem State.list_roleTaken (s : State) (x : Block × Station) :
    x ∈ s.roleTaken.claim.list ↔ x ∈ s.claim.list ∧ ¬ (s.losesRole ∧ s.orphan x.1 = true) := by
  obtain ⟨t, moved, ⟨lost, e⟩ | ⟨kept, e⟩⟩ := s.roleTaken_moves
  · have orphans : ∀ b, t.orphan b = s.orphan b := moved.orphan
    have list : t.claim.list = s.claim.list := moved.list
    rw [e]
    simp [State.dropOrphanClaims, list, orphans, lost]
  · have list : t.claim.list = s.claim.list := moved.list
    rw [e, list]
    simp [kept]

theorem RegistrarTaken.of_takeRegistrar (s : State) : RegistrarTaken s s.takeRegistrar := by
  by_cases h : s.computeRegistrar = s.member.registrar
  · have keeps : ¬ s.losesRole := fun hl => hl.2 (h.trans (State.isRegistrar_iff.mp hl.1).2)
    rw [State.takeRegistrar_same h]
    refine ⟨⟨s.claim, s.copy.snapq, s.select.requests, ?_⟩, fun x => ?_, fun ha => absurd h ha.2.1, fun _ => ⟨rfl, ?_⟩⟩
    · rw [State.registered_same h]
      rfl
    · simp [keeps]
    · exact fun r _ => Iff.rfl
  · obtain ⟨claim, requests, same⟩ := s.roleTaken_same
    have asks : (s.roleTaken.state = .catchup ∧ s.roleTaken.copy.missing ≠ 0 ∧ s.computeRegistrar ≠ 0) ↔ s.asksAnew := by
      rw [same]
      exact ⟨fun ⟨a, b, c⟩ => ⟨a, h, b, c⟩, fun ⟨a, _, b, c⟩ => ⟨a, b, c⟩⟩
    rw [State.takeRegistrar_changed h]
    by_cases ha : s.asksAnew
    · rw [if_pos (asks.mpr ha)]
      refine ⟨?_, s.list_roleTaken, fun _ => ⟨rfl, fun r hr => ?_⟩, fun hn => absurd ha hn⟩
      · rw [same]
        exact ⟨claim, some 0, _, rfl⟩
      · have due : r ∈ s.roleTaken.sendSnapq.select.requests
            ↔ (r ∈ s.roleTaken.select.requests ∧ Payload.key r.payload ≠ .snapq)
              ∨ r = ⟨.snapq s.roleTaken.copy.missing, s.roleTaken.member.registrar, s.roleTaken.stamp⟩ :=
          State.mem_makeDue (s := s.roleTaken.setCopyUnit { s.roleTaken.copy with snapq := some 0 })
        rw [due, s.requests_roleTaken r hr, same]
        rfl
    · rw [if_neg (fun hc => ha (asks.mp hc))]
      refine ⟨?_, s.list_roleTaken, fun hc => absurd hc ha, fun _ => ⟨?_, s.requests_roleTaken⟩⟩
      · rw [same]
        exact ⟨claim, s.copy.snapq, requests, rfl⟩
      · rw [same]
        rfl

/-! ## The settle job (R129) -/

/-- The station may hold a settle job (R129). -/
def State.holdsJob (s : State) : Prop := s.state = .live ∧ s.isRegistrar = true

theorem State.checkJob_kept {s : State} (h : s.settle.job = .idle ∨ s.holdsJob) : s.checkJob = s := by
  refine if_neg ?_
  rintro ⟨busy, barred⟩
  exact h.elim busy barred

theorem State.checkJob_over {s : State} (hj : s.settle.job ≠ .idle) (h : ¬ s.holdsJob) : s.checkJob = s.clearJob :=
  if_pos ⟨hj, h⟩

/-! ## Fetch sources (R109, Table 6-2) -/

theorem State.usable_iff {s : State} {p : Station} : s.usable p = true ↔
    p ≠ 0 ∧ p ≠ s.own ∧ ((s.peer p).state = .live ∨ (s.peer p).state = .leaving) := by
  simp [State.usable, and_assoc]

theorem State.lowestLive_usable (s : State) (o : Station) : s.lowestLive o = 0 ∨ s.usable (s.lowestLive o) = true := by
  unfold State.lowestLive
  cases h : stations.find? (fun p => p ≠ s.own && p ≠ o && (s.peer p).state = .live) with
  | none => exact Or.inl rfl
  | some p =>
    obtain ⟨h0, hp, -⟩ := stations_find?_eq_some.mp h
    simp only [ne_eq, Bool.and_eq_true, decide_eq_true_eq] at hp
    exact Or.inr (State.usable_iff.mpr ⟨h0, hp.1.1, Or.inl hp.2⟩)

/-- A computed source is none or usable. -/
theorem State.fetchSource_usable (s : State) (b : Block) (n : Nat) :
    s.fetchSource b n = 0 ∨ s.usable (s.fetchSource b n) = true := by
  have lowest := s.lowestLive_usable (s.entry b).owner
  have owner : (if s.usable (s.entry b).owner then (s.entry b).owner else s.lowestLive (s.entry b).owner) = 0
      ∨ s.usable (if s.usable (s.entry b).owner then (s.entry b).owner else s.lowestLive (s.entry b).owner) = true := by
    split
    · next h => exact Or.inr h
    · exact lowest
  have late : ∀ x, x = (if s.lowestLive (s.entry b).owner ≠ 0 then s.lowestLive (s.entry b).owner
      else if s.usable (s.entry b).owner then (s.entry b).owner else 0) → x = 0 ∨ s.usable x = true := by
    rintro _ rfl
    split
    · exact lowest
    · split
      · next h => exact Or.inr h
      · exact Or.inl rfl
  simp only [State.fetchSource]
  split
  · split
    · next h =>
      split
      · exact Or.inr h
      · exact owner
    · split
      · exact owner
      · exact late _ rfl
  · split
    · exact owner
    · exact late _ rfl

section
variable {s t : State} (peers : t.member.peers = s.member.peers) (own : t.member.own = s.member.own)
include peers own

theorem State.usable_congr (p : Station) : t.usable p = s.usable p := by
  simp only [State.usable, State.peer, State.own, peers, own]
  rfl

theorem State.lowestLive_congr (o : Station) : t.lowestLive o = s.lowestLive o := by
  simp only [State.lowestLive, State.peer, State.own, peers, own]
  rfl

/-- A source rests on the peers, and on the owner and the donor of its block (Table 6-2). -/
theorem State.fetchSource_congr {b : Block} (owner : (t.entry b).owner = (s.entry b).owner)
    (donor : (t.entry b).donor = (s.entry b).donor) (n : Nat) : t.fetchSource b n = s.fetchSource b n := by
  simp only [State.fetchSource, State.usable_congr peers own, State.lowestLive_congr peers own, owner, donor]

end

/-! ## Fetch slots (R112) -/

/-- From s on, only fetch slots and waiting FETCHes have changed. -/
structure FetchesMoved (s t : State) : Prop where
  same : ∃ slots requests, t = (s.setCopyUnit { s.copy with slots := slots }).setSelect { s.select with requests := requests }
  others : ∀ r : Request, (∀ b, Payload.key r.payload ≠ .fetch b) → (r ∈ t.select.requests ↔ r ∈ s.select.requests)

/-- R112 moves the slot: its source has ceased to be usable, or it has none and its source is now the one gained. -/
def State.fetchMoves (s : State) (gained : Option Station) (k : FetchSlot) : Bool :=
  (k.source ≠ 0 && !s.usable k.source)
    || (k.source = 0 && s.fetchSource k.block k.attempt ≠ 0 && gained = some (s.fetchSource k.block k.attempt))

/-- A fetch slot as R112 leaves it. -/
def State.refetched (s : State) (gained : Option Station) (k : FetchSlot) : FetchSlot :=
  if s.fetchMoves gained k then { k with source := s.fetchSource k.block k.attempt, timer := 0 } else k

section
variable {s t : State} (peers : t.member.peers = s.member.peers) (own : t.member.own = s.member.own)
  (dir : ∀ b, (t.entry b).owner = (s.entry b).owner ∧ (t.entry b).donor = (s.entry b).donor)
include peers own dir

theorem State.fetchMoves_congr (gained : Option Station) (k : FetchSlot) :
    t.fetchMoves gained k = s.fetchMoves gained k := by
  simp only [State.fetchMoves, State.usable_congr peers own,
    State.fetchSource_congr peers own (dir k.block).1 (dir k.block).2]

theorem State.refetched_congr (gained : Option Station) (k : FetchSlot) :
    t.refetched gained k = s.refetched gained k := by
  simp only [State.refetched, State.fetchMoves_congr peers own dir,
    State.fetchSource_congr peers own (dir k.block).1 (dir k.block).2]

end

namespace FetchesMoved

theorem refl (s : State) : FetchesMoved s s := ⟨⟨s.copy.slots, s.select.requests, rfl⟩, fun _ _ => Iff.rfl⟩

theorem trans {s t u : State} (h : FetchesMoved s t) (k : FetchesMoved t u) : FetchesMoved s u := by
  refine ⟨?_, fun r hr => (k.others r hr).trans (h.others r hr)⟩
  obtain ⟨_, _, rfl⟩ := h.same
  obtain ⟨slots, requests, rfl⟩ := k.same
  exact ⟨slots, requests, rfl⟩

theorem startAttempt (s : State) (b : Block) (n : Nat) (x : Station) : FetchesMoved s (s.startAttempt b n x) := by
  unfold State.startAttempt
  split
  · refine ⟨⟨_, _, rfl⟩, fun r hr => ?_⟩
    rw [State.mem_withdraw]
    exact and_iff_left (hr b)
  · refine ⟨⟨_, _, rfl⟩, fun r hr => ?_⟩
    rw [State.mem_makeDue]
    constructor
    · rintro (⟨waits, -⟩ | rfl)
      · exact waits
      · exact absurd rfl (hr b)
    · exact fun waits => Or.inl ⟨waits, hr b⟩

theorem retargetFetch (gained : Option Station) (s : State) (k : FetchSlot) : FetchesMoved s (s.retargetFetch gained k) := by
  simp only [State.retargetFetch]
  split
  · exact startAttempt s _ _ _
  · exact refl s

theorem foldl (gained : Option Station) (ks : List FetchSlot) (s : State) :
    FetchesMoved s (ks.foldl (State.retargetFetch gained) s) := by
  induction ks generalizing s with
  | nil => exact refl s
  | cons k ks ih => exact (retargetFetch gained s k).trans (ih _)

section
variable {s t : State} (h : FetchesMoved s t)
include h

theorem stamp : t.stamp = s.stamp := by obtain ⟨_, _, rfl⟩ := h.same; rfl
theorem member : t.member = s.member := by obtain ⟨_, _, rfl⟩ := h.same; rfl
theorem entry (b : Block) : t.entry b = s.entry b := by obtain ⟨_, _, rfl⟩ := h.same; rfl

theorem fetchSource (b : Block) (n : Nat) : t.fetchSource b n = s.fetchSource b n :=
  State.fetchSource_congr (by rw [h.member]) (by rw [h.member]) (by rw [h.entry]) (by rw [h.entry]) n

theorem fetchMoves (gained : Option Station) (k : FetchSlot) : t.fetchMoves gained k = s.fetchMoves gained k :=
  State.fetchMoves_congr (by rw [h.member]) (by rw [h.member]) (fun b => by rw [h.entry]; exact ⟨rfl, rfl⟩) gained k

theorem refetched (gained : Option Station) (k : FetchSlot) : t.refetched gained k = s.refetched gained k :=
  State.refetched_congr (by rw [h.member]) (by rw [h.member]) (fun b => by rw [h.entry]; exact ⟨rfl, rfl⟩) gained k

end

end FetchesMoved

section
variable {s : State} {gained : Option Station} {k : FetchSlot}

theorem State.fetchMoves_iff : s.fetchMoves gained k = true ↔ (k.source ≠ 0 ∧ s.usable k.source = false)
    ∨ (k.source = 0 ∧ s.fetchSource k.block k.attempt ≠ 0 ∧ gained = some (s.fetchSource k.block k.attempt)) := by
  simp [State.fetchMoves, and_assoc]

theorem State.retargetFetch_moves (h : s.fetchMoves gained k = true) : s.retargetFetch gained k
    = s.startAttempt k.block k.attempt (s.fetchSource k.block k.attempt) := by
  refine if_pos ?_
  obtain ⟨h0, gone⟩ | ⟨h0, hs, hg⟩ := State.fetchMoves_iff.mp h
  · refine ⟨Or.inl ⟨h0, gone⟩, fun same => ?_⟩
    obtain none | usable := s.fetchSource_usable k.block k.attempt
    · exact h0 (same.symm.trans none)
    · rw [same, gone] at usable
      cases usable
  · exact ⟨Or.inr ⟨h0, hg⟩, h0 ▸ hs⟩

theorem State.retargetFetch_stays (h : s.fetchMoves gained k = false) : s.retargetFetch gained k = s := by
  refine if_neg ?_
  rintro ⟨⟨h0, gone⟩ | ⟨h0, hg⟩, hne⟩
  · exact Bool.false_ne_true (h.symm.trans (State.fetchMoves_iff.mpr (Or.inl ⟨h0, gone⟩)))
  · exact Bool.false_ne_true (h.symm.trans (State.fetchMoves_iff.mpr (Or.inr ⟨h0, h0 ▸ hne, hg⟩)))

end

theorem State.slots_startAttempt (s : State) (b : Block) (n : Nat) (x : Station) : (s.startAttempt b n x).copy.slots
    = s.copy.slots.map (fun c => if c.block = b then ⟨b, x, n, 0⟩ else c) := by
  unfold State.startAttempt
  split <;> rfl

/-- The requests for a block that a retarget of another block's slot leaves alone. -/
theorem State.fetches_startAttempt_other (s : State) {b d : Block} (hd : d ≠ b) (n m : Nat) (x y : Station) :
    (⟨.fetch d, y, m⟩ ∈ (s.startAttempt b n x).select.requests ↔ ⟨.fetch d, y, m⟩ ∈ s.select.requests) := by
  have key : Payload.key (.fetch d) ≠ .fetch b := by simpa [Payload.key] using hd
  unfold State.startAttempt
  split
  · rw [State.mem_withdraw]
    exact and_iff_left key
  · rw [State.mem_makeDue]
    constructor
    · rintro (⟨waits, -⟩ | e)
      · exact waits
      · exact absurd (congrArg (fun r : Request => Payload.key r.payload) e) key
    · exact fun waits => Or.inl ⟨waits, key⟩

theorem State.fetches_startAttempt_same (s : State) (b : Block) (n m : Nat) (x y : Station) :
    (⟨.fetch b, y, m⟩ ∈ (s.startAttempt b n x).select.requests ↔ x ≠ 0 ∧ y = x ∧ m = s.stamp) := by
  unfold State.startAttempt
  split
  · next h => simp [State.mem_withdraw, Payload.key, h]
  · next h => simp [State.mem_makeDue, Payload.key, h]

theorem map_replace_other {b : Block} {x : FetchSlot} {cs : List FetchSlot} (h : ∀ c ∈ cs, ¬ c.block = b) :
    cs.map (fun c => if c.block = b then x else c) = cs :=
  (List.map_congr_left (g := id) (fun c hc => if_neg (h c hc))).trans (List.map_id cs)

section
variable (gained : Option Station)

/-- Slots of different blocks are retargeted one by one, those before a point done, those after it to come. -/
theorem State.slots_retargetFold (rest : List FetchSlot) {s : State} {done : List FetchSlot}
    (hs : s.copy.slots = done ++ rest) (hn : (s.copy.slots.map FetchSlot.block).Nodup) :
    (rest.foldl (State.retargetFetch gained) s).copy.slots = done ++ rest.map (s.refetched gained) := by
  induction rest generalizing s done with
  | nil => simpa using hs
  | cons k rest ih =>
    have moved := FetchesMoved.retargetFetch gained s k
    have step : (s.retargetFetch gained k).copy.slots = (done ++ [s.refetched gained k]) ++ rest := by
      cases hk : s.fetchMoves gained k with
      | false => simp [State.retargetFetch_stays hk, State.refetched, hk, hs]
      | true =>
        rw [hs, List.map_append, List.map_cons, List.nodup_append, List.nodup_cons] at hn
        obtain ⟨-, ⟨after, -⟩, before⟩ := hn
        have first : ∀ c ∈ done, ¬ c.block = k.block := fun c hc =>
          before _ (List.mem_map_of_mem hc) _ List.mem_cons_self
        have last : ∀ c ∈ rest, ¬ c.block = k.block := fun c hc e => after (e ▸ List.mem_map_of_mem hc)
        rw [State.retargetFetch_moves hk, State.slots_startAttempt, hs, List.map_append, List.map_cons, if_pos rfl,
          map_replace_other first, map_replace_other last]
        simp [State.refetched, hk]
    have blocks : (s.retargetFetch gained k).copy.slots.map FetchSlot.block = s.copy.slots.map FetchSlot.block := by
      have kept : (s.refetched gained k).block = k.block := by
        unfold State.refetched
        split <;> rfl
      rw [step, hs]
      simp [kept]
    have refetched : (s.retargetFetch gained k).refetched gained = s.refetched gained :=
      funext (moved.refetched gained)
    rw [List.foldl_cons, ih step (blocks ▸ hn), refetched]
    simp

/-- The requests for a block that none of the slots retargeted is for. -/
theorem State.fetches_retargetFold_other {d : Block} (ks : List FetchSlot) (s : State) (hd : ∀ k ∈ ks, d ≠ k.block)
    (y : Station) (m : Nat) : (⟨.fetch d, y, m⟩ ∈ (ks.foldl (State.retargetFetch gained) s).select.requests
      ↔ ⟨.fetch d, y, m⟩ ∈ s.select.requests) := by
  induction ks generalizing s with
  | nil => exact Iff.rfl
  | cons k ks ih =>
    rw [List.foldl_cons, ih _ (fun c hc => hd c (List.mem_cons_of_mem k hc))]
    cases hk : s.fetchMoves gained k with
    | false => rw [State.retargetFetch_stays hk]
    | true =>
      rw [State.retargetFetch_moves hk]
      exact s.fetches_startAttempt_other (hd k List.mem_cons_self) _ _ _ _

/-- The FETCHes of an open slot after R112: one due at its source where the slot moves, those that waited where not. -/
theorem State.fetches_retargetFetches {s : State} (hn : (s.copy.slots.map FetchSlot.block).Nodup) {k : FetchSlot}
    (hk : k ∈ s.copy.slots) (y : Station) (m : Nat) :
    (s.fetchMoves gained k = true → (⟨.fetch k.block, y, m⟩ ∈ (s.retargetFetches gained).select.requests
      ↔ s.fetchSource k.block k.attempt ≠ 0 ∧ y = s.fetchSource k.block k.attempt ∧ m = s.stamp))
    ∧ (s.fetchMoves gained k = false → (⟨.fetch k.block, y, m⟩ ∈ (s.retargetFetches gained).select.requests
      ↔ ⟨.fetch k.block, y, m⟩ ∈ s.select.requests)) := by
  obtain ⟨pre, post, hs⟩ := List.append_of_mem hk
  rw [hs, List.map_append, List.map_cons, List.nodup_append, List.nodup_cons] at hn
  obtain ⟨-, ⟨after, -⟩, before⟩ := hn
  have first : ∀ c ∈ pre, k.block ≠ c.block := fun c hc e =>
    before _ (List.mem_map_of_mem hc) _ List.mem_cons_self e.symm
  have last : ∀ c ∈ post, k.block ≠ c.block := fun c hc e => after (e ▸ List.mem_map_of_mem hc)
  have moved := FetchesMoved.foldl gained pre s
  rw [State.retargetFetches, hs, List.foldl_append, List.foldl_cons, fetches_retargetFold_other gained post _ last,
    ← fetches_retargetFold_other gained pre s first, ← moved.fetchSource, ← moved.fetchMoves, ← moved.stamp]
  refine ⟨fun hm => ?_, fun hm => ?_⟩
  · rw [State.retargetFetch_moves hm]
    exact State.fetches_startAttempt_same _ _ _ _ _ _
  · rw [State.retargetFetch_stays hm]

theorem State.slots_retargetFetches {s : State} (hn : (s.copy.slots.map FetchSlot.block).Nodup) :
    (s.retargetFetches gained).copy.slots = s.copy.slots.map (s.refetched gained) :=
  State.slots_retargetFold gained s.copy.slots (done := []) rfl hn

end

end Sys2Proof.Machine
end

section
/-! A change of a peer's state, or of this station's, told to all the units, and the isolation it can bring (R83, R91, R105, R112, R129). -/

namespace Sys2Proof.Machine

/-! ## The units told -/

/-- The units told of a change of the peer table or of the station state, before any isolation (R91, R112, R129). -/
def State.told (s : State) (gained : Option Station) : State := (s.takeRegistrar.checkJob).retargetFetches gained

/-- A settle job that is over; the round, the deference timer and the reply record stay (R129). -/
def SettleUnit.ended (j : SettleUnit) : SettleUnit :=
  { j with
    job := .idle, orphans := [], answerers := [], queries := 0, queryTimer := none, table := [], announce := []
    announced := 0 }

/-- The end of a job changes the Settle Unit and takes a waiting QUERY away (R129). -/
theorem State.clearJob_eq (s : State) : s.clearJob = (s.setSettle s.settle.ended).withdraw .query := rfl

/-- From s on, only the Settle Unit and waiting QUERYs have changed. -/
structure JobChecked (s t : State) : Prop where
  same : ∃ settle requests, t = (s.setSettle settle).setSelect { s.select with requests := requests }
  others : ∀ r : Request, Payload.key r.payload ≠ .query → (r ∈ t.select.requests ↔ r ∈ s.select.requests)

theorem JobChecked.of_checkJob (s : State) : JobChecked s s.checkJob := by
  by_cases h : s.settle.job ≠ .idle ∧ ¬ s.holdsJob
  · rw [State.checkJob_over h.1 h.2, State.clearJob_eq]
    refine ⟨⟨_, _, rfl⟩, fun r hr => ?_⟩
    rw [State.mem_withdraw]
    exact and_iff_left hr
  · rw [State.checkJob_kept (by tauto)]
    exact ⟨⟨s.settle, s.select.requests, rfl⟩, fun _ _ => Iff.rfl⟩

/-- What the units make of such a change, in t (R91, R105, R112, R129). -/
structure PeersTold (s : State) (gained : Option Station) (t : State) : Prop where
  same : ∃ claim copy settle requests, t = (((s.registered.setClaim claim).setCopyUnit copy).setSettle settle).setSelect
    { s.select with requests := requests }
  list : ∀ x, x ∈ t.claim.list ↔ x ∈ s.claim.list ∧ ¬ (s.losesRole ∧ s.orphan x.1 = true)
  kept : s.settle.job = .idle ∨ s.registered.holdsJob → t.settle = s.settle
  ended : s.settle.job ≠ .idle → ¬ s.registered.holdsJob →
    (∀ r ∈ t.select.requests, r.payload.kind ≠ .query) ∧ t.settle = s.settle.ended
  copy : t.copy.missing = s.copy.missing ∧ t.copy.answers = s.copy.answers ∧ t.copy.holds = s.copy.holds
  asked : s.asksAnew → t.copy.snapq = some 0 ∧ ∀ m x n, ⟨.snapq m, x, n⟩ ∈ t.select.requests
    ↔ m = s.copy.missing ∧ x = s.computeRegistrar ∧ n = s.stamp
  unasked : ¬ s.asksAnew → t.copy.snapq = s.copy.snapq ∧ ∀ m x n, ⟨.snapq m, x, n⟩ ∈ t.select.requests
    ↔ ⟨.snapq m, x, n⟩ ∈ s.select.requests
  slots : (s.copy.slots.map FetchSlot.block).Nodup → t.copy.slots = s.copy.slots.map (s.refetched gained)
  fetches : (s.copy.slots.map FetchSlot.block).Nodup → ∀ k ∈ s.copy.slots, ∀ x n,
    (s.fetchMoves gained k = true → (⟨.fetch k.block, x, n⟩ ∈ t.select.requests
      ↔ s.fetchSource k.block k.attempt ≠ 0 ∧ x = s.fetchSource k.block k.attempt ∧ n = s.stamp))
    ∧ (s.fetchMoves gained k = false → (⟨.fetch k.block, x, n⟩ ∈ t.select.requests
      ↔ ⟨.fetch k.block, x, n⟩ ∈ s.select.requests))

theorem State.set_units (s : State) (c : ClaimUnit) (k k' : CopyUnit) (q q' q'' : Selector) (j : SettleUnit) :
    ((((((s.setClaim c).setCopyUnit k).setSelect q).setSettle j).setSelect q').setCopyUnit k').setSelect q''
      = (((s.setClaim c).setCopyUnit k').setSettle j).setSelect q'' := rfl

/-- The three units one after another: each leaves the others' parts and requests alone. -/
theorem PeersTold.of_told (s : State) (gained : Option Station) : PeersTold s gained (s.told gained) := by
  have role := RegistrarTaken.of_takeRegistrar s
  have job := JobChecked.of_checkJob s.takeRegistrar
  have fetch := FetchesMoved.foldl gained s.takeRegistrar.checkJob.copy.slots s.takeRegistrar.checkJob
  rw [← State.retargetFetches] at fetch
  unfold State.told
  generalize s.takeRegistrar = u at *
  generalize hv : u.checkJob = v at *
  generalize ht : v.retargetFetches gained = t at *
  obtain ⟨claim, snapq, asked, registered⟩ := role.same
  obtain ⟨settle, withdrawn, checked⟩ := job.same
  obtain ⟨slots, requests, fetched⟩ := fetch.same
  have before : ∀ r : Request, Payload.key r.payload ≠ .query → (∀ b, Payload.key r.payload ≠ .fetch b) →
      (r ∈ t.select.requests ↔ r ∈ u.select.requests) :=
    fun r hq hf => (fetch.others r hf).trans (job.others r hq)
  have settled : t.settle = v.settle := by rw [fetched]; rfl
  have list : t.claim.list = u.claim.list := by rw [fetched, checked]; rfl
  have timer : t.copy.snapq = u.copy.snapq := by rw [fetched, checked]; rfl
  have holds : u.holdsJob ↔ s.registered.holdsJob := by rw [registered]; rfl
  have before_job : u.settle = s.settle := by rw [registered]; rfl
  have opened : v.copy.slots = s.copy.slots := by rw [checked, registered]; rfl
  have stamp : v.stamp = s.stamp := by simp [checked, registered, State.registered]
  have peers : v.member.peers = s.member.peers := by rw [checked, registered]; rfl
  have own : v.member.own = s.member.own := by rw [checked, registered]; rfl
  have dir : ∀ b, (v.entry b).owner = (s.entry b).owner ∧ (v.entry b).donor = (s.entry b).donor := by
    have same : v.dir = s.dir := by simp [checked, registered, State.registered]
    simp [State.entry, same]
  refine ⟨?_, fun x => ?_, fun hk => ?_, fun hj hk => ⟨fun r hr hq => ?_, ?_⟩, ?_, fun ha => ?_, fun ha => ?_,
    fun hn => ?_, fun hn k hk x n => ?_⟩
  · have select : { v.select with requests := requests } = { s.select with requests := requests } := by
      simp [checked, registered, State.registered]
    rw [fetched, select, checked, registered]
    exact ⟨claim, _, settle, requests, s.registered.set_units _ _ _ _ _ _ _⟩
  · rw [list]
    exact role.list x
  · rw [settled, ← hv, State.checkJob_kept (by rwa [holds, before_job]), before_job]
  · have key : Payload.key r.payload = .query := Payload.key_eq_query.mpr hq
    have waits := (fetch.others r (by simp [key])).mp hr
    rw [← hv, State.checkJob_over (by rwa [before_job]) (by rwa [holds]), State.clearJob_eq, State.mem_withdraw] at waits
    exact waits.2 key
  · rw [settled, ← hv, State.checkJob_over (by rwa [before_job]) (by rwa [holds]), State.clearJob_eq, ← before_job]
    rfl
  · rw [fetched, checked, registered]
    exact ⟨rfl, rfl, rfl⟩
  · obtain ⟨restarts, due⟩ := role.asked ha
    refine ⟨timer.trans restarts, fun m x n => ?_⟩
    rw [before _ (by simp [Payload.key]) (by simp [Payload.key]), due _ (by simp [Payload.key])]
    simp [Payload.key]
  · obtain ⟨stays, due⟩ := role.unasked ha
    refine ⟨timer.trans stays, fun m x n => ?_⟩
    rw [before _ (by simp [Payload.key]) (by simp [Payload.key]), due _ (by simp [Payload.key])]
  · rw [← ht, State.slots_retargetFetches gained (by rwa [opened]), opened]
    exact List.map_congr_left (fun k _ => State.refetched_congr peers own dir gained k)
  · have fetches := State.fetches_retargetFetches gained (s := v) (by rwa [opened]) (by rwa [opened]) (k := k) x n
    have unmoved : (⟨.fetch k.block, x, n⟩ ∈ v.select.requests ↔ ⟨.fetch k.block, x, n⟩ ∈ s.select.requests) := by
      rw [job.others _ (by simp [Payload.key])]
      by_cases ha : s.asksAnew
      · rw [(role.asked ha).2 _ (by simp [Payload.key])]
        simp [Payload.key]
      · exact (role.unasked ha).2 _ (by simp [Payload.key])
    rwa [State.fetchMoves_congr peers own dir, State.fetchSource_congr peers own (dir k.block).1 (dir k.block).2, stamp,
      unmoved, ht] at fetches

section
variable {s t : State} {gained : Option Station} (h : PeersTold s gained t)
include h

theorem PeersTold.member : t.member = { s.member with registrar := s.computeRegistrar } := by
  obtain ⟨_, _, _, _, rfl⟩ := h.same; rfl
theorem PeersTold.dir : t.dir = s.dir := by obtain ⟨_, _, _, _, rfl⟩ := h.same; rfl
theorem PeersTold.window : t.window = s.window := by obtain ⟨_, _, _, _, rfl⟩ := h.same; rfl
theorem PeersTold.write : t.write = s.write := by obtain ⟨_, _, _, _, rfl⟩ := h.same; rfl
theorem PeersTold.seq : t.seq = s.seq := by obtain ⟨_, _, _, _, rfl⟩ := h.same; rfl
theorem PeersTold.port : t.port = s.port := by obtain ⟨_, _, _, _, rfl⟩ := h.same; rfl
theorem PeersTold.log : t.log = s.log := by obtain ⟨_, _, _, _, rfl⟩ := h.same; rfl
theorem PeersTold.state : t.state = s.state := by obtain ⟨_, _, _, _, rfl⟩ := h.same; rfl
theorem PeersTold.peer (p : Station) : t.peer p = s.peer p := by obtain ⟨_, _, _, _, rfl⟩ := h.same; rfl
theorem PeersTold.entry (b : Block) : t.entry b = s.entry b := by obtain ⟨_, _, _, _, rfl⟩ := h.same; rfl

end

/-- The one more thing a change can bring: a CATCHUP station left without a registrar isolates (R83). -/
theorem State.peersChanged_eq (s : State) (gained : Option Station) : s.peersChanged gained =
    if s.state = .catchup ∧ s.computeRegistrar = 0 then ((s.told gained).offer { cls := .groupDissolved }).isolate
    else s.told gained := by
  have told := PeersTold.of_told s gained
  have registrar : (s.told gained).member.registrar = s.computeRegistrar := congrArg MemberUnit.registrar told.member
  rw [← told.state, ← registrar]
  rfl

theorem State.peersChanged_dissolves {s : State} (hs : s.member.state = .catchup) (hr : s.computeRegistrar = 0)
    (gained : Option Station) : s.peersChanged gained = ((s.told gained).offer { cls := .groupDissolved }).isolate := by
  rw [State.peersChanged_eq]
  exact if_pos ⟨hs, hr⟩

theorem State.peersChanged_told {s : State} (h : s.member.state = .catchup → s.computeRegistrar ≠ 0)
    (gained : Option Station) : s.peersChanged gained = s.told gained := by
  rw [State.peersChanged_eq]
  exact if_neg (fun hc => h hc.1 hc.2)

/-- Where the registrar is as the tables give it, no job runs and no fetch slot is open, there is nothing to tell. -/
theorem State.told_nothing {s : State} (hr : s.computeRegistrar = s.member.registrar) (hj : s.settle.job = .idle)
    (hf : s.copy.slots = []) (gained : Option Station) : s.told gained = s := by
  rw [State.told, State.takeRegistrar_same hr, State.checkJob_kept (Or.inl hj), State.retargetFetches, hf]
  rfl

/-! ## Isolation (R83) -/

/-- This station is on its way out (R88). -/
theorem State.departing_iff {s : State} : s.departing = true ↔
    s.member.state = .leaving ∨ (s.member.state = .catchup ∧ s.member.leavePending = true) := by
  rw [State.departing, State.state, Bool.or_eq_true, Bool.and_eq_true, decide_eq_true_eq, decide_eq_true_eq]

theorem State.isolate_departing {s : State}
    (h : s.member.state = .leaving ∨ (s.member.state = .catchup ∧ s.member.leavePending = true)) :
    s.isolate = s.depart 1 := if_pos h

theorem State.anyLaneUp_teardown (s : State) (new : StationState) : (s.teardown new).anyLaneUp = s.anyLaneUp := by
  simp only [State.anyLaneUp, State.laneUp, (s.lane_teardown new _).1]

theorem State.isolate_listens {s : State}
    (h : ¬ (s.member.state = .leaving ∨ (s.member.state = .catchup ∧ s.member.leavePending = true))) :
    s.isolate = if s.anyLaneUp then (s.teardown .isolated).enterListening else s.teardown .isolated := by
  rw [← s.anyLaneUp_teardown .isolated]
  exact if_neg h

theorem State.state_teardown (s : State) (new : StationState) : (s.teardown new).member.state = new := by
  rw [State.teardown_eq, State.reported_eq]
  rfl

/-- An isolated station is of no group any more (R83). -/
theorem State.active_isolate (s : State) : s.isolate.active = false := by
  by_cases h : s.member.state = .leaving ∨ (s.member.state = .catchup ∧ s.member.leavePending = true)
  · rw [State.isolate_departing h, State.depart, State.active, State.state, State.state_teardown]
    rfl
  · rw [State.isolate_listens h]
    split
    · rfl
    · rw [State.active, State.state, State.state_teardown]
      rfl

end Sys2Proof.Machine
end

section
/-! The exclusion of a peer: its entry, its claims and answers, what the units are told, and the restart of a settle job (R44, R49, R96, R98, R116, R128). -/

namespace Sys2Proof.Machine

/-! ## The end of yielding (R49) -/

theorem State.claimed_iff {s : State} {b : Block} : s.claimed b = true ↔ ∃ y, (b, y) ∈ s.claim.list := by
  simp [State.claimed]

theorem State.endYield_eq (s : State) (b : Block) : s.endYield b
    = if s.claimed b = true then s else s.setEntry b { s.entry b with yielding := false } := by
  unfold State.endYield
  cases hc : s.claimed b
  · cases hy : (s.entry b).yielding
    · have same : { s.entry b with yielding := false } = s.entry b := by rw [← hy]
      have put_same : s.setEntry b (s.entry b) = s := by
        simp [State.setEntry, State.setDir, State.entry, put, look]
      simp [same, put_same]
    · simp
  · simp

theorem State.endYields_same (bs : List Block) (s : State) : ∃ dir, bs.foldl State.endYield s = s.setDir dir := by
  induction bs generalizing s with
  | nil => exact ⟨s.dir, rfl⟩
  | cons b bs ih =>
    obtain ⟨dir, h⟩ := ih (s.endYield b)
    refine ⟨dir, h.trans ?_⟩
    rw [State.endYield_eq]
    split <;> rfl

theorem State.entry_endYields (bs : List Block) (s : State) (b : Block) : (bs.foldl State.endYield s).entry b
    = if b ∈ bs ∧ s.claimed b = false then { s.entry b with yielding := false } else s.entry b := by
  induction bs generalizing s with
  | nil => simp
  | cons d bs ih =>
    rw [List.foldl_cons, ih, State.endYield_eq]
    by_cases hc : s.claimed d = true
    · rw [if_pos hc]
      by_cases hb : b = d
      · subst hb; simp [hc]
      · simp [hb]
    · have claimed : (s.setEntry d { s.entry d with yielding := false }).claimed b = s.claimed b := rfl
      rw [if_neg hc, claimed, State.entry_setEntry]
      by_cases hb : b = d
      · subst hb; simp [hc]
      · simp [hb]

/-- Every claim of the block is this claimant's, and there is one. -/
def State.soleClaimant (s : State) (b : Block) (p : Station) : Prop :=
  (b, p) ∈ s.claim.list ∧ ∀ y, (b, y) ∈ s.claim.list → y = p

theorem State.dropClaimant_same (s : State) (p : Station) : ∃ dir, s.dropClaimant p
    = (s.setClaim { s.claim with list := s.claim.list.filter (fun c => c.2 ≠ p) }).setDir dir :=
  State.endYields_same _ _

/-- The claims of a claimant leave, and the blocks left without any yield no more (R49). -/
theorem State.entry_dropClaimant (s : State) (p : Station) (b : Block) :
    (s.soleClaimant b p → (s.dropClaimant p).entry b = { s.entry b with yielding := false })
      ∧ (¬ s.soleClaimant b p → (s.dropClaimant p).entry b = s.entry b) := by
  have entry : (s.dropClaimant p).entry b = _ := State.entry_endYields _ _ b
  have gone : b ∈ (s.claim.list.filter (fun c => c.2 = p)).map Prod.fst ↔ (b, p) ∈ s.claim.list := by simp
  have unclaimed : (s.setClaim { s.claim with list := s.claim.list.filter (fun c => c.2 ≠ p) }).claimed b = false
      ↔ ∀ y, (b, y) ∈ s.claim.list → y = p := by
    rw [← Bool.not_eq_true, State.claimed_iff]
    simp
  have sole := and_congr gone unclaimed
  exact ⟨fun h => entry.trans (if_pos (sole.mpr h)), fun h => entry.trans (if_neg (fun hc => h (sole.mp hc)))⟩

/-- Owner and donor of no block rest on its claims. -/
theorem State.owner_dropClaimant (s : State) (p : Station) (b : Block) :
    ((s.dropClaimant p).entry b).owner = (s.entry b).owner ∧ ((s.dropClaimant p).entry b).donor = (s.entry b).donor := by
  by_cases h : s.soleClaimant b p
  · rw [(s.entry_dropClaimant p b).1 h]
    exact ⟨rfl, rfl⟩
  · rw [(s.entry_dropClaimant p b).2 h]
    exact ⟨rfl, rfl⟩

/-! ## The entry of the excluded (R96) -/

/-- The station with peer p held EXCLUDED, nothing else of it known. -/
def State.barred (s : State) (p : Station) : State := s.setPeer p { Peer.empty with state := .excluded }

/-- The incidents an exclusion brings by itself: none for a station that is ABSENT (R96). -/
def State.exclusions (s : State) (cause : Cause) (p : Station) : List (IncidentUnit × Offer) :=
  if (s.peer p).state = .absent then [] else [exclusionOf cause p]

theorem State.excludeEntry_eq (s : State) (cause : Cause) (p : Station) : s.excludeEntry cause p
    = (((s.barred p).dropClaimant p).dropAnswers p).setLog
      { s.log with offered := s.log.offered ++ s.exclusions cause p } := by
  have log : (((s.barred p).dropClaimant p).dropAnswers p).log = s.log := ((s.barred p).dropClaimant_frame p).2
  unfold State.exclusions
  by_cases h : (s.peer p).state = .absent
  · rw [if_pos h, List.append_nil]
    have same : (((s.barred p).dropClaimant p).dropAnswers p).setLog s.log
        = ((s.barred p).dropClaimant p).dropAnswers p := by rw [← log]; rfl
    rw [same]
    exact if_pos h
  · rw [if_neg h]
    have offers : (((s.barred p).dropClaimant p).dropAnswers p).offer
        { cls := .peerExcluded, peer := some p, detail := cause.code.setWidth 16 } = (((s.barred p).dropClaimant p).dropAnswers p).setLog
          { (((s.barred p).dropClaimant p).dropAnswers p).log with
            offered := (((s.barred p).dropClaimant p).dropAnswers p).log.offered ++ [exclusionOf cause p] } := rfl
    rw [log] at offers
    rw [← offers]
    exact if_neg h

/-- What the entry of an exclusion leaves alone, and its parts but the directory's yielding marks. -/
theorem State.excludeEntry_same (s : State) (cause : Cause) (p : Station) : ∃ dir, s.excludeEntry cause p
    = (((((s.barred p).setClaim { s.claim with list := s.claim.list.filter (fun c => c.2 ≠ p) }).setDir dir).setCopyUnit
      { s.copy with answers := s.copy.answers.filter (fun a => a.requester ≠ p) }).setSettle
        { s.settle with reply := s.settle.reply.filter (fun r => r.requester ≠ p) }).setLog
          { s.log with offered := s.log.offered ++ s.exclusions cause p } := by
  obtain ⟨dir, h⟩ := (s.barred p).dropClaimant_same p
  exact ⟨dir, by rw [State.excludeEntry_eq, h]; rfl⟩

theorem State.entry_excludeEntry (s : State) (cause : Cause) (p : Station) (b : Block) :
    (s.soleClaimant b p → (s.excludeEntry cause p).entry b = { s.entry b with yielding := false })
      ∧ (¬ s.soleClaimant b p → (s.excludeEntry cause p).entry b = s.entry b) := by
  rw [State.excludeEntry_eq]
  exact (s.barred p).entry_dropClaimant p b

theorem State.owner_excludeEntry (s : State) (cause : Cause) (p : Station) (b : Block) :
    ((s.excludeEntry cause p).entry b).owner = (s.entry b).owner
      ∧ ((s.excludeEntry cause p).entry b).donor = (s.entry b).donor := by
  rw [State.excludeEntry_eq]
  exact (s.barred p).owner_dropClaimant p b

/-- The registrar by the tables once peer p is EXCLUDED (R91). -/
def State.registrarWithout (s : State) (p : Station) : Station :=
  (stations.find? (fun y => if y = s.member.own then s.member.state = .live else y ≠ p ∧ (s.peer y).state = .live)).getD 0

theorem State.computeRegistrar_congr {s t : State} (hs : t.member.state = s.member.state)
    (ho : t.member.own = s.member.own) (hp : ∀ y, (t.peer y).state = .live ↔ (s.peer y).state = .live) :
    t.computeRegistrar = s.computeRegistrar := by
  simp only [State.computeRegistrar, State.own, State.state, hs, ho, hp]
  rfl

theorem State.computeRegistrar_excludeEntry (s : State) (p : Station) (cause : Cause) :
    (s.excludeEntry cause p).computeRegistrar = s.registrarWithout p := by
  have member := State.excludeEntry_member cause s p
  have own : (s.excludeEntry cause p).own = s.member.own := by rw [State.own, member]; rfl
  have state : (s.excludeEntry cause p).state = s.member.state := by rw [State.state, member]; rfl
  unfold State.computeRegistrar State.registrarWithout
  refine congrArg (fun f : Station → Bool => (stations.find? f).getD 0) (funext fun y => ?_)
  rw [own, state, State.peer_excludeEntry]
  by_cases hy : y = s.member.own
  · simp [hy]
  · rw [if_neg hy, if_neg hy]
    by_cases hp : y = p <;> simp [hp, Peer.empty]

/-- A test that fewer stations pass, the lowest of them as before, finds the same one. -/
theorem stations_find?_of_fewer {f g : Station → Bool} (fewer : ∀ y, g y = true → f y = true)
    (kept : ∀ r, stations.find? f = some r → g r = true) : stations.find? g = stations.find? f := by
  cases h : stations.find? f with
  | none =>
    refine stations_find?_eq_none.mpr (fun y h0 => ?_)
    cases hy : g y
    · rfl
    · exact (fewer y hy).symm.trans (stations_find?_eq_none.mp h y h0)
  | some r =>
    obtain ⟨h0, -, low⟩ := stations_find?_eq_some.mp h
    exact stations_find?_eq_some.mpr ⟨h0, kept r h, fun y hy hg => low y hy (fewer y hg)⟩

/-- Without one that is not the lowest, the lowest stays so (R91). -/
theorem State.registrarWithout_of_other {s : State} {p : Station} (hp : p ≠ s.computeRegistrar) :
    s.registrarWithout p = s.computeRegistrar := by
  refine congrArg (fun o : Option Station => o.getD 0) (stations_find?_of_fewer (fun y hy => ?_) (fun r hr => ?_))
  · by_cases h : y = s.own
    · exact (if_pos h).trans ((if_pos h).symm.trans hy)
    · exact (if_neg h).trans (decide_eq_true (of_decide_eq_true ((if_neg h).symm.trans hy)).2)
  · have other : r ≠ p := by
      rintro rfl
      exact hp (by rw [State.computeRegistrar, hr]; rfl)
    have live := (stations_find?_eq_some.mp hr).2.1
    by_cases h : r = s.own
    · exact (if_pos h).trans ((if_pos h).symm.trans live)
    · exact (if_neg h).trans (decide_eq_true ⟨other, of_decide_eq_true ((if_neg h).symm.trans live)⟩)

/-- Where the registrar is not this station, it stays so as this station leaves LIVE (R91). -/
theorem State.computeRegistrar_of_leaving {s t : State} (ht : t.member.state = .leaving)
    (ho : t.member.own = s.member.own) (hp : t.member.peers = s.member.peers) (hr : s.computeRegistrar ≠ s.member.own) :
    t.computeRegistrar = s.computeRegistrar := by
  have own : t.own = s.own := ho
  have peer : ∀ y, t.peer y = s.peer y := fun y => by rw [State.peer, hp]; rfl
  refine congrArg (fun o : Option Station => o.getD 0) (stations_find?_of_fewer (fun y hy => ?_) (fun r hr' => ?_))
  · by_cases h : y = t.own
    · have live := of_decide_eq_true ((if_pos h).symm.trans hy)
      rw [State.state, ht] at live
      cases live
    · rw [if_neg (own ▸ h), ← peer]
      exact (if_neg h).symm.trans hy
  · have other : r ≠ s.own := by
      rintro rfl
      exact hr (by rw [State.computeRegistrar, hr']; rfl)
    have live := (stations_find?_eq_some.mp hr').2.1
    rw [if_neg (own ▸ other), peer]
    exact (if_neg other).symm.trans live

/-! ## What follows (R44, R96) -/

section
variable {s : State} {p : Station} (hp : (s.peer p).state ≠ .excluded)
include hp

theorem State.exclude_eq (cause : Cause) (restart : Bool) : s.exclude p cause restart
    = if ((s.excludeEntry cause p).peersChanged none).active then
        (if restart then (((s.excludeEntry cause p).peersChanged none).retargetFrom p).restartJob
          else ((s.excludeEntry cause p).peersChanged none).retargetFrom p)
      else (s.excludeEntry cause p).peersChanged none := by
  have one : [p].filter (fun p => (s.peer p).state ≠ .excluded) = [p] := by simp [hp]
  simp only [State.exclude, State.excludeAll, one, List.cons_ne_nil, if_false, List.foldl_cons, List.foldl_nil]

theorem State.exclude_told (ha : s.active = true)
    (hr : s.member.state = .catchup → s.registrarWithout p ≠ 0) (cause : Cause) (restart : Bool) :
    s.exclude p cause restart = if restart then (((s.excludeEntry cause p).told none).retargetFrom p).restartJob
      else ((s.excludeEntry cause p).told none).retargetFrom p := by
  have state : (s.excludeEntry cause p).member.state = s.member.state := by rw [State.excludeEntry_member]; rfl
  have told := PeersTold.of_told (s.excludeEntry cause p) none
  have active : ((s.excludeEntry cause p).told none).active = true := by
    rw [State.active, told.state, State.state, state]
    exact ha
  have stays : (s.excludeEntry cause p).peersChanged none = (s.excludeEntry cause p).told none := by
    refine State.peersChanged_told (fun hs => ?_) none
    rw [State.computeRegistrar_excludeEntry]
    exact hr (state ▸ hs)
  rw [State.exclude_eq hp, stays, if_pos active]

end

theorem State.exclude_excluded {s : State} {p : Station} (h : (s.peer p).state = .excluded) (cause : Cause)
    (restart : Bool) : s.exclude p cause restart = s := by
  simp [State.exclude, State.excludeAll, h]

/-! ## Claim slots after the change (R42, R44) -/

/-- A change told leaves a claim slot as it is, or aimed afresh with the new registrar. -/
theorem State.claimSlot_told {s : State} {b : Block} {k : ClaimSlot} (h : s.claimSlot b = some k)
    (gained : Option Station) : (s.told gained).claimSlot b = some k
      ∨ (s.told gained).claimSlot b = some (s.registered.aimed k) := by
  have job := JobChecked.of_checkJob s.takeRegistrar
  have fetch := FetchesMoved.foldl gained s.takeRegistrar.checkJob.copy.slots s.takeRegistrar.checkJob
  have slots : (s.told gained).claimSlot b = s.takeRegistrar.claimSlot b := by
    unfold State.told State.retargetFetches
    generalize s.takeRegistrar.checkJob = v at *
    generalize s.takeRegistrar = u at *
    obtain ⟨_, _, checked⟩ := job.same
    obtain ⟨_, _, fetched⟩ := fetch.same
    rw [fetched, checked]
    rfl
  rw [slots]
  by_cases hr : s.computeRegistrar = s.member.registrar
  · rw [State.takeRegistrar_same hr]
    exact Or.inl h
  · have dropped : s.roleTaken.claimSlot b = (s.registered.retargetClaims s.roleBlocks).claimSlot b := by
      unfold State.roleTaken
      split <;> rfl
    have role : s.takeRegistrar.claimSlot b = s.roleTaken.claimSlot b := by
      rw [State.takeRegistrar_changed hr]
      generalize s.roleTaken = r
      split <;> rfl
    have opened : s.registered.claimSlot b = some k := h
    rw [role, dropped, State.claimSlot_retargetClaims opened]
    split
    · exact Or.inr rfl
    · exact Or.inl rfl

/-- After the retarget of an exclusion the slots aimed at the excluded station, or for its blocks, are aimed afresh. -/
theorem State.claimSlot_retargetFrom {s t : State} {b : Block} {k : ClaimSlot} {p : Station}
    (h : t.claimSlot b = some k ∨ t.claimSlot b = some (s.aimed k)) (ha : t.aimed = s.aimed)
    (hk : k.target = p ∨ (t.entry k.block).owner = p) : (t.retargetFrom p).claimSlot b = some (s.aimed k) := by
  have again : s.aimed (s.aimed k) = s.aimed k := rfl
  obtain h | h := h
  · have named : b ∈ (t.claim.slots.filter (fun c => c.target = p || (t.entry c.block).owner = p)).map ClaimSlot.block := by
      refine List.mem_map.mpr ⟨k, List.mem_filter.mpr ⟨List.mem_of_find?_eq_some h, ?_⟩, State.block_of_claimSlot h⟩
      simpa using hk
    rw [State.retargetFrom, State.claimSlot_retargetClaims h, if_pos named, ha]
  · rw [State.retargetFrom, State.claimSlot_retargetClaims h, ha, again, ite_self]

/-! ## The restart of a job (R128) -/

/-- From s on, only the Settle Unit, waiting QUERYs and what is offered have changed. -/
def JobMoved (s t : State) : Prop := ∃ settle requests offered,
  t = ((s.setSettle settle).setSelect { s.select with requests := requests }).setLog { s.log with offered := offered }

namespace JobMoved

theorem refl (s : State) : JobMoved s s := ⟨s.settle, s.select.requests, s.log.offered, rfl⟩

theorem trans {s t u : State} (h : JobMoved s t) (k : JobMoved t u) : JobMoved s u := by
  obtain ⟨_, _, _, rfl⟩ := h
  obtain ⟨settle, requests, offered, rfl⟩ := k
  exact ⟨settle, requests, offered, rfl⟩

theorem setSettle (s : State) (j : SettleUnit) : JobMoved s (s.setSettle j) := ⟨j, s.select.requests, s.log.offered, rfl⟩

theorem withdraw (s : State) (k : RequestKey) : JobMoved s (s.withdraw k) :=
  ⟨s.settle, (s.withdraw k).select.requests, s.log.offered, rfl⟩

theorem makeDue (s : State) (p : Payload) (x : Station) : JobMoved s (s.makeDue p x) :=
  ⟨s.settle, (s.makeDue p x).select.requests, s.log.offered, rfl⟩

theorem clearJob (s : State) : JobMoved s s.clearJob := (setSettle s _).trans (withdraw _ _)

theorem offerFlaggers (rs : List SettleRecord) (s : State) : JobMoved s (s.offerFlaggers rs) := by
  induction rs generalizing s with
  | nil => exact refl s
  | cons r rs ih =>
    refine trans ?_ (ih _)
    dsimp only
    split
    · exact ⟨s.settle, s.select.requests, _, rfl⟩
    · exact refl s

theorem decideJob (s : State) : JobMoved s s.decideJob := by
  simp only [State.decideJob]
  split
  · exact clearJob s
  · exact (offerFlaggers _ s).trans ((setSettle _ _).trans (withdraw _ _))

theorem startJob (s : State) : JobMoved s s.startJob := by
  simp only [State.startJob]
  split
  · exact (setSettle s _).trans (decideJob _)
  · exact (setSettle s _).trans ((setSettle _ _).trans (makeDue _ _ _))

theorem restartJob (s : State) : JobMoved s s.restartJob := by
  unfold State.restartJob
  split
  · split
    · exact clearJob s
    · exact startJob s
  · exact refl s

end JobMoved

theorem State.restartJob_of_not_querying {s : State} (h : s.settle.job ≠ .querying) : s.restartJob = s := if_neg h

end Sys2Proof.Machine
end

section
/-! Exclusions this station decides, and the JOIN that is admitted, ignored, or excludes its sender (R61, R90, R92, R96, R98, Table 5-5). -/

namespace Sys2Proof.Machine

/-! ## An untroubled station -/

theorem State.untroubled_iff {s : State} : s.untroubled = true ↔ s.member.state = .live ∧ s.settle.job = .idle
    ∧ s.copy.slots = [] ∧ s.computeRegistrar = s.member.registrar := by
  rw [State.untroubled, State.state, Bool.and_eq_true, Bool.and_eq_true, Bool.and_eq_true, decide_eq_true_iff,
    decide_eq_true_iff, decide_eq_true_iff, List.isEmpty_iff, and_assoc, and_assoc]

/-- Nothing to tell: the registrar is as the tables give it, no job runs, no fetch slot is open, and it is LIVE. -/
theorem State.peersChanged_of_untroubled {s : State} (h : s.untroubled = true) (gained : Option Station) :
    s.peersChanged gained = s := by
  obtain ⟨live, idle, closed, registrar⟩ := State.untroubled_iff.mp h
  rw [State.peersChanged_told (fun hs => by simp [live] at hs), State.told_nothing registrar idle closed]

/-- What an untroubled station is rests on its state, its registrar, its LIVE peers, its job and its fetch slots. -/
theorem State.untroubled_of_same {s t : State} (h : s.untroubled = true) (state : t.member.state = s.member.state)
    (own : t.member.own = s.member.own) (registrar : t.member.registrar = s.member.registrar)
    (job : t.settle.job = s.settle.job) (slots : t.copy.slots = s.copy.slots)
    (live : ∀ y, (t.peer y).state = .live ↔ (s.peer y).state = .live) : t.untroubled = true := by
  rw [State.untroubled_iff] at h ⊢
  rwa [state, registrar, job, slots, State.computeRegistrar_congr state own live]

@[simp] theorem State.settle_hear (s : State) (p : Station) : (s.hear p).settle = s.settle := by rw [s.hear_eq p]; rfl
@[simp] theorem State.settle_carried (s : State) (l : LaneId) (p : Station) : (s.carried l p).settle = s.settle := by
  simp [State.carried]

theorem State.untroubled_carried {s : State} (h : s.untroubled = true) (l : LaneId) (p : Station) :
    (s.carried l p).untroubled = true :=
  State.untroubled_of_same h (by simp) (by simp) (by simp) (by simp) (by simp) (fun y => by simp)

theorem State.untroubled_acceptedFrom {s : State} (h : s.untroubled = true) (l : LaneId) (p : Station) (q : SeqNo) :
    (s.acceptedFrom l p q).untroubled = true :=
  State.untroubled_of_same h (s.member_state_carried l p) (s.member_own_carried l p) (s.registrar_carried l p)
    (congrArg SettleUnit.job (s.settle_carried l p)) (congrArg CopyUnit.slots (s.copy_carried l p)) (fun y => by simp)

theorem State.dropClaimant_of_none {s : State} (h : s.claim = ClaimUnit.reset) (p : Station) : s.dropClaimant p = s := by
  unfold State.dropClaimant
  rw [h]
  exact (congrArg s.setClaim h.symm).trans rfl

/-- The exclusion of a member that is not the registrar leaves, at an untroubled station without claims, its entry, its
answers and its incident alone (R96). -/
theorem State.exclude_untroubled {s : State} {p : Station} (hu : s.untroubled = true)
    (hm : (s.peer p).state.member = true) (hr : p ≠ s.member.registrar) (hc : s.claim = ClaimUnit.reset) (cause : Cause)
    (restart : Bool) : s.exclude p cause restart = ((s.barred p).dropAnswers p).offer
      { cls := .peerExcluded, peer := some p, detail := cause.code.setWidth 16 } := by
  obtain ⟨live, idle, closed, registrar⟩ := State.untroubled_iff.mp hu
  obtain ⟨present, out⟩ := PeerState.known_of_member hm
  have entry : s.excludeEntry cause p = ((s.barred p).dropAnswers p).offer
      { cls := .peerExcluded, peer := some p, detail := cause.code.setWidth 16 } := by
    have none : (s.barred p).dropClaimant p = s.barred p := State.dropClaimant_of_none (s := s.barred p) hc p
    simp only [State.excludeEntry, if_neg present]
    rw [← State.barred, none]
  have lowest : (s.excludeEntry cause p).computeRegistrar = (s.excludeEntry cause p).member.registrar := by
    rw [State.computeRegistrar_excludeEntry, State.registrarWithout_of_other (registrar ▸ hr), registrar, entry]
    rfl
  have told : (s.excludeEntry cause p).told none = s.excludeEntry cause p :=
    State.told_nothing lowest (by rw [entry]; exact idle) (by rw [entry]; exact closed) none
  have claims : (s.excludeEntry cause p).retargetFrom p = s.excludeEntry cause p := by
    rw [State.retargetFrom, show (s.excludeEntry cause p).claim = ClaimUnit.reset by rw [entry]; exact hc]
    rfl
  have job : (s.excludeEntry cause p).restartJob = s.excludeEntry cause p := by
    refine State.restartJob_of_not_querying ?_
    rw [entry]
    intro h
    exact absurd (idle.symm.trans h) (by decide)
  rw [State.exclude_told out (State.active_of_state (Or.inl live)) (fun h => by simp [live] at h), told, claims, job,
    ite_self, entry]

/-! ## A decided exclusion (R98) -/

section
variable (s : State) (p : Station) (cause : Cause) (restart : Bool)

theorem State.decideExclude_other (h : s.active = false ∨ s.isMember p = false) : s.decideExclude p cause restart = s := by
  obtain h | h := h
  · simp [State.decideExclude, State.decideExcludes, h]
  · simp [State.decideExclude, State.decideExcludes, State.excludeAll, h]

theorem State.decideExclude_member (ha : s.active = true) (hm : s.isMember p = true) :
    s.decideExclude p cause restart = if (s.exclude p cause restart).active
      then (s.exclude p cause restart).askExclude p cause else s.exclude p cause restart := by
  have one : [p].filter s.isMember = [p] := by simp [hm]
  simp only [State.decideExclude, State.decideExcludes, one, ha, if_true, List.foldl_cons, List.foldl_nil]
  rfl

theorem State.askExclude_free (h : s.freeEntry = true) : s.askExclude p cause = s.enqueue (.exclude p cause) := if_pos h

theorem State.askExclude_listed (h : s.freeEntry = false) (hl : s.member.waitingExcludes.any (fun w => w.1 = p) = true) :
    s.askExclude p cause = s := by
  rw [State.askExclude, if_neg (by simp [h]), if_pos hl]

theorem State.askExclude_unlisted (h : s.freeEntry = false)
    (hl : s.member.waitingExcludes.any (fun w => w.1 = p) = false) : s.askExclude p cause
      = s.setMember { s.member with waitingExcludes := s.member.waitingExcludes ++ [(p, cause)] } := by
  rw [State.askExclude, if_neg (by simp [h]), if_neg (by simp [hl])]

end

theorem State.active_iff {s : State} :
    s.active = true ↔ s.member.state = .catchup ∨ s.member.state = .live ∨ s.member.state = .leaving := by
  rw [State.active, State.state, Bool.or_eq_true, Bool.or_eq_true, decide_eq_true_iff, decide_eq_true_iff,
    decide_eq_true_iff, or_assoc]

/-- A member that an untroubled station excludes by its own decision, a place being free for its EXCLUDE. -/
theorem State.decideExclude_untroubled {s : State} {p : Station} (hu : s.untroubled = true)
    (hm : (s.peer p).state.member = true) (hr : p ≠ s.member.registrar) (hc : s.claim = ClaimUnit.reset)
    (hf : s.freeEntry = true) (cause : Cause) (restart : Bool) : s.decideExclude p cause restart
      = (((s.barred p).dropAnswers p).offer { cls := .peerExcluded, peer := some p, detail := cause.code.setWidth 16 }).enqueue
        (.exclude p cause) := by
  have active : s.active = true := State.active_of_state (Or.inl (State.untroubled_iff.mp hu).1)
  have excluded := State.exclude_untroubled hu hm hr hc cause restart
  have stays : (s.exclude p cause restart).active = true := by rw [excluded]; exact active
  have free : (s.exclude p cause restart).freeEntry = true := by rw [excluded]; exact hf
  rw [State.decideExclude_member s p cause restart active hm, if_pos stays,
    State.askExclude_free _ p cause free, excluded]

theorem State.silenceExpires_of_limit {s : State} {p : Station} {n : Nat} (h : (s.peer p).silence = some n)
    (hn : 6144 ≤ n) : s.silenceExpires p = s.decideExclude p .silence true := by
  have run : reached (s.peer p).silence Config.silenceLimit = true := by simp [reached, h, Config.silenceLimit, hn]
  exact if_pos run

theorem exec_silenceTimeout {s : State} {p : Station} {n : Nat} (hr : s.resetLow = false)
    (h : (s.peer p).silence = some n) (hn : 6144 ≤ n) :
    exec (.silenceTimeout p) s = .next (s.tickStamp.decideExclude p .silence true).settleEvent := by
  show Host.Outcome.next (s.event (·.silenceExpires p)) = _
  rw [State.event_of_resetHigh hr, State.silenceExpires_of_limit (s := s.tickStamp) h hn]

theorem State.enqueueWaiting_of_listed {s : State} {p : Station} {c : Cause}
    (h : s.member.waitingExcludes.find? (fun w => w.1 = p) = some (p, c)) : s.enqueueWaiting p
      = (s.setMember { s.member with waitingExcludes := s.member.waitingExcludes.filter (fun x => x.1 ≠ p) }).enqueue
        (.exclude p c) := by
  simp only [State.enqueueWaiting, h]

/-- Settles O34: the row of the silence timer is a decided exclusion, and a decided exclusion by its cases. -/
theorem silenceAndWaitingExclude : Obligations.SilenceAndWaitingExclude := by
  refine ⟨?_, ?_, fun p n s hr h hn => exec_silenceTimeout hr h hn, ?_⟩
  · intro p n s hr hu hm h hn hp hc hf u t still
    have decided : s.tickStamp.decideExclude p .silence true = t :=
      State.decideExclude_untroubled (s := s.tickStamp) hu hm hp hc hf .silence true
    rw [exec_silenceTimeout hr h hn, decided, State.settleEvent_of_still still]
  · intro p c s hr hf h t still
    have enqueued : s.tickStamp.enqueueIfFree p = t :=
      (if_pos hf).trans (State.enqueueWaiting_of_listed (s := s.tickStamp) h)
    show Host.Outcome.next (s.event (·.enqueueIfFree p)) = _
    rw [State.event_of_resetHigh hr, enqueued, State.settleEvent_of_still still]
  · intro p c restart s grouped u t
    have group : ∀ x, grouped x ↔ x.active = true := fun x => State.active_iff.symm
    refine ⟨fun h => State.decideExclude_other s p c restart (h.imp_left (by simp [group])), fun hs hm => ?_⟩
    have decided : t = if u.active then u.askExclude p c else u :=
      State.decideExclude_member s p c restart ((group s).mp hs) hm
    refine ⟨fun hu => ?_, fun hu hf => ?_, fun hu hf hl => ?_, fun hu hf hl => ?_⟩
    · rw [decided, if_neg (by rwa [← group])]
    · rw [decided, if_pos ((group u).mp hu), State.askExclude_free u p c hf]
    · obtain ⟨x, hx⟩ := hl
      rw [decided, if_pos ((group u).mp hu), State.askExclude_listed u p c hf (by simpa using ⟨x, hx⟩)]
    · rw [decided, if_pos ((group u).mp hu), State.askExclude_unlisted u p c hf (by
        rw [List.any_eq_false]
        rintro ⟨y, x⟩ hx he
        obtain rfl : y = p := of_decide_eq_true he
        exact hl x hx)]

/-! ## JOIN (R92, Table 5-5) -/

theorem State.admitQueued_iff {s : State} {j : Station} :
    s.admitQueued j = true ↔ ∃ e ∈ s.seq.queue, ∃ mask, e.frame.payload = .admission j mask := by
  rw [State.admitQueued, List.any_eq_true]
  refine exists_congr (fun e => and_congr_right (fun _ => ?_))
  split
  · next k m h => simp [h]
  · next h => simpa using fun m => h j m

theorem State.ownsAny_iff {s : State} {j : Station} : s.ownsAny j = true ↔ ∃ b, (s.entry b).owner = j := by
  simp only [State.ownsAny, State.anyEntry, List.any_eq_true, decide_eq_true_eq, Vector.mem_toList_iff,
    Vector.mem_iff_getElem, State.entry, look]
  constructor
  · rintro ⟨_, ⟨i, hi, rfl⟩, h⟩
    exact ⟨⟨i, hi⟩, h⟩
  · rintro ⟨b, h⟩
    exact ⟨_, ⟨b.val, b.isLt, rfl⟩, h⟩

/-- The row of a JOIN heard is the event of its judgement. -/
theorem exec_joinReceived {l : LaneId} {j : Station} {q : SeqNo} {s : State} (h : s.hearsFrame l ⟨j, 0, q, .join⟩ = true) :
    exec (.joinReceived (cleanFrame l ⟨j, 0, q, .join⟩)) s = .next ((s.carried l j).joinArrive j).settleEvent :=
  congrArg Host.Outcome.next (State.event_of_hearing h)

section
variable {s : State} {j : Station}

theorem State.joinArrive_elsewhere (hr : s.isRegistrar = false) : s.joinArrive j = s := if_pos (by simp [hr])

theorem State.joinArrive_queued (hr : s.isRegistrar = true) (hq : s.admitQueued j = true) : s.joinArrive j = s := by
  simp [State.joinArrive, hr, hq]

theorem State.joinArrive_member (hr : s.isRegistrar = true) (hq : s.admitQueued j = false) (hm : s.isMember j = true) :
    s.joinArrive j = s.decideExclude j .rejoin true := by simp [State.joinArrive, hr, hq, hm]

theorem State.joinArrive_ignored (hr : s.isRegistrar = true) (hq : s.admitQueued j = false) (hm : s.isMember j = false)
    (h : s.ownsAny j = true ∨ s.freeEntry = false) : s.joinArrive j = s := by
  cases ho : s.ownsAny j <;> simp_all [State.joinArrive]

theorem State.joinArrive_admits (hr : s.isRegistrar = true) (hq : s.admitQueued j = false) (hm : s.isMember j = false)
    (ho : s.ownsAny j = false) (hf : s.freeEntry = true) : s.joinArrive j = s.admitJoiner j := by
  simp [State.joinArrive, hr, hq, hm, ho, hf]

end

section
variable (s : State) (l : LaneId) (p j : Station)

@[simp] theorem State.isRegistrar_carried : (s.carried l p).isRegistrar = s.isRegistrar := by simp [State.isRegistrar]
@[simp] theorem State.admitQueued_carried : (s.carried l p).admitQueued j = s.admitQueued j := by simp [State.admitQueued]
@[simp] theorem State.ownsAny_carried : (s.carried l p).ownsAny j = s.ownsAny j := by simp [State.ownsAny, State.anyEntry]
@[simp] theorem State.freeEntry_carried : (s.carried l p).freeEntry = s.freeEntry := by simp [State.freeEntry]

end

/-- An untroubled registrar admits a joiner that it did not hold as a member: nothing is to be told (R92, R93). -/
theorem State.admitJoiner_untroubled {s : State} {j : Station} (hu : s.untroubled = true) (hm : s.isMember j = false) :
    s.admitJoiner j = (s.setPeer j (Peer.admitted .catchup (some 0) s.seq.next false)).enqueue
      (.admission j (maskOf (fun p => p = j || p = s.member.own || s.isMember p))) := by
  have mask : (s.setPeer j (Peer.admitted .catchup (some 0) s.seq.next false)).membershipMask
      = maskOf (fun p => p = j || p = s.member.own || s.isMember p) := by
    refine congrArg maskOf (funext fun p => ?_)
    rw [State.isMember, State.peer_setPeer]
    by_cases hp : p = j
    · simp [hp, Peer.admitted, PeerState.member]
    · simp only [hp, if_false, decide_false, Bool.false_or]
      rfl
  have live : ∀ y, (((s.setPeer j (Peer.admitted .catchup (some 0) s.seq.next false)).enqueue
      (.admission j (s.setPeer j (Peer.admitted .catchup (some 0) s.seq.next false)).membershipMask)).peer y).state = .live
        ↔ (s.peer y).state = .live := by
    intro y
    show ((s.setPeer j _).peer y).state = .live ↔ _
    rw [State.peer_setPeer]
    split
    · next hy =>
      subst hy
      rw [State.isMember] at hm
      cases hs : (s.peer y).state <;> simp_all [Peer.admitted, PeerState.member]
    · exact Iff.rfl
  have still := State.untroubled_of_same (t := (s.setPeer j (Peer.admitted .catchup (some 0) s.seq.next false)).enqueue
    (.admission j (s.setPeer j (Peer.admitted .catchup (some 0) s.seq.next false)).membershipMask)) hu rfl rfl rfl rfl rfl live
  exact (State.peersChanged_of_untroubled still none).trans (by rw [mask])

/-- Settles O47: the row of a JOIN by Table 5-5, case by case. -/
theorem joinIsAdmitted : Obligations.JoinIsAdmitted := by
  refine ⟨?_, ?_⟩
  · intro l j q s f h hu hr hm hq ho hf u t still
    have stranger : (s.carried l j).isMember j = false := by simpa using hm
    have admits : (s.carried l j).joinArrive j = t := by
      rw [State.joinArrive_admits (by simpa using hr) (by simpa using hq) stranger (by simpa using ho) (by simpa using hf),
        State.admitJoiner_untroubled (State.untroubled_carried hu l j) stranger]
      simp only [t, u, Peer.admitted, State.seq_carried, State.member_own_carried, State.isMember_carried]
    rw [exec_joinReceived h, admits, State.settleEvent_of_still still]
  · intro l j q s f h ignored queued owns
    have row := exec_joinReceived h
    have unqueued : ¬ queued → (s.carried l j).admitQueued j = false := by
      intro hq
      rw [State.admitQueued_carried, ← Bool.not_eq_true, State.admitQueued_iff]
      exact hq
    have role : ∀ {v}, s.isRegistrar = v → (s.carried l j).isRegistrar = v := fun e => by simpa using e
    have member : ∀ {v}, s.isMember j = v → (s.carried l j).isMember j = v := fun e => by simpa using e
    have excludes : s.isRegistrar = true → ¬ queued → s.isMember j = true → exec (.joinReceived (cleanFrame l f)) s
        = .next ((s.carried l j).decideExclude j .rejoin true).settleEvent := by
      intro hr hq hm
      rw [row, State.joinArrive_member (role hr) (unqueued hq) (member hm)]
    refine ⟨fun hr => ?_, fun hr hq => ?_, fun hr hq hm ho => ?_, fun hr hq hm _ hf => ?_, excludes,
      fun hr hq hm hu hc hf => ?_, State.admitQueued_iff, State.ownsAny_iff⟩
    · exact row.trans (by rw [State.joinArrive_elsewhere (role hr)])
    · exact row.trans (by
        rw [State.joinArrive_queued (role hr) ((s.admitQueued_carried l j j).trans (State.admitQueued_iff.mpr hq))])
    · exact row.trans (by
        rw [State.joinArrive_ignored (role hr) (unqueued hq) (member hm)
          (Or.inl ((s.ownsAny_carried l j j).trans (State.ownsAny_iff.mpr ho)))])
    · exact row.trans (by
        rw [State.joinArrive_ignored (role hr) (unqueued hq) (member hm) (Or.inr (by simpa using hf))])
    · intro u t still
      have other : j ≠ s.member.own := by
        have heard := State.canHear_of_hears h
        simp only [State.canHear, Bool.and_eq_true, decide_eq_true_eq] at heard
        exact heard.1.2
      have decided : (s.carried l j).decideExclude j .rejoin true = t := by
        refine State.decideExclude_untroubled (State.untroubled_carried hu l j) (member hm) ?_ (by simpa using hc)
          (by simpa using hf) .rejoin true
        rw [State.registrar_carried, (State.isRegistrar_iff.mp hr).2]
        exact other
      rw [excludes hr hq hm, decided, State.settleEvent_of_still still]

end Sys2Proof.Machine
end

section
/-! An ADMIT accepted: for another station, and in JOINING for this one (R71, R72, R91, R93, R94). -/

namespace Sys2Proof.Machine

/-! ## An accepted sequenced frame (R71) -/

/-- The row of a sequenced frame in sequence from a member is the event of its acceptance. -/
theorem exec_accepted {l : LaneId} {p : Station} {q : SeqNo} {y : Payload} {s : State}
    (h : s.hearsFrame l ⟨p, 0, q, y⟩ = true) (hm : (s.peer p).state.member = true) (hx : (s.peer p).expect = some q)
    (hy : ∀ u : State, u.deliverActive ⟨p, 0, q, y⟩ = u.sequenced ⟨p, 0, q, y⟩) (k : Kind) :
    exec (k.row (cleanFrame l ⟨p, 0, q, y⟩)) s = .next ((s.acceptedFrom l p q).accept ⟨p, 0, q, y⟩).settleEvent := by
  rw [exec_frameRow, State.event_of_hearing h, hy, State.sequenced_accepted (State.active_of_hears h) hm hx]

section
variable (s : State) (l : LaneId) (p j : Station) (q : SeqNo)

@[simp] theorem State.isMember_acceptedFrom : (s.acceptedFrom l p q).isMember j = s.isMember j := by
  rw [State.isMember, State.peerState_acceptedFrom, State.isMember]

@[simp] theorem State.active_acceptedFrom : (s.acceptedFrom l p q).active = s.active := s.active_carried l p

@[simp] theorem State.seqNext_acceptedFrom : (s.acceptedFrom l p q).seq.next = s.seq.next := by
  show s.seq.oweAccepted.next = _
  rw [SeqUnit.oweAccepted_eq]

end

/-! ## ADMIT for another station (R93) -/

section
variable {s : State} {j : Station}

theorem State.admitArrive_stays (hj : j ≠ s.own) (ha : (s.decideExclude j .rejoin true).active = true) :
    s.admitArrive j = (((s.decideExclude j .rejoin true).setPeer j
        (Peer.admitted .catchup (some 0) (s.decideExclude j .rejoin true).seq.next true)).setMember
      { ((s.decideExclude j .rejoin true).setPeer j
        (Peer.admitted .catchup (some 0) (s.decideExclude j .rejoin true).seq.next true)).member with
          urgentStatus := true }).peersChanged none := by
  rw [State.admitArrive, if_neg hj]
  exact if_pos ha

theorem State.admitArrive_leaves (hj : j ≠ s.own) (ha : (s.decideExclude j .rejoin true).active = false) :
    s.admitArrive j = s.decideExclude j .rejoin true := by
  rw [State.admitArrive, if_neg hj]
  exact if_neg (by simp [ha])

/-- A joiner in CATCHUP leaves the LIVE stations as they are, where it was no member (R91). -/
theorem State.live_setPeer_joiner (hm : s.isMember j = false) {x : Peer} (hx : x.state = .catchup) (y : Station) :
    ((s.setPeer j x).peer y).state = .live ↔ (s.peer y).state = .live := by
  rw [State.peer_setPeer]
  split
  · next hy =>
    rw [hx, hy]
    refine ⟨fun h => (nomatch h), fun h => ?_⟩
    simp [State.isMember, h, PeerState.member] at hm
  · exact Iff.rfl

end

/-- Settles O48: the row of an accepted ADMIT is the decided exclusion of the joiner, if it is a member, and its admission. -/
theorem admitIsAccepted : Obligations.AdmitIsAccepted := by
  refine ⟨?_, ?_⟩
  · intro l p j q mask s f h hu hm hx hj hn u t still
    have stays : (s.acceptedFrom l p q).decideExclude j .rejoin true = s.acceptedFrom l p q :=
      State.decideExclude_other _ j .rejoin true (Or.inr ((s.isMember_acceptedFrom l p j q).trans hn))
    have active : (s.acceptedFrom l p q).active = true := (s.active_acceptedFrom l p q).trans (State.active_of_hears h)
    have seated : t.untroubled = true := by
      refine State.untroubled_of_same (State.untroubled_acceptedFrom hu l p q) rfl rfl rfl rfl rfl (fun y => ?_)
      exact State.live_setPeer_joiner (s := s.acceptedFrom l p q) (by simpa using hn) rfl y
    have arrives : (s.acceptedFrom l p q).admitArrive j = t := by
      rw [State.admitArrive_stays (fun e => hj (e.trans (s.own_acceptedFrom l p q))) (by rw [stays]; exact active), stays, State.seqNext_acceptedFrom]
      exact State.peersChanged_of_untroubled seated none
    rw [← State.settleEvent_of_still still, ← arrives]
    exact exec_accepted h hm hx (fun _ => rfl) .admission
  · intro l p j q mask s f h hm hx hj u v w
    have row : exec (.admitReceived (cleanFrame l f)) s = .next ((s.acceptedFrom l p q).admitArrive j).settleEvent :=
      exec_accepted h hm hx (fun _ => rfl) .admission
    have other : j ≠ u.own := fun e => hj (e.trans (s.own_acceptedFrom l p q))
    have decided : u.decideExclude j .rejoin true = v := by
      by_cases hn : (s.peer j).state.member = true
      · exact (if_pos hn).symm
      · refine (State.decideExclude_other u j .rejoin true (Or.inr ?_)).trans (if_neg hn).symm
        simpa [u, State.isMember] using hn
    refine ⟨fun ha => ?_, fun ha => ?_, fun hn => ?_⟩
    · rw [row, State.admitArrive_stays other (by rw [decided]; exact ha), decided]
      rfl
    · rw [row, State.admitArrive_leaves other (by rw [decided]; exact ha), decided]
    · have same : v = u := if_neg (by simp [hn])
      rw [same]
      exact (s.active_acceptedFrom l p q).trans (State.active_of_hears h)

/-! ## ADMIT for this station (R72, R94) -/

theorem look_foldl_put {α : Type} {n : Nat} (c : Fin n → Prop) [DecidablePred c] (g : Fin n → α) (xs : List (Fin n))
    (t : Vector α n) (i : Fin n) : look (xs.foldl (fun t p => if c p then put t p (g p) else t) t) i
      = if i ∈ xs ∧ c i then g i else look t i := by
  induction xs generalizing t with
  | nil => simp
  | cons x xs ih =>
    rw [List.foldl_cons, ih]
    by_cases hi : i ∈ xs ∧ c i
    · rw [if_pos hi, if_pos ⟨List.mem_cons_of_mem x hi.1, hi.2⟩]
    · rw [if_neg hi]
      by_cases hx : i = x
      · subst hx
        by_cases hc : c i <;> simp [hc]
      · have same : look (if c x then put t x (g x) else t) i = look t i := by
          split
          · exact look_put_ne t x i _ hx
          · rfl
        rw [same, if_neg (by simpa [hx] using hi)]

/-- The mask of a well-formed ADMIT names no station 0, and its sender. -/
theorem Payload.ok_admission {p j : Station} {mask : StationMask} (h : (Payload.admission j mask).ok p = true) :
    j ≠ 0 ∧ maskHas mask 0 = false ∧ maskHas mask p = true := by
  simp only [Payload.ok, Bool.and_eq_true, decide_eq_true_eq, Bool.not_eq_true'] at h
  obtain ⟨⟨⟨⟨positive, -⟩, zero⟩, -⟩, sender⟩ := h
  refine ⟨?_, zero, sender⟩
  rintro rfl
  exact absurd positive (by decide)

/-- The station once it has taken its place by the mask, before it is told of its registrar (R72, R94). -/
def State.seated (s : State) (sender : Station) (q : SeqNo) (mask : StationMask) : State :=
  (((s.setMember { s.member with
    state := .catchup, peers := s.peersOfMask sender q mask, listen := none, join := none
    urgentStatus := true }).withdraw .join).setSeq s.seq.oweUrgent).setSelect { (s.withdraw .join).select with
      heartbeat := some 0 }

theorem State.admitted_eq (s : State) (sender : Station) (q : SeqNo) (mask : StationMask) : s.admitted sender q mask
    = (((s.seated sender q mask).peersChanged none).setCopyUnit
      { ((s.seated sender q mask).peersChanged none).copy with missing := 0xFFFF }).sendSnapq := rfl

theorem State.peer_seated {s : State} {mask : StationMask} (h0 : maskHas mask 0 = false) (sender : Station) (q : SeqNo)
    (p : Station) : (s.seated sender q mask).peer p = if p ≠ s.member.own ∧ maskHas mask p = true
      then Peer.admitted .live (if p = sender then some (q + 1) else none) s.seq.next false else s.peer p := by
  show look (s.peersOfMask sender q mask) p = _
  rw [State.peersOfMask, look_foldl_put]
  have real : maskHas mask p = true → p ≠ 0 := by
    rintro h rfl
    simp [h0] at h
  exact if_congr ⟨fun h => h.2, fun h => ⟨mem_stations.mpr (real h.2), h⟩⟩ rfl rfl

/-- A search that finds something finds the lowest station there is. -/
theorem stations_find?_least {f : Station → Bool} {p : Station} (h0 : p ≠ 0) (hp : f p = true) :
    (stations.find? f).getD 0 ≠ 0 ∧ f ((stations.find? f).getD 0) = true
      ∧ ∀ y, y ≠ 0 → f y = true → (stations.find? f).getD 0 ≤ y := by
  cases h : stations.find? f with
  | none => exact absurd hp (by simp [stations_find?_eq_none.mp h p h0])
  | some x => exact stations_find?_eq_some.mp h

/-- The tables of this station hold station p as LIVE: its own state, or the peer's entry (R91). -/
def State.holdsLive (s : State) (p : Station) : Bool := if p = s.own then s.state = .live else (s.peer p).state = .live

theorem State.computeRegistrar_eq (s : State) : s.computeRegistrar = (stations.find? s.holdsLive).getD 0 := rfl

theorem State.holdsLive_own (s : State) : s.holdsLive s.own = true ↔ s.member.state = .live := by
  rw [State.holdsLive, if_pos rfl, State.state, decide_eq_true_iff]

theorem State.holdsLive_peer {s : State} {p : Station} (hp : p ≠ s.own) :
    s.holdsLive p = true ↔ (s.peer p).state = .live := by
  rw [State.holdsLive, if_neg hp, decide_eq_true_iff]

/-- Where the sender is of the mask, the joiner's registrar is the lowest station of it but the joiner (R91). -/
theorem State.computeRegistrar_seated {s : State} {mask : StationMask} {sender : Station} (h0 : maskHas mask 0 = false)
    (empty : ∀ p, s.peer p = Peer.empty) (hs : maskHas mask sender = true) (other : sender ≠ s.member.own) (q : SeqNo) :
    (s.seated sender q mask).computeRegistrar ≠ 0 ∧ (s.seated sender q mask).computeRegistrar ≠ s.member.own
      ∧ maskHas mask (s.seated sender q mask).computeRegistrar = true
      ∧ ∀ p, p ≠ s.member.own → maskHas mask p = true → (s.seated sender q mask).computeRegistrar ≤ p := by
  have real : ∀ p, maskHas mask p = true → p ≠ 0 := by
    rintro p h rfl
    simp [h0] at h
  have live : ∀ p, (s.seated sender q mask).holdsLive p = true ↔ p ≠ s.member.own ∧ maskHas mask p = true := by
    intro p
    by_cases hp : p = s.member.own
    · subst hp
      rw [show s.member.own = (s.seated sender q mask).own from rfl, State.holdsLive_own]
      exact ⟨fun h => (nomatch h), fun h => absurd rfl h.1⟩
    · rw [State.holdsLive_peer (show p ≠ (s.seated sender q mask).own from hp), State.peer_seated h0, empty]
      by_cases hm : maskHas mask p = true <;> simp [hp, hm, Peer.admitted, Peer.empty]
  rw [State.computeRegistrar_eq]
  obtain ⟨positive, least, low⟩ := stations_find?_least (real sender hs) ((live sender).mpr ⟨other, hs⟩)
  obtain ⟨own, named⟩ := (live _).mp least
  exact ⟨positive, own, named, fun p hp hm => low p (real p hm) ((live p).mpr ⟨hp, hm⟩)⟩

theorem SeqUnit.owed_oweUrgent (q : SeqUnit) : q.oweUrgent.owed = true := by rw [SeqUnit.oweUrgent, SeqUnit.owe_eq]

@[simp] theorem State.stamp_carried (s : State) (l : LaneId) (p : Station) : (s.carried l p).stamp = s.stamp + 1 := by
  rw [State.carried, State.hear_eq]
  cases l <;> rfl

/-- The SNAPQ of all parts that a joiner makes due names its registrar and this event (R104). -/
theorem State.sendSnapq_of_all (s : State) : ∃ requests, (s.setCopyUnit { s.copy with missing := 0xFFFF }).sendSnapq
      = (s.setCopyUnit { s.copy with missing := 0xFFFF, snapq := some 0 }).setSelect { s.select with requests := requests }
    ∧ ⟨.snapq 0xFFFF, s.member.registrar, s.stamp⟩ ∈ requests :=
  ⟨_, rfl, State.mem_makeDue.mpr (Or.inr rfl)⟩

/-- The joiner seated and told of its registrar: it asks that registrar for every part. -/
theorem State.admitted_told {s : State} {mask : StationMask} {sender : Station} {q : SeqNo}
    (hr : (s.seated sender q mask).computeRegistrar ≠ 0) : ∃ (claim : ClaimUnit) (copy : CopyUnit) (settle : SettleUnit)
      (requests : List Request), s.admitted sender q mask = (((((s.seated sender q mask).setMember
        { (s.seated sender q mask).member with registrar := (s.seated sender q mask).computeRegistrar }).setClaim
          claim).setCopyUnit { copy with missing := 0xFFFF, snapq := some 0 }).setSettle settle).setSelect
            { (s.seated sender q mask).select with requests := requests }
      ∧ ⟨.snapq 0xFFFF, (s.seated sender q mask).computeRegistrar, (s.seated sender q mask).stamp⟩ ∈ requests := by
  rw [State.admitted_eq, State.peersChanged_told (fun _ => hr) none]
  generalize s.seated sender q mask = u
  obtain ⟨claim, copy, settle, requests, same⟩ := (PeersTold.of_told u none).same
  obtain ⟨asking, asked, asks⟩ := (u.told none).sendSnapq_of_all
  rw [asked, same] at *
  exact ⟨claim, copy, settle, asking, rfl, asks⟩

/-- What the place that the joiner takes says of the station itself (R72). -/
theorem State.seated_facts (s : State) (sender : Station) (q : SeqNo) (mask : StationMask) :
    let u := s.seated sender q mask
    u.member.state = .catchup ∧ u.member.urgentStatus = true ∧ u.member.join = none ∧ u.member.listen = none
      ∧ u.seq.owed = true ∧ u.seq.urgent = true ∧ u.select.heartbeat = some 0 ∧ u.window = s.window ∧ u.dir = s.dir
      ∧ u.stamp = s.stamp :=
  ⟨rfl, rfl, rfl, rfl, SeqUnit.owed_oweUrgent _, rfl, rfl, rfl, rfl, rfl⟩

/-- Settles O49: the ADMIT of this station seats it by the mask, and tells it of its registrar. -/
theorem joinerIsAdmitted : Obligations.JoinerIsAdmitted := by
  intro l sender q mask s f h hs empty _ _ _ _
  have heard := h
  simp only [State.canHear, Bool.and_eq_true, decide_eq_true_eq] at heard
  obtain ⟨⟨⟨-, wf⟩, other⟩, -⟩ := heard
  have ok : f.payload.ok sender = true := by
    simp only [Frame.wellFormed, Bool.and_eq_true] at wf
    exact wf.2
  obtain ⟨-, h0, named⟩ := Payload.ok_admission ok
  have kind : f.payload.kind ≠ .join := by simp [f, Payload.kind]
  let v := (s.carried l sender).setMember { (s.carried l sender).member with listen := some 0 }
  have own : v.member.own = s.member.own := s.member_own_carried l sender
  have seq : v.seq = s.seq := s.seq_carried l sender
  have stamp : v.stamp = s.stamp + 1 := s.stamp_carried l sender
  have window : v.window = s.window := s.window_carried l sender
  have dir : v.dir = s.dir := s.dir_carried l sender
  have peers : ∀ p, v.peer p = Peer.empty := fun p => by
    show (s.carried l sender).peer p = _
    simp [State.peer_carried, State.isMember, empty, Peer.empty, PeerState.member]
  have row : exec (.admitReceived (cleanFrame l f)) s = .next (v.admitted sender q mask).settleEvent := by
    have here : v.deliverJoining f = v.admitted sender q mask := if_pos own.symm
    rw [← here]
    refine (exec_frameRow_delivers h .admission).trans ?_
    rw [State.deliver_joining ((s.member_state_carried l sender).trans hs),
      State.heard_joining ((s.member_state_carried l sender).trans hs) kind]
  clear_value v
  have registrar := State.computeRegistrar_seated h0 peers named (own ▸ other) q
  have seated := State.peer_seated (s := v) h0 sender q
  rw [own] at registrar
  simp only [own, peers, seq] at seated
  obtain ⟨positive, notOwn, ofMask, lowest⟩ := registrar
  obtain ⟨claim, copy, settle, requests, told, asks⟩ := State.admitted_told positive
  obtain ⟨state, urgent, join, listen, owed, prompt, heartbeat, window', dir', stamp'⟩ := v.seated_facts sender q mask
  rw [stamp', stamp] at asks
  generalize v.seated sender q mask = u at *
  generalize u.computeRegistrar = registrar at *
  refine ⟨_, row, ?_⟩
  rw [told]
  exact ⟨state, urgent, join, listen, rfl, rfl, owed, prompt, heartbeat, window'.trans window, dir'.trans dir, positive,
    notOwn, ofMask, lowest, asks, seated⟩

end Sys2Proof.Machine
end

section
/-! An EXCLUDE accepted: what it leaves of the excluded station, what the units are told, and the job restarted (R44, R49, R83, R96, R128). -/

namespace Sys2Proof.Machine

/-! ## The entry of the excluded, unit by unit (R96) -/

section
variable (s : State) (cause : Cause) (p : Station)

theorem State.excludeEntry_units : (s.excludeEntry cause p).window = s.window ∧ (s.excludeEntry cause p).write = s.write
    ∧ (s.excludeEntry cause p).port = s.port ∧ (s.excludeEntry cause p).seq = s.seq
    ∧ (s.excludeEntry cause p).select = s.select ∧ (s.excludeEntry cause p).stamp = s.stamp
    ∧ (s.excludeEntry cause p).log = { s.log with offered := s.log.offered ++ s.exclusions cause p } := by
  obtain ⟨dir, same⟩ := s.excludeEntry_same cause p
  simp [same, State.barred, State.setPeer]

theorem State.claim_excludeEntry :
    (s.excludeEntry cause p).claim = { s.claim with list := s.claim.list.filter (fun c => c.2 ≠ p) } := by
  obtain ⟨dir, same⟩ := s.excludeEntry_same cause p
  rw [same]
  rfl

theorem State.copy_excludeEntry : (s.excludeEntry cause p).copy
    = { s.copy with answers := s.copy.answers.filter (fun a => a.requester ≠ p) } := by
  obtain ⟨dir, same⟩ := s.excludeEntry_same cause p
  rw [same]
  rfl

theorem State.settle_excludeEntry : (s.excludeEntry cause p).settle
    = { s.settle with reply := s.settle.reply.filter (fun r => r.requester ≠ p) } := by
  obtain ⟨dir, same⟩ := s.excludeEntry_same cause p
  rw [same]
  rfl

end

section
variable {s : State} {p : Station} (own : p ≠ s.own)
include own

/-- Blocks become orphans that the excluded station owns (R4). -/
theorem State.orphan_excludeEntry (zero : p ≠ 0) (cause : Cause) (b : Block) :
    (s.excludeEntry cause p).orphan b = true ↔ s.orphan b = true ∨ (s.entry b).owner = p := by
  have owns : (s.excludeEntry cause p).own = s.own := by rw [State.own, State.excludeEntry_member]; rfl
  simp only [State.orphan, State.orphaned, (s.owner_excludeEntry cause p b).1, owns, State.peer_excludeEntry]
  by_cases h : (s.entry b).owner = p
  · simp [h, own, zero]
  · simp [h]

/-- The exclusion of another takes no station's role from it (R42, R91). -/
theorem State.losesRole_excludeEntry (hr : s.computeRegistrar = s.member.registrar) (cause : Cause) :
    ¬ (s.excludeEntry cause p).losesRole := by
  rintro ⟨role, lost⟩
  have owns : (s.excludeEntry cause p).own = s.own := by rw [State.own, State.excludeEntry_member]; rfl
  have registrar : (s.excludeEntry cause p).member.registrar = s.member.registrar := by
    rw [State.excludeEntry_member]
    rfl
  have mine : s.computeRegistrar = s.own := by rw [hr, ← registrar, ← owns, (State.isRegistrar_iff.mp role).2]
  rw [State.computeRegistrar_excludeEntry, owns, State.registrarWithout_of_other (mine ▸ own)] at lost
  exact lost mine

end

/-! ## The exclusion once the units are told of it -/

/-- The station after an exclusion that restarts no settle job, where no isolation follows. -/
def State.barredTold (s : State) (cause : Cause) (p : Station) : State :=
  ((s.excludeEntry cause p).told none).retargetFrom p

theorem State.barredTold_moved (s : State) (cause : Cause) (p : Station) :
    ClaimsMoved ((s.excludeEntry cause p).told none) (s.barredTold cause p) := ClaimsMoved.retargetClaims _ _

theorem State.claimTarget_registered (s : State) (b : Block) : s.registered.claimTarget b
    = if s.orphan b = true then s.computeRegistrar else (s.entry b).owner := rfl

theorem State.own_registered (s : State) : s.registered.own = s.own := rfl

theorem PeersTold.aimed {s t : State} {gained : Option Station} (h : PeersTold s gained t) :
    t.aimed = s.registered.aimed := by
  have own : t.own = s.registered.own := by rw [State.own, h.member]; rfl
  have orphan : ∀ b, t.orphan b = s.orphan b := fun b => by
    simp only [State.orphan, State.orphaned, own, State.own_registered, h.entry, h.peer]
  have target : ∀ b, t.claimTarget b = s.registered.claimTarget b := fun b => by
    rw [State.claimTarget_registered, State.claimTarget, orphan, h.entry, h.member]
  funext c
  rw [State.aimed, target, own, State.aimed]

/-- A claim slot aimed at the excluded station, or for a block of its, is aimed at the block's owner or the registrar (R44). -/
theorem State.claimSlot_barredTold {s : State} {p : Station} {b : Block} {k : ClaimSlot} (own : p ≠ s.own) (zero : p ≠ 0)
    (h : s.claimSlot b = some k) (hk : k.target = p ∨ (s.entry b).owner = p) (cause : Cause) :
    let target := if s.orphan b = true ∨ (s.entry b).owner = p then s.registrarWithout p else (s.entry b).owner
    (s.barredTold cause p).claimSlot b = some { k with
      target := target, timer := if target = s.member.own ∨ target = 0 then none else some 0 } := by
  have told := PeersTold.of_told (s.excludeEntry cause p) none
  have block := State.block_of_claimSlot h
  have opened : (s.excludeEntry cause p).claimSlot b = some k := by
    rw [State.claimSlot, State.claim_excludeEntry]
    exact h
  have owner := (s.owner_excludeEntry cause p b).1
  have aimed := State.claimSlot_retargetFrom (State.claimSlot_told opened none) told.aimed (p := p)
    (by rwa [told.entry, block, owner])
  have target : (s.excludeEntry cause p).registered.claimTarget k.block
      = if s.orphan b = true ∨ (s.entry b).owner = p then s.registrarWithout p else (s.entry b).owner := by
    rw [State.claimTarget_registered, block, owner, State.computeRegistrar_excludeEntry]
    exact if_congr (State.orphan_excludeEntry own zero cause b) rfl rfl
  have owns : (s.excludeEntry cause p).registered.own = s.member.own := by
    rw [State.own_registered, State.own, State.excludeEntry_member]
    rfl
  refine aimed.trans ?_
  rw [State.aimed, target, owns]

section
variable {s : State} {p : Station} (out : (s.peer p).state ≠ .excluded) (active : s.active = true)
  (kept : s.member.state = .catchup → s.registrarWithout p ≠ 0)
include out active kept

theorem State.exclude_once (cause : Cause) : s.exclude p cause false = s.barredTold cause p :=
  (State.exclude_told out active kept cause false).trans (if_neg (by decide))

theorem State.exclude_restarts (cause : Cause) : s.exclude p cause true = (s.barredTold cause p).restartJob :=
  (State.exclude_told out active kept cause true).trans (if_pos rfl)

theorem State.exclude_moved (cause : Cause) (restart : Bool) :
    JobMoved (s.barredTold cause p) (s.exclude p cause restart) := by
  cases restart with
  | false => rw [State.exclude_once out active kept]; exact JobMoved.refl _
  | true => rw [State.exclude_restarts out active kept]; exact JobMoved.restartJob _

/-- With no job in QUERYING there is none to restart. -/
theorem State.exclude_unqueried {restart : Bool} (h : restart = false ∨ s.settle.job ≠ .querying) (cause : Cause) :
    s.exclude p cause restart = s.barredTold cause p := by
  cases restart with
  | false => exact State.exclude_once out active kept cause
  | true =>
    rw [State.exclude_restarts out active kept]
    refine State.restartJob_of_not_querying ?_
    have told := PeersTold.of_told (s.excludeEntry cause p) none
    have job : (s.excludeEntry cause p).settle.job = s.settle.job := by rw [State.settle_excludeEntry]
    have idle := h.resolve_left (by decide)
    rw [(s.barredTold_moved cause p).settle]
    by_cases hk : (s.excludeEntry cause p).settle.job = .idle ∨ (s.excludeEntry cause p).registered.holdsJob
    · rw [told.kept hk, job]
      exact idle
    · obtain ⟨busy, barred⟩ := not_or.mp hk
      rw [(told.ended busy barred).2]
      exact fun e => nomatch e

end

theorem ClaimsMoved.units {s t : State} (h : ClaimsMoved s t) : t.window = s.window ∧ t.write = s.write
    ∧ t.port = s.port ∧ t.seq = s.seq ∧ t.log = s.log := by
  obtain ⟨_, _, rfl⟩ := h.same
  exact ⟨rfl, rfl, rfl, rfl, rfl⟩

theorem JobMoved.units {s t : State} (h : JobMoved s t) : t.member = s.member ∧ t.dir = s.dir ∧ t.claim = s.claim
    ∧ t.copy = s.copy ∧ t.window = s.window ∧ t.write = s.write ∧ t.port = s.port ∧ t.seq = s.seq := by
  obtain ⟨_, _, _, rfl⟩ := h
  exact ⟨rfl, rfl, rfl, rfl, rfl, rfl, rfl, rfl⟩

section
variable (s : State) (cause : Cause) (p : Station)

theorem State.told_excludeEntry_units : ((s.excludeEntry cause p).told none).window = s.window
    ∧ ((s.excludeEntry cause p).told none).write = s.write ∧ ((s.excludeEntry cause p).told none).port = s.port
    ∧ ((s.excludeEntry cause p).told none).seq = s.seq
    ∧ ((s.excludeEntry cause p).told none).log.offered = s.log.offered ++ s.exclusions cause p := by
  have told := PeersTold.of_told (s.excludeEntry cause p) none
  obtain ⟨window, write, port, seq, -, -, log⟩ := s.excludeEntry_units cause p
  exact ⟨told.window.trans window, told.write.trans write, told.port.trans port, told.seq.trans seq,
    congrArg IncidentLog.offered (told.log.trans log)⟩

theorem State.told_excludeEntry_member : ((s.excludeEntry cause p).told none).member
    = { (s.barred p).member with registrar := s.registrarWithout p } := by
  rw [(PeersTold.of_told (s.excludeEntry cause p) none).member, State.excludeEntry_member,
    State.computeRegistrar_excludeEntry, State.barred]

theorem State.told_excludeEntry_peer (y : Station) : ((s.excludeEntry cause p).told none).peer y
    = if y = p then { Peer.empty with state := .excluded } else s.peer y := by
  rw [(PeersTold.of_told (s.excludeEntry cause p) none).peer, State.peer_excludeEntry]

end

/-- What the exclusion of another station leaves, where no isolation follows (R96). -/
theorem State.exclude_leaves {s : State} {p : Station} (out : (s.peer p).state ≠ .excluded) (own : p ≠ s.own) (zero : p ≠ 0)
    (active : s.active = true) (kept : s.member.state = .catchup → s.registrarWithout p ≠ 0)
    (current : s.computeRegistrar = s.member.registrar) (cause : Cause) (restart : Bool) :
    let t := s.exclude p cause restart
    (∀ y, t.peer y = if y = p then { Peer.empty with state := .excluded } else s.peer y)
    ∧ t.member.state = s.member.state ∧ t.member.registrar = s.registrarWithout p
    ∧ t.window = s.window ∧ t.write = s.write ∧ t.port = s.port ∧ t.seq = s.seq
    ∧ (∀ a, a ∈ t.copy.answers ↔ a ∈ s.copy.answers ∧ a.requester ≠ p)
    ∧ (∀ e, e ∈ t.claim.list ↔ e ∈ s.claim.list ∧ e.2 ≠ p)
    ∧ (∀ b, (s.soleClaimant b p → t.entry b = { s.entry b with yielding := false })
        ∧ (¬ s.soleClaimant b p → t.entry b = s.entry b))
    ∧ (∀ b k, s.claimSlot b = some k → (k.target = p ∨ (s.entry b).owner = p) →
        let target := if s.orphan b = true ∨ (s.entry b).owner = p then s.registrarWithout p else (s.entry b).owner
        t.claimSlot b = some { k with
          target := target, timer := if target = s.member.own ∨ target = 0 then none else some 0 })
    ∧ (restart = false ∨ s.settle.job ≠ .querying → t.log.offered = s.log.offered ++ s.exclusions cause p) := by
  intro t
  have told := PeersTold.of_told (s.excludeEntry cause p) none
  have moved := s.barredTold_moved cause p
  obtain ⟨window, write, port, seq, log⟩ := moved.units
  obtain ⟨window', write', port', seq', offered⟩ := s.told_excludeEntry_units cause p
  obtain ⟨member, dir, claim, copy, window'', write'', port'', seq''⟩ :=
    (State.exclude_moved out active kept cause restart).units
  have member' : t.member = { (s.barred p).member with registrar := s.registrarWithout p } :=
    member.trans (moved.member.trans (s.told_excludeEntry_member cause p))
  have peer : ∀ y, t.peer y = ((s.excludeEntry cause p).told none).peer y := fun y => by
    rw [State.peer, member, moved.member]
    rfl
  have entry : ∀ b, t.entry b = (s.excludeEntry cause p).entry b := fun b => by
    rw [State.entry, dir, moved.dir, told.dir]
    rfl
  refine ⟨fun y => (peer y).trans (s.told_excludeEntry_peer cause p y), by rw [member']; rfl, by rw [member'],
    window''.trans (window.trans window'), write''.trans (write.trans write'), port''.trans (port.trans port'),
    seq''.trans (seq.trans seq'), fun a => ?_, fun e => ?_, fun b => ?_, fun b k h hk => ?_, fun h => ?_⟩
  · rw [copy, moved.copy, told.copy.2.1, State.copy_excludeEntry]
    simp
  · rw [claim, moved.list, told.list, State.claim_excludeEntry]
    simp [State.losesRole_excludeEntry own current cause]
  · rw [entry]
    exact s.entry_excludeEntry cause p b
  · have slot : t.claimSlot b = (s.barredTold cause p).claimSlot b := by
      rw [State.claimSlot, claim]
      rfl
    exact slot.trans (State.claimSlot_barredTold own zero h hk cause)
  · rw [show t = s.barredTold cause p from State.exclude_unqueried out active kept h cause, log]
    exact offered

/-! ## What the units are told -/

section
variable (s : State) (cause : Cause) (p : Station)

/-- A settle job is held after the exclusion by a LIVE registrar (R129). -/
theorem State.holdsJob_excludeEntry : (s.excludeEntry cause p).registered.holdsJob
    ↔ s.member.state = .live ∧ s.member.own ≠ 0 ∧ s.registrarWithout p = s.member.own := by
  have member := State.excludeEntry_member cause s p
  have own : (s.excludeEntry cause p).own = s.member.own := by rw [State.own, member]; rfl
  have state : (s.excludeEntry cause p).registered.state = s.member.state := by
    show (s.excludeEntry cause p).member.state = _
    rw [member]
    rfl
  rw [State.holdsJob, state, State.isRegistrar_registered, own, State.computeRegistrar_excludeEntry]

theorem State.asksAnew_excludeEntry (kept : s.member.state = .catchup → s.registrarWithout p ≠ 0) :
    (s.excludeEntry cause p).asksAnew
      ↔ s.member.state = .catchup ∧ s.registrarWithout p ≠ s.member.registrar ∧ s.copy.missing ≠ 0 := by
  have member := State.excludeEntry_member cause s p
  have state : (s.excludeEntry cause p).state = s.member.state := by rw [State.state, member]; rfl
  have registrar : (s.excludeEntry cause p).member.registrar = s.member.registrar := by rw [member]; rfl
  rw [State.asksAnew, state, registrar, State.computeRegistrar_excludeEntry, State.copy_excludeEntry]
  exact ⟨fun ⟨a, b, c, _⟩ => ⟨a, b, c⟩, fun ⟨a, b, c⟩ => ⟨a, b, c, kept a⟩⟩

theorem State.usable_excludeEntry (y : Station) : (s.excludeEntry cause p).usable y = true ↔
    y ≠ 0 ∧ y ≠ s.member.own ∧ y ≠ p ∧ ((s.peer y).state = .live ∨ (s.peer y).state = .leaving) := by
  have own : (s.excludeEntry cause p).own = s.member.own := by rw [State.own, State.excludeEntry_member]; rfl
  rw [State.usable_iff, own, State.peer_excludeEntry]
  by_cases hy : y = p <;> simp [hy, Peer.empty]

/-- A source is computed after the exclusion as with the entry alone changed (Table 6-2). -/
theorem State.fetchSource_excludeEntry (b : Block) (n : Nat) :
    (s.excludeEntry cause p).fetchSource b n = (s.barred p).fetchSource b n := by
  have member := State.excludeEntry_member cause s p
  obtain ⟨owner, donor⟩ := s.owner_excludeEntry cause p b
  exact State.fetchSource_congr (s := s.barred p) (by rw [member, State.barred]) (by rw [member, State.barred]) owner donor n

theorem State.fetchMoves_excludeEntry (k : FetchSlot) : (s.excludeEntry cause p).fetchMoves none k = true
    ↔ k.source ≠ 0 ∧ ¬ (k.source ≠ 0 ∧ k.source ≠ s.member.own ∧ k.source ≠ p
      ∧ ((s.peer k.source).state = .live ∨ (s.peer k.source).state = .leaving)) := by
  rw [State.fetchMoves_iff, ← State.usable_excludeEntry s cause p, Bool.not_eq_true]
  simp

end

/-- What the units make of an exclusion where no isolation follows (R105, R112, R116, R129). -/
theorem State.barredTold_units (s : State) (cause : Cause) (p : Station)
    (kept : s.member.state = .catchup → s.registrarWithout p ≠ 0) :
    let t := s.barredTold cause p
    let filed := { s.settle with reply := s.settle.reply.filter (fun r => r.requester ≠ p) }
    let holds := s.member.state = .live ∧ s.member.own ≠ 0 ∧ s.registrarWithout p = s.member.own
    let asks := s.member.state = .catchup ∧ s.registrarWithout p ≠ s.member.registrar ∧ s.copy.missing ≠ 0
    (s.settle.job = .idle ∨ holds → t.settle = filed)
    ∧ (s.settle.job ≠ .idle → ¬ holds → (∀ r ∈ t.select.requests, r.payload.kind ≠ .query) ∧ t.settle = filed.ended)
    ∧ (t.copy.missing = s.copy.missing ∧ t.copy.holds = s.copy.holds)
    ∧ (asks → t.copy.snapq = some 0 ∧ ∀ m y n, ⟨.snapq m, y, n⟩ ∈ t.select.requests
      ↔ m = s.copy.missing ∧ y = s.registrarWithout p ∧ n = s.stamp)
    ∧ (¬ asks → t.copy.snapq = s.copy.snapq ∧ ∀ m y n, ⟨.snapq m, y, n⟩ ∈ t.select.requests
      ↔ ⟨.snapq m, y, n⟩ ∈ s.select.requests) := by
  intro t filed holds asks
  have told := PeersTold.of_told (s.excludeEntry cause p) none
  have moved : ClaimsMoved ((s.excludeEntry cause p).told none) t := s.barredTold_moved cause p
  have requests := moved.others
  clear_value t
  generalize (s.excludeEntry cause p).told none = u at *
  have settle := s.settle_excludeEntry cause p
  have copy := s.copy_excludeEntry cause p
  have missing : (s.excludeEntry cause p).copy.missing = s.copy.missing := by rw [copy]
  have timer : (s.excludeEntry cause p).copy.snapq = s.copy.snapq := by rw [copy]
  have held : (s.excludeEntry cause p).copy.holds = s.copy.holds := by rw [copy]
  have job : (s.excludeEntry cause p).settle.job = s.settle.job := by rw [settle]
  have registrar := State.computeRegistrar_excludeEntry s p cause
  obtain ⟨-, -, -, -, select, stamp, -⟩ := s.excludeEntry_units cause p
  obtain ⟨copied, -, holding⟩ := told.copy
  have asked := told.asked
  have unasked := told.unasked
  have keeps := told.kept
  have ended := told.ended
  rw [s.asksAnew_excludeEntry cause p kept, missing, registrar, stamp] at asked
  rw [s.asksAnew_excludeEntry cause p kept, timer, select] at unasked
  rw [s.holdsJob_excludeEntry cause p, job, settle] at keeps ended
  refine ⟨fun h => moved.settle.trans (keeps h), fun hj hh => ⟨fun r hr => ?_, moved.settle.trans (ended hj hh).2⟩,
    ⟨?_, ?_⟩, fun ha => ⟨?_, fun m y n => ?_⟩, fun ha => ⟨?_, fun m y n => ?_⟩⟩
  · intro hq
    have key : Payload.key r.payload = .query := Payload.key_eq_query.mpr hq
    exact (ended hj hh).1 r ((requests r (by simp [key])).mp hr) hq
  · rw [moved.copy, copied, missing]
  · rw [moved.copy, holding, held]
  · rw [moved.copy, (asked ha).1]
  · rw [requests _ (by simp [Payload.key])]
    exact (asked ha).2 m y n
  · rw [moved.copy, (unasked ha).1]
  · rw [requests _ (by simp [Payload.key])]
    exact (unasked ha).2 m y n

/-- What an exclusion makes of the fetch slots, where no isolation follows (R112). -/
theorem State.barredTold_fetches (s : State) (cause : Cause) (p : Station)
    (hn : (s.copy.slots.map FetchSlot.block).Nodup) :
    let t := s.barredTold cause p
    let usable := fun y : Station =>
      y ≠ 0 ∧ y ≠ s.member.own ∧ y ≠ p ∧ ((s.peer y).state = .live ∨ (s.peer y).state = .leaving)
    let moves := fun k : FetchSlot => k.source ≠ 0 ∧ ¬ usable k.source
    let source := fun k : FetchSlot => (s.barred p).fetchSource k.block k.attempt
    (∃ f : FetchSlot → FetchSlot, t.copy.slots = s.copy.slots.map f
      ∧ ∀ k, (moves k → f k = { k with source := source k, timer := 0 }) ∧ (¬ moves k → f k = k))
    ∧ ∀ k ∈ s.copy.slots, ∀ y n,
      (moves k → (⟨.fetch k.block, y, n⟩ ∈ t.select.requests ↔ source k ≠ 0 ∧ y = source k ∧ n = s.stamp))
      ∧ (¬ moves k → (⟨.fetch k.block, y, n⟩ ∈ t.select.requests ↔ ⟨.fetch k.block, y, n⟩ ∈ s.select.requests)) := by
  intro t usable moves source
  have told := PeersTold.of_told (s.excludeEntry cause p) none
  have moved : ClaimsMoved ((s.excludeEntry cause p).told none) t := s.barredTold_moved cause p
  have requests := moved.others
  clear_value t
  generalize (s.excludeEntry cause p).told none = u at *
  have slots : (s.excludeEntry cause p).copy.slots = s.copy.slots := by rw [s.copy_excludeEntry cause p]
  have sources := s.fetchSource_excludeEntry cause p
  have moves_iff : ∀ k, (s.excludeEntry cause p).fetchMoves none k = true ↔ moves k := s.fetchMoves_excludeEntry cause p
  obtain ⟨-, -, -, -, select, stamp, -⟩ := s.excludeEntry_units cause p
  have opened := told.slots (slots ▸ hn)
  have fetches := told.fetches (slots ▸ hn)
  rw [slots] at opened fetches
  rw [select] at fetches
  refine ⟨⟨_, (congrArg CopyUnit.slots moved.copy).trans opened, fun k => ⟨fun hk => ?_, fun hk => ?_⟩⟩,
    fun k hk y n => ⟨fun hm => ?_, fun hm => ?_⟩⟩
  · rw [State.refetched, if_pos ((moves_iff k).mpr hk), sources]
  · exact if_neg (fun h => hk ((moves_iff k).mp h))
  · rw [requests _ (by simp [Payload.key]), (fetches k hk y n).1 ((moves_iff k).mpr hm), sources, stamp]
  · rw [requests _ (by simp [Payload.key])]
    exact (fetches k hk y n).2 (Bool.not_eq_true _ ▸ fun h => hm ((moves_iff k).mp h))

/-- Without another station that is LIVE, a CATCHUP station has no registrar left (R91). -/
theorem State.registrarWithout_nobody {s : State} {p : Station} (catchup : s.member.state = .catchup)
    (nobody : ∀ y : Station, y ≠ 0 → y ≠ s.member.own → y ≠ p → (s.peer y).state ≠ .live) : s.registrarWithout p = 0 := by
  have none := stations_find?_eq_none (f := fun y => if y = s.member.own then decide (s.member.state = .live)
    else decide (y ≠ p ∧ (s.peer y).state = .live)) |>.mpr (fun y zero => ?_)
  · rw [State.registrarWithout, none]
    rfl
  · by_cases own : y = s.member.own
    · rw [if_pos own, catchup]
      rfl
    · rw [if_neg own]
      exact decide_eq_false (fun ⟨hp, live⟩ => nobody y zero own hp live)

/-- A CATCHUP station that an exclusion leaves without a registrar isolates, told of it before (R83). -/
theorem State.exclude_dissolves {s : State} {p : Station} (out : (s.peer p).state ≠ .excluded)
    (catchup : s.member.state = .catchup) (alone : s.registrarWithout p = 0) (cause : Cause) (restart : Bool) :
    s.exclude p cause restart = (((s.excludeEntry cause p).told none).offer { cls := .groupDissolved }).isolate := by
  have state : (s.excludeEntry cause p).member.state = .catchup := by rw [State.excludeEntry_member]; exact catchup
  have dissolved := State.peersChanged_dissolves state ((State.computeRegistrar_excludeEntry s p cause).trans alone) none
  rw [State.exclude_eq out, dissolved, if_neg (by simp [State.active_isolate])]

/-! ## The restart of a settle job (R119, R128) -/

/-- The stations a settle job asks (R119). -/
def State.jobAsked (s : State) : List Station := stations.filter (fun p => (s.peer p).state = .live || (s.peer p).state = .leaving)

/-- A round begun, with the query timer given (R119). -/
def State.roundBegun (s : State) (timer : Option Nat) : State := s.setSettle { s.settle with
  job := .querying, round := s.settle.round + 1, orphans := s.orphans
  answerers := s.jobAsked.map (fun p => { station := p, answered := false, next := s.orphans.head? })
  queries := 1, queryTimer := timer, table := s.orphans.map SettleRecord.empty, announce := [], announced := 0 }

theorem State.startJob_alone {s : State} (h : s.jobAsked = []) : s.startJob = (s.roundBegun none).decideJob :=
  if_pos (by rw [State.jobAsked] at h; rw [h]; rfl)

theorem State.startJob_asks {s : State} (h : s.jobAsked ≠ []) : s.startJob = (s.roundBegun (some 0)).makeDue
    (.query (s.settle.round + 1) (bitmapOf (fun b => decide (b ∈ s.orphans)))) 0 :=
  if_neg (fun e => h (List.map_eq_nil_iff.mp e))

theorem State.restartJob_over {s : State} (hj : s.settle.job = .querying) (h : s.orphans = []) :
    s.restartJob = s.clearJob := by
  rw [State.restartJob, if_pos hj, if_pos (by simp [h])]

theorem State.restartJob_starts {s : State} (hj : s.settle.job = .querying) (h : s.orphans ≠ []) :
    s.restartJob = s.startJob := by
  rw [State.restartJob, if_pos hj, if_neg (by simpa using h)]

/-- Settles O53: the row by its acceptance, an exclusion by its entry and what the units are told, the restart by its cases. -/
theorem excludeIsAccepted : Obligations.ExcludeIsAccepted := by
  have accepted : ∀ (l : LaneId) (p x : Station) (q : SeqNo) (c : Cause) (s : State),
      s.hearsFrame l ⟨p, 0, q, .exclude x c⟩ = true → (s.peer p).state.member = true → (s.peer p).expect = some q →
      exec (.excludeReceived (cleanFrame l ⟨p, 0, q, .exclude x c⟩)) s
        = .next ((s.acceptedFrom l p q).excludeArrive p x c).settleEvent :=
    fun l p x q c s h hm hx => exec_accepted h hm hx (fun _ => rfl) .exclude
  have another : ∀ (l : LaneId) (p x : Station) (q : SeqNo) (c : Cause) (s : State), x ≠ s.member.own →
      (s.acceptedFrom l p q).excludeArrive p x c = (s.acceptedFrom l p q).exclude x c true :=
    fun l p x q c s hx => if_neg (fun e => hx (e.trans (s.own_acceptedFrom l p q)))
  refine ⟨?_, ?_, ?_, ?_, ?_, ?_, ?_⟩
  · intro l p x q c s f h hu hm hx own member registrar claim u t still
    have excluded : (s.acceptedFrom l p q).exclude x c true = t := by
      refine State.exclude_untroubled (State.untroubled_acceptedFrom hu l p q) ?_ ?_ ?_ c true
      · exact (s.isMember_acceptedFrom l p x q).trans member
      · exact fun e => registrar (e.trans (s.registrar_carried l p))
      · exact (s.claim_acceptedFrom l p q).trans claim
    rw [accepted l p x q c s h hm hx, another l p x q c s own, excluded, State.settleEvent_of_still still]
  · intro l p q c s f h hm hx
    have here : (s.acceptedFrom l p q).excludeArrive p s.member.own c = ((s.acceptedFrom l p q).offer
        { cls := .selfExcluded, peer := some p, detail := c.code.setWidth 16 }).isolate :=
      if_pos (s.own_acceptedFrom l p q).symm
    rw [accepted l p s.member.own q c s h hm hx, here]
  · intro l p x q c s f h hm hx own
    rw [accepted l p x q c s h hm hx, another l p x q c s own]
  · intro x c restart s t registrar
    refine ⟨fun h => State.exclude_excluded h c restart, fun out own zero state kept current => ?_⟩
    exact State.exclude_leaves out own zero (State.active_iff.mpr state) kept current c restart
  · intro x c s registrar out own zero state kept v t job holds asks usable moves source
    have active := State.active_iff.mpr state
    have once : t = s.barredTold c x := State.exclude_once out active kept c
    have restarts : s.exclude x c true = t.restartJob := by rw [once]; exact State.exclude_restarts out active kept c
    rw [restarts, once]
    obtain ⟨settled, ended, kept', asked, unasked⟩ := s.barredTold_units c x kept
    exact ⟨rfl, settled, ended, kept', asked, unasked, s.barredTold_fetches c x⟩
  · intro x c restart s catchup out own zero nobody
    have alone := State.registrarWithout_nobody catchup nobody
    obtain ⟨window, write, port, seq, offered⟩ := s.told_excludeEntry_units c x
    have member := s.told_excludeEntry_member c x
    have dissolves := State.exclude_dissolves out catchup alone c restart
    have peer := s.told_excludeEntry_peer c x
    generalize (s.excludeEntry c x).told none = u at *
    refine ⟨u, dissolves, peer, ?_, ?_, ?_, window, write, port, seq, offered⟩
    · rw [member]
      exact catchup
    · rw [member]
      rfl
    · rw [member]
      exact alone
  · intro s asked started
    refine ⟨State.restartJob_of_not_querying, fun hj => ⟨State.restartJob_over hj, fun ho ha => ?_, fun ho ha => ?_⟩⟩
    · rw [State.restartJob_starts hj ho, State.startJob_alone ha]
      simp only [started, if_pos ha]
      rfl
    · rw [State.restartJob_starts hj ho, State.startJob_asks ha]
      simp only [started, if_neg ha]
      rfl

end Sys2Proof.Machine
end

section
/-! A STATUS from a member: used whole, or the receipt of a station on its way out, or its own exclusion seen (R65, R73, R83, R87, R88). -/

namespace Sys2Proof.Machine

/-! ## The parts of a STATUS (R65, R73, R88) -/

theorem welcomeFor_none {own : Station} {welcome : List (Station × SeqNo)} (h : ∀ x ∈ welcome, x.1 ≠ own) :
    welcomeFor own welcome = none := by
  have unnamed : welcome.find? (fun w => w.1 = own) = none :=
    List.find?_eq_none.mpr (fun x hx => by simpa using h x hx)
  rw [welcomeFor, unnamed, Option.map_none]

/-- The first welcome pair for a station gives its base. -/
theorem welcomeFor_first {own : Station} {base : SeqNo} {pre : List (Station × SeqNo)} (h : ∀ x ∈ pre, x.1 ≠ own)
    (rest : List (Station × SeqNo)) : welcomeFor own (pre ++ (own, base) :: rest) = some base := by
  have unnamed : pre.find? (fun w => w.1 = own) = none :=
    List.find?_eq_none.mpr (fun x hx => by simpa using h x hx)
  rw [welcomeFor, List.find?_append, unnamed, Option.none_or, List.find?_cons_of_pos (by simp), Option.map_some]

theorem PeerState.source_iff {x : PeerState} : x.source = true ↔ x = .live ∨ x = .leaving := by
  cases x <;> simp [PeerState.source]

theorem PeerState.not_source_of_member {x : PeerState} (h : x.member = true) : x.source = false ↔ x = .catchup := by
  cases x <;> simp_all [PeerState.source, PeerState.member]

/-- What a STATUS shows is the state of a member (R88). -/
theorem PeerState.member_shows (x : PeerState) (shown : MemberState) : (x.shows shown).member = true := by
  unfold PeerState.shows
  split
  · rfl
  · cases shown <;> rfl

/-- The station that a STATUS makes usable as a fetch source, if it makes one (R112). -/
theorem gained_iff {old new : PeerState} (h : old.member = true) (p : Station) :
    (if new.source && !old.source then some p else none)
      = if (new = .live ∨ new = .leaving) ∧ old = .catchup then some p else none := by
  refine if_congr ?_ rfl rfl
  rw [Bool.and_eq_true, Bool.not_eq_true', PeerState.source_iff, PeerState.not_source_of_member h]

/-- A member's entry as its STATUS leaves it, but for its expectation. -/
def Peer.taken (e : Peer) (own : Station) (shown : MemberState) (known : StationMask) (receipts : List Byte) : Peer :=
  { e with
    state := e.state.shows shown, silence := some 0, includesUs := true
    receipt := if maskHas known own then some (receipts.getD (own.val - 1) 0) else none
    welcome := e.welcome && !maskHas known own }

/-! ## The STATUS of a member -/

section
variable {s : State} {p : Station} {shown : MemberState} {mask known : StationMask} {receipts : List Byte}
  {welcome : List (Station × SeqNo)}

theorem exec_memberStatus {l : LaneId} {q next : SeqNo}
    (h : s.hearsFrame l ⟨p, 0, q, .status shown mask next known receipts welcome⟩ = true)
    (hm : (s.peer p).state.member = true) :
    exec (.statusReceived (cleanFrame l ⟨p, 0, q, .status shown mask next known receipts welcome⟩)) s
      = .next ((s.carried l p).memberStatus p shown mask known receipts welcome).settleEvent := by
  have member : (s.carried l p).isMember p = true := by rw [State.isMember_carried]; exact hm
  have judged : (s.carried l p).deliverActive ⟨p, 0, q, .status shown mask next known receipts welcome⟩
      = (s.carried l p).memberStatus p shown mask known receipts welcome := if_pos member
  rw [← judged]
  exact congrArg Host.Outcome.next (State.event_of_hearing h)

theorem State.memberStatus_used (h : maskHas mask s.own = true) : s.memberStatus p shown mask known receipts welcome
    = s.useStatus p shown mask known receipts welcome := by
  simp [State.memberStatus, h]

theorem State.memberStatus_receipts {e : ReplayEntry} (h : maskHas mask s.own = false) (hd : s.departing = true)
    (he : s.leaving = some e) : s.memberStatus p shown mask known receipts welcome
      = s.setPeer p { s.peer p with receipt := some (e.seq + 1) } := by
  simp [State.memberStatus, h, hd, he]

theorem State.memberStatus_excludes (h : maskHas mask s.own = false) (hd : s.departing = false ∨ s.leaving = none)
    (hi : (s.peer p).includesUs = true) : s.memberStatus p shown mask known receipts welcome
      = (s.offer { cls := .selfExcluded, peer := some p }).isolate := by
  obtain hd | hd := hd
  · simp [State.memberStatus, h, hd, hi]
  · cases hx : s.departing <;> simp [State.memberStatus, h, hd, hi, hx]

/-- What a member's new state brings: nothing where it is the old one (R87, R112). -/
def State.stateTaken (s : State) (p : Station) (old new : PeerState) : State :=
  if new = old then s
  else (if old = .live then s.dropClaimant p else s).peersChanged
    (if (new = .live ∨ new = .leaving) ∧ old = .catchup then some p else none)

theorem Peer.afterStatus_eq {e : Peer} {own : Station} (hs : e.silence = some 0) (hu : maskHas mask own = true) :
    e.afterStatus own shown mask known receipts welcome = { e.taken own shown known receipts with
      expect := match e.expect with | none => welcomeFor own welcome | some q => some q } := by
  rw [Peer.afterStatus, Peer.taken, hu, hs]
  rfl

theorem State.useStatus_eq {new : Peer}
    (hn : (s.peer p).afterStatus s.own shown mask known receipts welcome = new) (hm : (s.peer p).state.member = true) :
    s.useStatus p shown mask known receipts welcome = State.stateTaken
      (if (s.peer p).expect.isNone && new.expect.isSome then (s.setPeer p new).setSeq s.seq.oweUrgent else s.setPeer p new)
      p (s.peer p).state new.state := by
  rw [State.stateTaken, ← gained_iff hm]
  subst hn
  rfl

/-- A STATUS of a member whose expectation is known, or that welcomes this station not (R73). -/
theorem State.useStatus_quiet (hm : (s.peer p).state.member = true) (hs : (s.peer p).silence = some 0)
    (hu : maskHas mask s.own = true) (hq : (s.peer p).expect ≠ none ∨ ∀ x ∈ welcome, x.1 ≠ s.own) :
    s.useStatus p shown mask known receipts welcome
      = State.stateTaken (s.setPeer p ((s.peer p).taken s.own shown known receipts)) p (s.peer p).state
        ((s.peer p).state.shows shown) := by
  have expect : (match (s.peer p).expect with | none => welcomeFor s.own welcome | some q => some q)
      = (s.peer p).expect := by
    cases he : (s.peer p).expect with
    | some q => rfl
    | none => exact welcomeFor_none (hq.resolve_left (fun h => h he))
  have after : (s.peer p).afterStatus s.own shown mask known receipts welcome
      = (s.peer p).taken s.own shown known receipts := by
    rw [Peer.afterStatus_eq hs hu, expect]
    rfl
  have silent : ((s.peer p).expect.isNone && ((s.peer p).taken s.own shown known receipts).expect.isSome) = false := by
    rw [show ((s.peer p).taken s.own shown known receipts).expect = (s.peer p).expect from rfl]
    cases (s.peer p).expect <;> rfl
  rw [State.useStatus_eq after hm, silent]
  rfl

/-- A STATUS of a member whose expectation is not known and that welcomes this station (R73). -/
theorem State.useStatus_welcomed {base : SeqNo} (hm : (s.peer p).state.member = true) (hs : (s.peer p).silence = some 0)
    (hu : maskHas mask s.own = true) (he : (s.peer p).expect = none) (hw : welcomeFor s.own welcome = some base) :
    s.useStatus p shown mask known receipts welcome
      = State.stateTaken ((s.setPeer p { (s.peer p).taken s.own shown known receipts with expect := some base }).setSeq
          s.seq.oweUrgent) p (s.peer p).state ((s.peer p).state.shows shown) := by
  have after : (s.peer p).afterStatus s.own shown mask known receipts welcome
      = { (s.peer p).taken s.own shown known receipts with expect := some base } := by
    rw [Peer.afterStatus_eq hs hu, he]
    exact congrArg (fun x => { (s.peer p).taken s.own shown known receipts with expect := x }) hw
  rw [State.useStatus_eq after hm, he]
  rfl

end

/-! ## The change of a member's state (R87, R91) -/

theorem State.stateTaken_same {s : State} {p : Station} {old new : PeerState} (h : new = old) :
    s.stateTaken p old new = s := if_pos h

/-- The claims of a member that was LIVE leave (R49). -/
def State.claimsLeft (s : State) (p : Station) (old : PeerState) : State := if old = .live then s.dropClaimant p else s

theorem State.stateTaken_changed {s : State} {p : Station} {old new : PeerState} (h : new ≠ old) : s.stateTaken p old new
    = (s.claimsLeft p old).peersChanged (if (new = .live ∨ new = .leaving) ∧ old = .catchup then some p else none) := if_neg h

section
variable (s : State) (p : Station) (old : PeerState)

theorem State.claimsLeft_same : ∃ claim dir, s.claimsLeft p old = (s.setClaim claim).setDir dir := by
  unfold State.claimsLeft
  split
  · obtain ⟨dir, h⟩ := s.dropClaimant_same p
    exact ⟨_, dir, h⟩
  · exact ⟨s.claim, s.dir, rfl⟩

theorem State.list_claimsLeft (x : Block × Station) :
    x ∈ (s.claimsLeft p old).claim.list ↔ x ∈ s.claim.list ∧ (old = .live → x.2 ≠ p) := by
  unfold State.claimsLeft
  split
  · next h =>
    obtain ⟨dir, same⟩ := s.dropClaimant_same p
    rw [same]
    simp [h]
  · next h => simp [h]

theorem State.entry_claimsLeft (b : Block) :
    (old = .live ∧ s.soleClaimant b p → (s.claimsLeft p old).entry b = { s.entry b with yielding := false })
      ∧ (¬ (old = .live ∧ s.soleClaimant b p) → (s.claimsLeft p old).entry b = s.entry b) := by
  unfold State.claimsLeft
  split
  · next h => exact ⟨fun hs => (s.entry_dropClaimant p b).1 hs.2, fun hs => (s.entry_dropClaimant p b).2 (fun hb => hs ⟨h, hb⟩)⟩
  · next h => exact ⟨fun hs => absurd hs.1 h, fun _ => rfl⟩

theorem State.owner_claimsLeft (b : Block) : ((s.claimsLeft p old).entry b).owner = (s.entry b).owner := by
  unfold State.claimsLeft
  split
  · exact (s.owner_dropClaimant p b).1
  · rfl

/-- The registrar by the tables with peer p in this state (R91). -/
def State.registrarWith (s : State) (p : Station) (x : PeerState) : Station :=
  (stations.find? (fun y => if y = s.member.own then s.member.state = .live
    else (if y = p then x else (s.peer y).state) = .live)).getD 0

end

theorem State.computeRegistrar_setPeer (s : State) (p : Station) (x : Peer) :
    (s.setPeer p x).computeRegistrar = s.registrarWith p x.state := by
  refine congrArg (fun f : Station → Bool => (stations.find? f).getD 0) (funext fun y => ?_)
  rw [State.peer_setPeer]
  by_cases own : y = s.member.own
  · rw [if_pos own]
    exact if_pos own
  · rw [if_neg own]
    refine (if_neg own).trans ?_
    split <;> rfl

/-- A member among the members leaves the orphans as they are (R4). -/
theorem State.orphan_setPeer {s : State} {p : Station} {x : Peer} (hm : (s.peer p).state.member = true)
    (hx : x.state.member = true) (b : Block) : (s.setPeer p x).orphan b = s.orphan b := by
  have peer : ∀ y, decide (((s.setPeer p x).peer y).state = .excluded) = decide ((s.peer y).state = .excluded) := fun y => by
    rw [State.peer_setPeer]
    split
    · next hy =>
      rw [hy, decide_eq_false (PeerState.known_of_member hm).2, decide_eq_false (PeerState.known_of_member hx).2]
    · rfl
  exact congrArg (fun c => (s.entry b).owner ≠ 0 && (s.entry b).owner ≠ s.own && c) (peer (s.entry b).owner)

section
variable {s : State} {p : Station} {x : Peer} (hm : (s.peer p).state.member = true) (hx : x.state.member = true)
  (kept : s.member.state = .catchup → s.registrarWith p x.state ≠ 0)
include hm hx kept

/-- What a member's new state leaves, where no isolation follows (R49, R87, R91). -/
theorem State.stateTaken_leaves (old : PeerState) (hc : x.state ≠ old) :
    let t := (s.setPeer p x).stateTaken p old x.state
    (∀ y, t.peer y = if y = p then x else s.peer y)
    ∧ t.member.state = s.member.state ∧ t.member.registrar = s.registrarWith p x.state
    ∧ t.window = s.window ∧ t.write = s.write ∧ t.port = s.port ∧ t.seq = s.seq ∧ t.log = s.log
    ∧ (∀ e, e ∈ t.claim.list ↔ e ∈ s.claim.list ∧ (old = .live → e.2 ≠ p)
        ∧ ¬ (s.isRegistrar = true ∧ s.registrarWith p x.state ≠ s.member.own ∧ s.orphan e.1 = true))
    ∧ (∀ b, (old = .live ∧ s.soleClaimant b p → t.entry b = { s.entry b with yielding := false })
        ∧ (¬ (old = .live ∧ s.soleClaimant b p) → t.entry b = s.entry b)) := by
  intro t
  obtain ⟨claim, dir, same⟩ := (s.setPeer p x).claimsLeft_same p old
  have list := (s.setPeer p x).list_claimsLeft p old
  have entry := (s.setPeer p x).entry_claimsLeft p old
  have owner := (s.setPeer p x).owner_claimsLeft p old
  have taken : t = _ := State.stateTaken_changed hc
  generalize (s.setPeer p x).claimsLeft p old = v at *
  have member : v.member = (s.setPeer p x).member := by rw [same]; rfl
  have peer : ∀ y, v.peer y = (s.setPeer p x).peer y := fun y => by rw [State.peer, member]; rfl
  have own : v.own = s.own := by rw [State.own, member]; rfl
  have registrar : v.computeRegistrar = s.registrarWith p x.state := by
    rw [← State.computeRegistrar_setPeer]
    exact State.computeRegistrar_congr (by rw [member]) (by rw [member]) (fun y => by rw [peer])
  have orphan : ∀ b, v.orphan b = s.orphan b := fun b => by
    rw [← State.orphan_setPeer hm hx]
    simp only [State.orphan, State.orphaned, owner, peer, own]
    rfl
  have role : v.isRegistrar = s.isRegistrar := by rw [State.isRegistrar, own, member]; rfl
  have loses : v.losesRole ↔ s.isRegistrar = true ∧ s.registrarWith p x.state ≠ s.member.own := by
    rw [State.losesRole, role, registrar, own]
    rfl
  have units : v.window = s.window ∧ v.write = s.write ∧ v.port = s.port ∧ v.seq = s.seq ∧ v.log = s.log := by
    rw [same]
    exact ⟨rfl, rfl, rfl, rfl, rfl⟩
  obtain ⟨window, write, port, seq, log⟩ := units
  have stays : v.member.state = .catchup → v.computeRegistrar ≠ 0 := by
    rw [member, registrar]
    exact kept
  rw [State.peersChanged_told stays] at taken
  generalize (if (x.state = .live ∨ x.state = .leaving) ∧ old = .catchup then some p else none) = gained at taken
  have told := PeersTold.of_told v gained
  rw [← taken] at told
  clear_value t
  refine ⟨fun y => ?_, ?_, ?_, told.window.trans window, told.write.trans write, told.port.trans port, told.seq.trans seq,
    told.log.trans log, fun e => ?_, fun b => ?_⟩
  · rw [told.peer, peer, State.peer_setPeer]
  · rw [told.member, member]
    rfl
  · rw [told.member, registrar]
  · rw [told.list, list, loses, orphan, and_assoc, and_assoc]
    rfl
  · rw [told.entry]
    exact entry b

end

/-! ## What the units make of a change (R83, R105, R112, R129) -/

/-- Where no isolation follows, a change told leaves the units so. -/
theorem State.told_units (s : State) (gained : Option Station)
    (kept : s.member.state = .catchup → s.computeRegistrar ≠ 0) :
    let t := s.told gained
    let holds := s.member.state = .live ∧ s.member.own ≠ 0 ∧ s.computeRegistrar = s.member.own
    let asks := s.member.state = .catchup ∧ s.computeRegistrar ≠ s.member.registrar ∧ s.copy.missing ≠ 0
    (s.settle.job = .idle ∨ holds → t.settle = s.settle)
    ∧ (s.settle.job ≠ .idle → ¬ holds → (∀ r ∈ t.select.requests, r.payload.kind ≠ .query) ∧ t.settle = s.settle.ended)
    ∧ (t.copy.missing = s.copy.missing ∧ t.copy.answers = s.copy.answers ∧ t.copy.holds = s.copy.holds)
    ∧ (asks → t.copy.snapq = some 0
      ∧ ∀ m x n, ⟨.snapq m, x, n⟩ ∈ t.select.requests ↔ m = s.copy.missing ∧ x = s.computeRegistrar ∧ n = s.stamp)
    ∧ (¬ asks → t.copy.snapq = s.copy.snapq
      ∧ ∀ m x n, ⟨.snapq m, x, n⟩ ∈ t.select.requests ↔ ⟨.snapq m, x, n⟩ ∈ s.select.requests) := by
  intro t holds asks
  have told : PeersTold s gained t := PeersTold.of_told s gained
  clear_value t
  have holds_iff : s.registered.holdsJob ↔ holds := by
    rw [State.holdsJob, State.isRegistrar_registered]
    exact Iff.rfl
  have asks_iff : s.asksAnew ↔ asks := ⟨fun ⟨a, b, c, _⟩ => ⟨a, b, c⟩, fun ⟨a, b, c⟩ => ⟨a, b, c, kept a⟩⟩
  exact ⟨fun h => told.kept (h.imp_right holds_iff.mpr), fun hj hh => told.ended hj (fun h => hh (holds_iff.mp h)),
    told.copy, fun ha => told.asked (asks_iff.mpr ha), fun ha => told.unasked (fun h => ha (asks_iff.mp h))⟩

/-- A change told moves the fetch slots of R112, and leaves the others. -/
theorem State.told_fetches (s : State) (gained : Option Station) (hn : (s.copy.slots.map FetchSlot.block).Nodup) :
    let t := s.told gained
    let usable := fun p : Station => p ≠ 0 ∧ p ≠ s.member.own ∧ ((s.peer p).state = .live ∨ (s.peer p).state = .leaving)
    let source := fun k : FetchSlot => s.fetchSource k.block k.attempt
    let moves := fun k : FetchSlot =>
      (k.source ≠ 0 ∧ ¬ usable k.source) ∨ (k.source = 0 ∧ source k ≠ 0 ∧ gained = some (source k))
    (∃ f : FetchSlot → FetchSlot, t.copy.slots = s.copy.slots.map f
      ∧ ∀ k, (moves k → f k = { k with source := source k, timer := 0 }) ∧ (¬ moves k → f k = k))
    ∧ ∀ k ∈ s.copy.slots, ∀ x n,
      (moves k → (⟨.fetch k.block, x, n⟩ ∈ t.select.requests ↔ source k ≠ 0 ∧ x = source k ∧ n = s.stamp))
      ∧ (¬ moves k → (⟨.fetch k.block, x, n⟩ ∈ t.select.requests ↔ ⟨.fetch k.block, x, n⟩ ∈ s.select.requests)) := by
  intro t usable source moves
  have told : PeersTold s gained t := PeersTold.of_told s gained
  clear_value t
  have moves_iff : ∀ k, s.fetchMoves gained k = true ↔ moves k := fun k => by
    rw [State.fetchMoves_iff, ← Bool.not_eq_true, State.usable_iff]
    exact Iff.rfl
  have stays : ∀ k, ¬ moves k → s.fetchMoves gained k = false := fun k hk =>
    Bool.eq_false_iff.mpr (fun h => hk ((moves_iff k).mp h))
  refine ⟨⟨_, told.slots hn, fun k => ⟨fun hk => if_pos ((moves_iff k).mpr hk), fun hk => ?_⟩⟩,
    fun k hk x n => ⟨fun hm => (told.fetches hn k hk x n).1 ((moves_iff k).mpr hm),
      fun hm => (told.fetches hn k hk x n).2 (stays k hm)⟩⟩
  rw [State.refetched, stays k hk]
  rfl

/-! ## A STATUS whose mask lacks this station (R83, R88) -/

theorem State.leaving_first {s : State} {pre rest : List ReplayEntry} {e : ReplayEntry}
    (hq : s.seq.queue = pre ++ e :: rest) (he : ∃ c, e.frame.payload = .exclude s.member.own c)
    (first : ∀ x ∈ pre, ∀ c, x.frame.payload ≠ .exclude s.member.own c) : s.leaving = some e := by
  have before : pre.find? s.ownExclude = none :=
    List.find?_eq_none.mpr (fun x hx => by rw [State.ownExclude_eq_false.mpr (first x hx)]; exact Bool.false_ne_true)
  rw [State.leaving, hq, List.find?_append, before, Option.none_or, List.find?_cons_of_pos (State.ownExclude_iff.mpr he)]

theorem State.leaving_none {s : State} (h : ∀ e ∈ s.seq.queue, ∀ c, e.frame.payload ≠ .exclude s.member.own c) :
    s.leaving = none :=
  List.find?_eq_none.mpr (fun x hx => by rw [State.ownExclude_eq_false.mpr (h x hx)]; exact Bool.false_ne_true)

@[simp] theorem State.leavePending_carried (s : State) (l : LaneId) (p : Station) :
    (s.carried l p).member.leavePending = s.member.leavePending := by
  rw [State.carried, State.hear_eq]
  cases l <;> rfl

@[simp] theorem State.log_carried (s : State) (l : LaneId) (p : Station) : (s.carried l p).log = s.log := by
  rw [State.carried, State.hear_eq]
  cases l <;> rfl

theorem State.registrarWith_carried (s : State) (l : LaneId) (p : Station) (x : PeerState) :
    (s.carried l p).registrarWith p x = s.registrarWith p x := by
  simp only [State.registrarWith, State.member_own_carried, State.member_state_carried, State.peerState_carried]

/-- What a member's STATUS is judged by, once its frame is weighed and its silence ended (R90, R145). -/
theorem State.peer_carried_member {s : State} {p : Station} (hm : (s.peer p).state.member = true) (l : LaneId) :
    (s.carried l p).peer p = { s.peer p with silence := some 0 } := by
  rw [State.peer_carried, if_pos ⟨rfl, hm⟩]

section
variable {l : LaneId} {p : Station} {shown : MemberState} {mask known : StationMask} {next q : SeqNo}
  {receipts : List Byte} {welcome : List (Station × SeqNo)} {s : State}
  (h : s.hearsFrame l ⟨p, 0, q, .status shown mask next known receipts welcome⟩ = true)
  (hm : (s.peer p).state.member = true) (hu : maskHas mask s.member.own = true)
include h hm hu

theorem exec_status_quiet (hq : (s.peer p).expect ≠ none ∨ ∀ x ∈ welcome, x.1 ≠ s.member.own) :
    exec (.statusReceived (cleanFrame l ⟨p, 0, q, .status shown mask next known receipts welcome⟩)) s
      = .next (((s.carried l p).setPeer p ((s.peer p).taken s.member.own shown known receipts)).stateTaken p
        (s.peer p).state ((s.peer p).state.shows shown)).settleEvent := by
  have peer := State.peer_carried_member hm l
  have own : (s.carried l p).own = s.member.own := s.member_own_carried l p
  have used := State.useStatus_quiet (s := s.carried l p) (p := p) (shown := shown) (mask := mask) (known := known)
    (receipts := receipts) (welcome := welcome) (by rw [peer]; exact hm) (by rw [peer]) (by rwa [own])
    (by rw [peer, own]; exact hq)
  rw [peer, own] at used
  rw [exec_memberStatus h hm, State.memberStatus_used (by rwa [own]), used]
  rfl

theorem exec_status_welcomed {base : SeqNo} (he : (s.peer p).expect = none)
    (hw : welcomeFor s.member.own welcome = some base) :
    exec (.statusReceived (cleanFrame l ⟨p, 0, q, .status shown mask next known receipts welcome⟩)) s
      = .next ((((s.carried l p).setPeer p { (s.peer p).taken s.member.own shown known receipts with
          expect := some base }).setSeq { s.seq with
            owed := true, urgent := true, age := if s.seq.owed then s.seq.age else some 0 }).stateTaken p
        (s.peer p).state ((s.peer p).state.shows shown)).settleEvent := by
  have peer := State.peer_carried_member hm l
  have own : (s.carried l p).own = s.member.own := s.member_own_carried l p
  have urgent : (s.carried l p).seq.oweUrgent
      = { s.seq with owed := true, urgent := true, age := if s.seq.owed then s.seq.age else some 0 } := by
    rw [State.seq_carried, SeqUnit.oweUrgent, SeqUnit.owe_eq]
  have used := State.useStatus_welcomed (s := s.carried l p) (p := p) (shown := shown) (mask := mask) (known := known)
    (receipts := receipts) (welcome := welcome) (by rw [peer]; exact hm) (by rw [peer]) (by rwa [own])
    (by rw [peer]; exact he) (by rw [own]; exact hw)
  rw [peer, own, urgent] at used
  rw [exec_memberStatus h hm, State.memberStatus_used (by rwa [own]), used]
  rfl

end

/-- Settles O46: the STATUS used whole by its cases, the one without this station, isolation, and a change told. -/
theorem statusIsTaken : Obligations.StatusIsTaken := by
  refine ⟨?_, ?_, ?_, ?_⟩
  · intro l p shown mask known next q receipts welcome s f h hm hu held now taken
    have quiet : (held.expect ≠ none ∨ ∀ x ∈ welcome, x.1 ≠ s.member.own) → exec (.statusReceived (cleanFrame l f)) s
        = .next (((s.carried l p).setPeer p taken).stateTaken p held.state now).settleEvent :=
      fun hq => exec_status_quiet h hm hu hq
    have welcomed : held.expect = none → ∀ base pre rest, welcome = pre ++ (s.member.own, base) :: rest →
        (∀ x ∈ pre, x.1 ≠ s.member.own) → exec (.statusReceived (cleanFrame l f)) s
          = .next ((((s.carried l p).setPeer p { taken with expect := some base }).setSeq { s.seq with
            owed := true, urgent := true, age := if s.seq.owed then s.seq.age else some 0 }).stateTaken p held.state
              now).settleEvent :=
      fun he base pre rest hw hf => exec_status_welcomed h hm hu he (hw ▸ welcomeFor_first hf rest)
    refine ⟨?_, ?_, ?_, ?_⟩
    · intro hn hq t still
      rw [quiet hq, State.stateTaken_same hn, State.settleEvent_of_still still]
    · intro hn he base pre rest hw hf t still
      rw [welcomed he base pre rest hw hf, State.stateTaken_same hn, State.settleEvent_of_still still]
    · intro hn hq registrar kept
      have others : ∀ y, y ≠ p → (s.carried l p).peer y = s.peer y := fun y hy => by
        rw [State.peer_carried, if_neg (fun e => hy e.1)]
      have member : ((s.carried l p).peer p).state.member = true := by rw [State.peerState_carried]; exact hm
      have alike : (s.carried l p).registrarWith p taken.state = registrar := s.registrarWith_carried l p now
      have leaves := State.stateTaken_leaves (s := s.carried l p) (x := taken) member (PeerState.member_shows _ shown)
        (by rw [State.member_state_carried, alike]; exact kept) held.state hn
      obtain ⟨peers, state, lowest, window, write, port, seq, log, list, entry⟩ := leaves
      refine ⟨_, quiet hq, fun y => ?_, state.trans (s.member_state_carried l p), lowest.trans alike,
        window.trans (s.window_carried l p), write.trans (s.write_carried l p), port.trans (s.port_carried l p),
        seq.trans (s.seq_carried l p), log.trans (s.log_carried l p), fun e => ?_, fun b => ?_⟩
      · refine (peers y).trans ?_
        split
        · rfl
        · next hy => exact others y hy
      · refine (list e).trans ?_
        rw [State.isRegistrar_carried, State.claim_carried, State.member_own_carried, State.orphan_carried, alike]
      · have changes := entry b
        rw [State.soleClaimant, State.claim_carried, State.entry_carried] at changes
        exact changes
    · intro hn gained told
      refine ⟨fun hq => ?_, fun he base pre rest hw hf => ?_⟩
      · rw [quiet hq, State.stateTaken_changed hn]
        rfl
      · rw [welcomed he base pre rest hw hf, State.stateTaken_changed hn]
        rfl
  · intro l p shown mask known next q receipts welcome s f out h hm hu
    have own : (s.carried l p).member.own = s.member.own := s.member_own_carried l p
    have peer := State.peer_carried_member hm l
    have departing : (s.carried l p).departing = true ↔ out := by
      rw [State.departing_iff, State.member_state_carried, State.leavePending_carried]
    have seq : (s.carried l p).seq = s.seq := s.seq_carried l p
    refine ⟨fun pre e rest ho hq he first => ?_, fun hn hi => ?_⟩
    · have leaving : (s.carried l p).leaving = some e :=
        State.leaving_first (by rw [seq]; exact hq) (by rw [own]; exact he) (by rw [own]; exact first)
      rw [exec_memberStatus h hm, State.memberStatus_receipts (by rw [State.own, own]; exact hu) (departing.mpr ho) leaving,
        peer]
    · have stays : (s.carried l p).departing = false ∨ (s.carried l p).leaving = none :=
        hn.imp (fun ho => Bool.eq_false_iff.mpr (fun hd => ho (departing.mp hd)))
          (fun hq => State.leaving_none (by rw [seq, own]; exact hq))
      rw [exec_memberStatus h hm, State.memberStatus_excludes (by rw [State.own, own]; exact hu) stays (by rw [peer]; exact hi)]
  · intro s out t
    refine ⟨State.isolate_departing, fun ho hl => ?_, fun ho hl => ?_⟩
    · rw [State.isolate_listens ho, hl]
      rfl
    · have lane : t.anyLaneUp = true := (s.anyLaneUp_teardown .isolated).trans hl
      rw [State.isolate_listens ho, hl, if_pos rfl, State.enterListening, lane]
      rfl
  · intro gained s registrar t
    refine ⟨fun hs hr => ⟨_, State.peersChanged_dissolves hs hr gained, ?_⟩, fun kept => ?_⟩
    · have told := PeersTold.of_told s gained
      exact ⟨by rw [told.member, ← hr], told.window, told.dir, told.log, told.write⟩
    · intro holds asks usable source moves
      have told := PeersTold.of_told s gained
      obtain ⟨settled, ended, copied, asked, unasked⟩ := s.told_units gained kept
      have same : t = s.told gained := State.peersChanged_told kept gained
      rw [same]
      exact ⟨told.member, told.dir, told.window, told.write, told.seq, told.port, told.log, settled, ended, copied, asked,
        unasked, s.told_fetches gained⟩

end Sys2Proof.Machine
end

section
/-! The departure: COMMAND LEAVE by the station state, LEAVING entered, and its end (R38, R45, R49, R100, R101, R102, Table 5-9). -/

namespace Sys2Proof.Machine

/-! ## COMMAND LEAVE (R100, Table 5-9) -/

/-- An accepted LEAVE has its effect on the station that holds the command and its result. -/
theorem State.command_leave {s : State} {effect : State → State} (h : judgeLeave s = (.accepted, effect)) (low : Byte) :
    s.command (wordOf 4 low) = effect (s.setPort { s.port with command := wordOf 4 low, result := wordOf 4 1 }) := by
  have online : s.state ≠ .offline := by
    intro offline
    simp [judgeLeave, offline] at h
  have judged : judgeWord 4 low s = (.accepted, effect) := h
  simp only [State.command, hiByte_wordOf, loByte_wordOf, if_neg online, judged]
  rfl

theorem exec_leave {s : State} {effect : State → State} (hp : s.portFree = true)
    (h : judgeLeave s.tickStamp = (.accepted, effect)) (low : Byte) : exec (.leave low) s
      = .next (effect (s.tickStamp.setPort { s.port with command := wordOf 4 low, result := wordOf 4 1 })).settleEvent := by
  show Host.Outcome.next (s.portEvent (·.command (wordOf 4 low))) = _
  rw [State.portEvent_of_free hp, State.command_leave h]
  rfl

theorem judgeLeave_early {s : State} (h : s.member.state = .listening ∨ s.member.state = .joining) :
    judgeLeave s = (.accepted, (·.depart 0)) := by
  obtain h | h := h <;> simp [judgeLeave, State.state, h]

theorem judgeLeave_live {s : State} (h : s.member.state = .live) : judgeLeave s = (.accepted, State.enterLeaving) := by
  simp [judgeLeave, State.state, h]

theorem judgeLeave_catchup {s : State} (h : s.member.state = .catchup) (hn : s.member.leavePending = false) :
    judgeLeave s = (.accepted, State.leavePending) := by
  simp [judgeLeave, State.state, h, hn]

/-! ## The open batch (R29, R38) -/

/-- What closing the open batch, or making it due, leaves in t. -/
structure BatchLeft (s t : State) : Prop where
  same : ∃ dir write seq, t = ((s.setDir dir).setWrite write).setSeq seq
  held : t.write.held = s.write.held
  unbatched : s.write.batch = none → t.write.batch = none ∧ t.seq = s.seq
  closed : ∀ x, s.write.batch = some x → s.freeGeneral = true → t.write.batch = none ∧ t.seq = s.closeBatch.seq
  due : ∀ x, s.write.batch = some x → s.freeGeneral = false →
    t.write.batch = some { x with due := true } ∧ t.seq = s.seq
  entry : ∀ b, t.entry b = { s.entry b with
    version := if s.batchFor b = true ∧ s.freeGeneral = true then (s.entry b).version + 1 else (s.entry b).version }

theorem BatchLeft.of_closeOrDue (s : State) : BatchLeft s s.closeOrDue := by
  cases hb : s.write.batch with
  | none =>
    have same : s.closeOrDue = s := by rw [State.closeOrDue, hb]; rfl
    rw [same]
    refine ⟨⟨s.dir, s.write, s.seq, rfl⟩, rfl, fun _ => ⟨hb, rfl⟩, fun x hx => ?_, fun x hx => ?_, fun b => ?_⟩
    · cases hb.symm.trans hx
    · cases hb.symm.trans hx
    · rw [if_neg (by simp [State.batchFor, hb])]
  | some x =>
    cases hf : s.freeGeneral with
    | true =>
      rw [State.closeOrDue_of_free hb hf]
      have closes := State.closeBatch_of_batch hb
      refine ⟨⟨_, _, _, closes⟩, by rw [closes]; rfl, fun hn => ?_, fun _ _ _ => ⟨by rw [closes]; rfl, rfl⟩,
        fun _ _ hn => ?_, fun b => ?_⟩
      · cases hb.symm.trans hn
      · cases hf.symm.trans hn
      · have entry : s.closeBatch.entry b
            = if b = x.block then { s.entry x.block with version := (s.entry x.block).version + 1 } else s.entry b := by
          rw [closes]
          exact s.entry_setEntry x.block b _
        rw [entry]
        by_cases hx : b = x.block
        · subst hx
          simp [State.batchFor, hb, hf]
        · have other : ¬ x.block = b := fun e => hx e.symm
          simp [State.batchFor, hb, hx, other]
    | false =>
      rw [State.closeOrDue_of_full hb hf]
      refine ⟨⟨s.dir, { s.write with batch := some { x with due := true } }, s.seq, rfl⟩, rfl, fun hn => ?_, fun _ _ hn => ?_, fun y hy _ => ⟨?_, rfl⟩, fun b => ?_⟩
      · cases hb.symm.trans hn
      · cases hf.symm.trans hn
      · obtain rfl := Option.some.inj (hb.symm.trans hy)
        rfl
      · rw [if_neg (by simp [hf])]
        rfl

/-! ## Claim slots and claims closed (R45, R49) -/

theorem State.closeClaims_fold (bs : List Block) (s : State) : ∃ requests, bs.foldl State.closeClaim s
    = (s.setClaim { s.claim with slots := s.claim.slots.filter (fun c => c.block ∉ bs) }).setSelect
      { s.select with requests := requests } := by
  induction bs generalizing s with
  | nil =>
    have all : s.claim.slots.filter (fun c => c.block ∉ ([] : List Block)) = s.claim.slots := by simp
    exact ⟨s.select.requests, by rw [all, List.foldl_nil]; rfl⟩
  | cons b bs ih =>
    obtain ⟨requests, h⟩ := ih (s.closeClaim b)
    refine ⟨requests, ?_⟩
    rw [List.foldl_cons, h]
    have slots : (s.closeClaim b).claim.slots.filter (fun c => c.block ∉ bs)
        = s.claim.slots.filter (fun c => c.block ∉ b :: bs) := by
      show (s.claim.slots.filter (fun c => c.block ≠ b)).filter (fun c => c.block ∉ bs) = _
      rw [List.filter_filter]
      exact List.filter_congr (fun c _ => by simp [Bool.and_comm])
    rw [slots]
    rfl

/-- No claim slot stays open (R45). -/
theorem State.closeClaims_same (s : State) : ∃ requests, s.closeClaims
    = (s.setClaim { s.claim with slots := [] }).setSelect { s.select with requests := requests } := by
  obtain ⟨requests, h⟩ := State.closeClaims_fold (s.claim.slots.map ClaimSlot.block) s
  have closed : s.claim.slots.filter (fun c => c.block ∉ s.claim.slots.map ClaimSlot.block) = [] := by
    rw [List.filter_eq_nil_iff]
    intro c hc
    simp only [decide_eq_true_eq, not_not]
    exact List.mem_map_of_mem hc
  rw [closed] at h
  exact ⟨requests, h⟩

theorem State.emptyClaimList_same (s : State) : ∃ dir, s.emptyClaimList = (s.setClaim { s.claim with list := [] }).setDir dir :=
  State.endYields_same _ _

/-- The blocks claimed yield no more (R49). -/
theorem State.entry_emptyClaimList (s : State) (b : Block) :
    s.emptyClaimList.entry b = { s.entry b with yielding := (s.entry b).yielding && !s.claimed b } := by
  have entry : s.emptyClaimList.entry b = _ := State.entry_endYields _ (s.setClaim { s.claim with list := [] }) b
  have unclaimed : (s.setClaim { s.claim with list := [] }).claimed b = false := rfl
  have gone : (b ∈ s.claim.list.map Prod.fst ∧ false = false) ↔ s.claimed b = true := by rw [State.claimed_iff]; simp
  have kept : (s.setClaim { s.claim with list := [] }).entry b = s.entry b := rfl
  rw [entry, unclaimed, kept]
  by_cases hc : s.claimed b = true
  · rw [if_pos (gone.mpr hc), hc, Bool.not_true, Bool.and_false]
  · rw [if_neg (fun h => hc (gone.mp h)), Bool.eq_false_iff.mpr hc, Bool.not_false, Bool.and_true]

/-- Without claim slots, none opens as the units are told. -/
theorem State.slots_told {s : State} (h : s.claim.slots = []) (gained : Option Station) :
    (s.told gained).claim.slots = [] := by
  have job := JobChecked.of_checkJob s.takeRegistrar
  have fetch := FetchesMoved.foldl gained s.takeRegistrar.checkJob.copy.slots s.takeRegistrar.checkJob
  have kept : (s.told gained).claim = s.takeRegistrar.claim := by
    unfold State.told State.retargetFetches
    generalize s.takeRegistrar.checkJob = v at *
    generalize s.takeRegistrar = u at *
    obtain ⟨_, _, checked⟩ := job.same
    obtain ⟨_, _, fetched⟩ := fetch.same
    rw [fetched, checked]
    rfl
  rw [kept]
  by_cases hr : s.computeRegistrar = s.member.registrar
  · rw [State.takeRegistrar_same hr, h]
  · have none : s.roleBlocks = [] := by rw [State.roleBlocks, h]; rfl
    have role : s.roleTaken.claim.slots = [] := by
      rw [State.roleTaken, none]
      split <;> exact h
    rw [State.takeRegistrar_changed hr]
    generalize s.roleTaken = r at *
    split <;> exact role

/-! ## LEAVING entered (R101) -/

/-- The station in LEAVING, its STATUS urgent, before its units are told (R101). -/
def State.goesOut (s : State) : State := s.setMember { s.member with state := .leaving, urgentStatus := true }

/-- The held writes reported and discarded (R38). -/
def State.heldDiscarded (s : State) : State :=
  let u := s.offerDiscarded (s.write.held.map (fun h => blockOf h.addr))
  u.setWrite { u.write with held := [] }

theorem State.heldDiscarded_eq (s : State) : s.heldDiscarded = (s.setWrite { s.write with held := [] }).setLog
    { s.log with offered := s.log.offered ++ discards (s.write.held.map (fun h => blockOf h.addr)) } := by
  rw [State.heldDiscarded, State.offerDiscarded_eq]
  rfl

/-- The claim slots closed and the claim list emptied (R45, R49). -/
def State.unclaimed (s : State) : State := s.closeClaims.emptyClaimList

theorem State.enterLeaving_eq {s : State} (hw : s.write.waiting = none) :
    s.enterLeaving = s.goesOut.closeOrDue.heldDiscarded.unclaimed.peersChanged none := by
  have refused : s.goesOut.refuseWaiting = s.goesOut := State.refuseWaiting_of_none hw
  have steps : s.enterLeaving = s.goesOut.refuseWaiting.closeOrDue.heldDiscarded.unclaimed.peersChanged none := rfl
  rw [steps, refused]

theorem State.unclaimed_same (s : State) : ∃ dir requests, s.unclaimed
    = ((s.setClaim { slots := [], list := [] }).setDir dir).setSelect { s.select with requests := requests } := by
  obtain ⟨requests, closed⟩ := s.closeClaims_same
  obtain ⟨dir, emptied⟩ := s.closeClaims.emptyClaimList_same
  rw [closed] at emptied
  rw [State.unclaimed, closed]
  exact ⟨dir, requests, emptied⟩

theorem State.entry_unclaimed (s : State) (b : Block) :
    s.unclaimed.entry b = { s.entry b with yielding := (s.entry b).yielding && !s.claimed b } := by
  obtain ⟨requests, closed⟩ := s.closeClaims_same
  rw [State.unclaimed, State.entry_emptyClaimList, closed]
  rfl

/-- What the way out leaves in t before the units are told (R38, R45, R49). -/
structure WayOut (s t : State) : Prop where
  member : t.member = { s.member with state := .leaving, urgentStatus := true }
  port : t.port = s.port
  window : t.window = s.window
  claim : t.claim = { slots := [], list := [] }
  write : t.write = { s.goesOut.closeOrDue.write with held := [] }
  seq : t.seq = s.goesOut.closeOrDue.seq
  entry : ∀ b, t.entry b
    = { s.goesOut.closeOrDue.entry b with yielding := (s.goesOut.closeOrDue.entry b).yielding && !s.claimed b }
  offered : t.log.offered = s.log.offered ++ discards (s.write.held.map (fun h => blockOf h.addr))

/-- What closing the open batch, or making it due, leaves alone. -/
theorem BatchLeft.kept {s t : State} (h : BatchLeft s t) : t.member = s.member ∧ t.port = s.port
    ∧ t.window = s.window ∧ t.claim = s.claim ∧ t.log = s.log := by
  obtain ⟨_, _, _, rfl⟩ := h.same
  exact ⟨rfl, rfl, rfl, rfl, rfl⟩

theorem State.unclaimed_kept (s : State) : s.unclaimed.member = s.member ∧ s.unclaimed.port = s.port
    ∧ s.unclaimed.window = s.window ∧ s.unclaimed.claim = { slots := [], list := [] } ∧ s.unclaimed.write = s.write
    ∧ s.unclaimed.seq = s.seq ∧ s.unclaimed.log = s.log := by
  obtain ⟨dir, requests, same⟩ := s.unclaimed_same
  rw [same]
  exact ⟨rfl, rfl, rfl, rfl, rfl, rfl, rfl⟩

theorem WayOut.of_steps (s : State) : WayOut s s.goesOut.closeOrDue.heldDiscarded.unclaimed := by
  have batch := BatchLeft.of_closeOrDue s.goesOut
  have held : s.goesOut.closeOrDue.write.held = s.write.held := batch.held
  obtain ⟨member, port, window, claim, log⟩ := batch.kept
  obtain ⟨member', port', window', claim', write', seq', log'⟩ := s.goesOut.closeOrDue.heldDiscarded.unclaimed_kept
  have yields := s.goesOut.closeOrDue.heldDiscarded.entry_unclaimed
  have discarded := s.goesOut.closeOrDue.heldDiscarded_eq
  generalize hc : s.goesOut.closeOrDue = c at *
  have claimed : ∀ b, c.heldDiscarded.claimed b = s.claimed b := fun b => by
    rw [discarded]
    exact congrArg (fun x : ClaimUnit => x.list.any (fun y => y.1 = b)) claim
  rw [held, log] at discarded
  refine ⟨?_, ?_, ?_, claim', ?_, ?_, fun b => ?_, ?_⟩
  · rw [member', discarded]
    exact member
  · rw [port', discarded]
    exact port
  · rw [window', discarded]
    exact window
  · rw [write', discarded, hc]
    rfl
  · rw [seq', discarded, hc]
    rfl
  · rw [yields, claimed, discarded, hc]
    rfl
  · rw [log', discarded]
    rfl

/-- What COMMAND LEAVE leaves in LIVE (R38, R45, R49, R101). -/
theorem State.enterLeaving_leaves {s : State} (hw : s.write.waiting = none) :
    let t := s.enterLeaving
    t.member.state = .leaving ∧ t.member.urgentStatus = true ∧ t.member.registrar = t.computeRegistrar
    ∧ t.member.peers = s.member.peers ∧ t.port = s.port ∧ t.window = s.window
    ∧ t.claim.slots = [] ∧ t.claim.list = [] ∧ t.write.held = []
    ∧ (s.write.batch = none → t.write.batch = none ∧ t.seq = s.seq)
    ∧ (∀ x, s.write.batch = some x →
      (s.freeGeneral = true → t.write.batch = none ∧ t.seq = s.closeBatch.seq)
      ∧ (s.freeGeneral = false → t.write.batch = some { x with due := true } ∧ t.seq = s.seq))
    ∧ (∀ b, t.entry b = { s.entry b with
        version := if s.batchFor b = true ∧ s.freeGeneral = true then (s.entry b).version + 1 else (s.entry b).version
        yielding := (s.entry b).yielding && !s.claimed b })
    ∧ t.log.offered = s.log.offered ++ discards (s.write.held.map (fun h => blockOf h.addr)) := by
  intro t
  have out := WayOut.of_steps s
  have left := BatchLeft.of_closeOrDue s.goesOut
  have taken : t = _ := State.enterLeaving_eq hw
  have closes : ∀ x, s.write.batch = some x → s.goesOut.closeBatch.seq = s.closeBatch.seq := fun x hx => by
    rw [State.closeBatch_of_batch hx, State.closeBatch_of_batch (s := s.goesOut) hx]
    rfl
  generalize s.goesOut.closeOrDue.heldDiscarded.unclaimed = u at *
  rw [State.peersChanged_told (fun hs => by rw [out.member] at hs; cases hs)] at taken
  have told := PeersTold.of_told u none
  have slots := State.slots_told (s := u) (by rw [out.claim]) none
  rw [← taken] at told slots
  clear_value t
  have unclaimed : t.claim.list = [] := List.eq_nil_iff_forall_not_mem.mpr (fun x hx => by
    have listed := ((told.list x).mp hx).1
    rw [out.claim] at listed
    cases listed)
  have lowest : t.computeRegistrar = u.computeRegistrar :=
    State.computeRegistrar_congr (by rw [told.member]) (by rw [told.member]) (fun y => by rw [told.peer])
  have write : t.write = { s.goesOut.closeOrDue.write with held := [] } := told.write.trans out.write
  have batch : t.write.batch = s.goesOut.closeOrDue.write.batch := by rw [write]
  have seq : t.seq = s.goesOut.closeOrDue.seq := told.seq.trans out.seq
  refine ⟨by rw [told.member, out.member], by rw [told.member, out.member], by rw [lowest, told.member],
    by rw [told.member, out.member], told.port.trans out.port, told.window.trans out.window, slots, unclaimed,
    by rw [write], fun hb => ?_, fun x hb => ⟨fun hf => ?_, fun hf => ?_⟩, fun b => ?_,
    (congrArg IncidentLog.offered told.log).trans out.offered⟩
  · obtain ⟨none, same⟩ := left.unbatched hb
    exact ⟨batch.trans none, seq.trans same⟩
  · obtain ⟨none, same⟩ := left.closed x hb hf
    exact ⟨batch.trans none, seq.trans (same.trans (closes x hb))⟩
  · obtain ⟨due, same⟩ := left.due x hb hf
    exact ⟨batch.trans due, seq.trans same⟩
  · rw [told.entry, out.entry, left.entry]
    rfl

/-- An untroubled station with nothing written and nothing claimed only goes out (R101). -/
theorem State.enterLeaving_untroubled {s : State} (hu : s.untroubled = true) (hr : s.member.registrar ≠ s.member.own)
    (hw : s.write = WriteUnit.reset) (hc : s.claim = ClaimUnit.reset) : s.enterLeaving = s.goesOut := by
  obtain ⟨-, idle, closed, registrar⟩ := State.untroubled_iff.mp hu
  have batch : s.goesOut.closeOrDue = s.goesOut := by
    rw [State.closeOrDue, show s.goesOut.write = WriteUnit.reset from hw]
    rfl
  have held : s.goesOut.heldDiscarded = s.goesOut := by
    have same : s.goesOut.setWrite { s.goesOut.write with held := [] } = s.goesOut := by
      rw [show s.goesOut.write = WriteUnit.reset from hw]
      exact congrArg s.goesOut.setWrite hw.symm
    rw [State.heldDiscarded_eq, same, show s.goesOut.write.held = [] by rw [show s.goesOut.write = s.write from rfl, hw]; rfl]
    exact s.goesOut.offered_nothing
  have unclaimed : s.goesOut.unclaimed = s.goesOut := by
    have claim : s.goesOut.claim = ClaimUnit.reset := hc
    have closes : s.goesOut.closeClaims = s.goesOut := by
      rw [State.closeClaims, claim]
      rfl
    rw [State.unclaimed, closes, State.emptyClaimList, claim]
    exact congrArg s.goesOut.setClaim claim.symm
  have lowest : s.goesOut.computeRegistrar = s.goesOut.member.registrar := by
    refine (State.computeRegistrar_of_leaving (s := s) (t := s.goesOut) rfl rfl rfl ?_).trans registrar
    rw [registrar]
    exact hr
  rw [State.enterLeaving_eq (by rw [hw]; rfl), batch, held, unclaimed,
    State.peersChanged_told (fun hs => by cases hs), State.told_nothing lowest idle closed]

/-! ## The departure's end (R100, R102) -/

theorem State.departureEnds_alone {s : State} (h : s.departsAlone = true) : s.departureEnds = s.depart 0 := if_pos h

theorem State.departureEnds_receipted {s : State} (h : s.departsAlone = false) (hr : s.ownExcludeReceipted = true) :
    s.departureEnds = s.dropHead.depart 0 := by
  have retires : s.departureEnds = s.retireHead := by rw [State.departureEnds, if_neg (by simp [h]), if_pos hr]
  rw [retires]
  cases hq : s.seq.queue with
  | nil => simp [State.ownExcludeReceipted, hq] at hr
  | cons e rest =>
    simp only [State.ownExcludeReceipted, hq, Bool.and_eq_true] at hr
    exact State.retireHead_own hq hr.2

/-- Settles O36: COMMAND LEAVE by the station state, and the rows of the departure's end. -/
theorem departureSteps : Obligations.DepartureSteps := by
  intro low s reset
  refine ⟨?_, ?_, ?_, ?_, ?_, ?_, ?_⟩
  · intro hp hs u t still
    rw [exec_leave hp (judgeLeave_early hs)]
    exact congrArg Host.Outcome.next (State.settleEvent_of_still still)
  · intro hp hu hr hw hc u t still
    have live := (State.untroubled_iff.mp hu).1
    have leaves : u.enterLeaving = t := State.enterLeaving_untroubled (s := u) hu hr hw hc
    rw [exec_leave hp (judgeLeave_live live), leaves, State.settleEvent_of_still still]
  · intro hp live
    have leaves := State.enterLeaving_leaves (s := s.tickStamp.setPort { s.port with
      command := wordOf 4 low, result := wordOf 4 1 }) (State.waiting_of_portFree hp)
    have row := exec_leave hp (judgeLeave_live (s := s.tickStamp) live) low
    have closes : ∀ x, s.write.batch = some x → (s.tickStamp.setPort { s.port with
        command := wordOf 4 low, result := wordOf 4 1 }).closeBatch.seq = s.closeBatch.seq := fun x hx => by
      rw [State.closeBatch_of_batch hx, State.closeBatch_of_batch (s := s.tickStamp.setPort _) hx]
      rfl
    generalize State.enterLeaving _ = t at *
    obtain ⟨state, urgent, registrar, peers, port, window, slots, list, held, unbatched, batched, entry, discarded⟩ := leaves
    have offered : t.log.offered = s.log.offered ++ discards (s.write.held.map (fun h => blockOf h.addr)) := discarded
    refine ⟨t, row, state, urgent, registrar, peers, port, window, slots, list, held, unbatched,
      fun x hb => ⟨fun hf => ?_, (batched x hb).2⟩, entry, fun hh => ?_, fun hh => ?_⟩
    · obtain ⟨none, same⟩ := (batched x hb).1 hf
      exact ⟨none, same.trans (closes x hb)⟩
    · rw [offered, hh]
      exact List.append_nil _
    · obtain ⟨o, one, named⟩ := discards_of_some (bs := s.write.held.map (fun h => blockOf h.addr)) (by simpa using hh)
      rw [List.length_map] at one
      simp only [List.forall_mem_map] at named
      exact ⟨o, offered.trans (congrArg (s.log.offered ++ ·) one), named⟩
  · intro hp hs hn u v listed
    have row : exec (.leave low) s = .next (v.askExclude s.member.own .leave).settleEvent :=
      exec_leave hp (judgeLeave_catchup (s := s.tickStamp) hs hn) low
    refine ⟨fun hf => ?_, fun hf hl => ?_, fun hf hl => ?_⟩
    · rw [row, State.askExclude_free v _ _ hf]
    · rw [row, State.askExclude_listed v _ _ hf hl]
    · rw [row, State.askExclude_unlisted v _ _ hf hl]
      rfl
  · intro ha t still
    have departs : s.tickStamp.departureEnds = t := State.departureEnds_alone (s := s.tickStamp) ha
    show Host.Outcome.next (s.event State.departureEnds) = _
    rw [State.event_of_resetHigh reset, departs, State.settleEvent_of_still still]
  · intro ha ho t still
    have departs : s.tickStamp.departureEnds = t := State.departureEnds_receipted (s := s.tickStamp) ha ho
    show Host.Outcome.next (s.event State.departureEnds) = _
    rw [State.event_of_resetHigh reset, departs, State.settleEvent_of_still still]
  · intro ha still
    have asks : s.tickStamp.askLeave = s.tickStamp.enqueue (.exclude s.member.own .leave) := if_pos ha
    show Host.Outcome.next (s.event State.askLeave) = _
    rw [State.event_of_resetHigh reset, asks, State.settleEvent_of_still still]

end Sys2Proof.Machine
end

section
/-! The Copy Unit's sources, slots and holds: Table 6-2, the block a free slot opens for, attempts and their end, holds and REFRESH (R105, R108 to R110, R114, Tables 6-2 and 6-3). -/

namespace Sys2Proof.Machine

/-! ## The block a fetch slot opens for (R108) -/

theorem blocks_find?_eq_some {f : Block → Bool} {b : Block} :
    blocks.find? f = some b ↔ f b = true ∧ ∀ x < b, f x = false := by
  rw [blocks, List.find?_eq_some_iff_getElem]
  refine and_congr_right (fun _ => ⟨?_, fun low => ⟨b.val, by simp, by simp, fun j hj => ?_⟩⟩)
  · rintro ⟨i, hi, hb, low⟩ x hx
    have lower : x.val < i := by
      rw [← hb] at hx
      simpa [Fin.lt_def] using hx
    simpa using low x.val lower
  · simpa using low ⟨j, hj.trans b.isLt⟩ hj

theorem State.eligible_iff {s : State} {b : Block} : s.eligible b = true ↔ (s.entry b).copy = .stale
    ∧ (∀ h ∈ s.copy.holds, h.1 ≠ b) ∧ ((s.entry b).owner ≠ 0 ∨ (s.entry b).donor ≠ none) := by
  simp [State.eligible, and_assoc, Option.isSome_iff_ne_none]

theorem State.anyEntry_of_entry {s : State} {f : DirEntry → Bool} {b : Block} (h : f (s.entry b) = true) :
    s.anyEntry f = true :=
  List.any_eq_true.mpr ⟨s.entry b, Vector.mem_toList_iff.mpr (Vector.getElem_mem b.isLt), h⟩

/-- A free slot opens for the lowest eligible block, in the states of a group. -/
theorem State.nextFetch_eq_some {s : State} {b : Block} : s.nextFetch = some b ↔
    s.active = true ∧ s.copy.slots.length < 4 ∧ s.eligible b = true ∧ ∀ x < b, s.eligible x = false := by
  have opens : s.nextFetch = some b ↔ ((s.active = true ∧ s.copy.slots.length < 4)
      ∧ s.anyEntry (fun e => e.copy = .stale) = true) ∧ blocks.find? s.eligible = some b := by
    rw [State.nextFetch, Option.ite_none_right_eq_some, Bool.and_eq_true, Bool.and_eq_true, decide_eq_true_iff]
    rfl
  rw [opens, blocks_find?_eq_some]
  constructor
  · rintro ⟨⟨⟨ha, room⟩, -⟩, lowest⟩
    exact ⟨ha, room, lowest⟩
  · rintro ⟨ha, room, eligible, low⟩
    obtain ⟨stale, -⟩ := State.eligible_iff.mp eligible
    exact ⟨⟨⟨ha, room⟩, State.anyEntry_of_entry (b := b) (by simp [stale])⟩, eligible, low⟩

/-! ## Fetch sources (R109, Table 6-2) -/

/-- A peer held LIVE other than the owner. -/
def State.otherLive (s : State) (owner p : Station) : Prop :=
  p ≠ 0 ∧ p ≠ s.own ∧ p ≠ owner ∧ (s.peer p).state = .live

theorem State.otherLive_iff {s : State} {o p : Station} : s.otherLive o p ↔
    p ≠ 0 ∧ (p ≠ s.own && p ≠ o && (s.peer p).state = .live) = true := by
  simp [State.otherLive, and_assoc]

theorem State.lowestLive_of_least {s : State} {o p : Station} (h : s.otherLive o p)
    (low : ∀ x, s.otherLive o x → p ≤ x) : s.lowestLive o = p := by
  obtain ⟨h0, live⟩ := State.otherLive_iff.mp h
  rw [State.lowestLive, stations_find?_eq_some.mpr ⟨h0, live, fun x hx hl =>
    low x (State.otherLive_iff.mpr ⟨hx, hl⟩)⟩]
  rfl

theorem State.lowestLive_of_none {s : State} {o : Station} (h : ∀ p, ¬ s.otherLive o p) : s.lowestLive o = 0 := by
  rw [State.lowestLive, stations_find?_eq_none.mpr fun p h0 => Bool.eq_false_iff.mpr fun hl =>
    h p (State.otherLive_iff.mpr ⟨h0, hl⟩)]
  rfl

/-- The block has a donor that is usable. -/
def State.donated (s : State) (b : Block) : Prop := ∃ d, (s.entry b).donor = some d ∧ s.usable d = true

section
variable {s : State} {b : Block} {k : Nat}

theorem State.fetchSource_of_donor {d : Station} (hd : (s.entry b).donor = some d) (hu : s.usable d = true) (hk : k ≤ 2) :
    s.fetchSource b k = d := by
  simp [State.fetchSource, hd, hu, hk]

/-- The attempts at the owner first: those after a donor's, and the first two without one. -/
theorem State.fetchSource_ownerFirst (h : (s.donated b ∧ 2 < k) ∨ (¬ s.donated b ∧ k ≤ 2)) :
    s.fetchSource b k = if s.usable (s.entry b).owner then (s.entry b).owner else s.lowestLive (s.entry b).owner := by
  obtain ⟨⟨d, hd, hu⟩, hk⟩ | ⟨hn, hk⟩ := h
  · simp [State.fetchSource, hd, hu, Nat.not_le.mpr hk]
  · cases hd : (s.entry b).donor with
    | none => simp [State.fetchSource, hd, hk]
    | some d =>
      have hu : s.usable d ≠ true := fun hu => hn ⟨d, hd, hu⟩
      simp [State.fetchSource, hd, hu, hk]

/-- The attempts at the owner last: 3 and 4 without a donor. -/
theorem State.fetchSource_ownerLast (hn : ¬ s.donated b) (hk : 2 < k) :
    s.fetchSource b k = if s.lowestLive (s.entry b).owner ≠ 0 then s.lowestLive (s.entry b).owner
      else if s.usable (s.entry b).owner then (s.entry b).owner else 0 := by
  have late := Nat.not_le.mpr hk
  cases hd : (s.entry b).donor with
  | none => simp [State.fetchSource, hd, late]
  | some d =>
    have hu : s.usable d ≠ true := fun hu => hn ⟨d, hd, hu⟩
    simp [State.fetchSource, hd, hu, late]

end

/-! ## Slots and attempts (R105, R108, R110) -/

theorem State.snapqExpires_of_limit {s : State} {n : Nat} (hm : s.copy.missing ≠ 0) (hq : s.copy.snapq = some n)
    (hn : 1024 ≤ n) : s.snapqExpires = s.sendSnapq :=
  if_pos ⟨hm, by simp [reached, hq, Config.snapqTimeout, hn]⟩

/-- The station with a slot opened for a block at a source, its FETCH not judged yet. -/
def State.slotOpened (s : State) (b : Block) (source : Station) : State :=
  (s.setEntry b { s.entry b with copy := .fetching }).setCopyUnit
    { s.copy with slots := s.copy.slots ++ [⟨b, source, 1, 0⟩] }

/-- A slot opens at its source, and a FETCH is due there, or none where there is none (log entry 13). -/
theorem State.openFetch_eq {s : State} {b : Block} (h : s.fetchSlot b = none) : s.openFetch b =
    if s.fetchSource b 1 = 0 then (s.slotOpened b (s.fetchSource b 1)).withdraw (.fetch b)
    else (s.slotOpened b (s.fetchSource b 1)).makeDue (.fetch b) (s.fetchSource b 1) := by
  have source : (s.slotOpened b 0).fetchSource b 1 = s.fetchSource b 1 := by
    have entry : (s.slotOpened b 0).entry b = { s.entry b with copy := .fetching } := State.entry_setEntry_same _ _ _
    exact State.fetchSource_congr (s := s) (t := s.slotOpened b 0) rfl rfl (by rw [entry]) (by rw [entry]) 1
  have others : ∀ c ∈ s.copy.slots, ¬ c.block = b := by simpa [State.fetchSlot] using h
  have slots : (s.slotOpened b 0).setCopyUnit { (s.slotOpened b 0).copy with
      slots := (s.slotOpened b 0).copy.slots.map (fun c => if c.block = b then ⟨b, s.fetchSource b 1, 1, 0⟩ else c) }
      = s.slotOpened b (s.fetchSource b 1) := by
    simp only [State.slotOpened, State.copy_setCopyUnit, List.map_append, map_replace_other others, List.map_cons,
      List.map_nil, if_pos]
    rfl
  show (s.slotOpened b 0).nextAttempt b 1 = _
  rw [State.nextAttempt_eq, source, slots]

theorem State.openNextFetch_of_next {s : State} {b : Block} (h : s.nextFetch = some b) :
    s.openNextFetch = s.openFetch b := by simp only [State.openNextFetch, h]

theorem State.fetchExpires_of_limit {s : State} {b : Block} {c : FetchSlot} (h : s.fetchSlot b = some c)
    (ht : 512 ≤ c.timer) : s.fetchExpires b = s.endAttempt c := by
  simp only [State.fetchExpires, h]
  exact if_pos ht

/-- A failed fetch of a FETCHING block: its slot and its FETCH go, it is STALE under one new hold, FETCH_FAILED. -/
theorem State.failFetch_of_fetching {s : State} {b : Block} (h : (s.entry b).copy = .fetching) (p : Station) :
    s.failFetch b p = ((((s.setEntry b { s.entry b with copy := .stale }).setCopyUnit { s.copy with
        slots := s.copy.slots.filter (fun x => x.block ≠ b)
        holds := s.copy.holds.filter (fun x => x.1 ≠ b) ++ [(b, 0)] }).withdraw (.fetch b)).offer
      { cls := .fetchFailed, peer := if p = 0 then none else some p, block := some b, detail := (s.entry b).version }) := by
  have version : ((s.makeStale b).entry b).version = (s.entry b).version := by rw [State.entry_makeStale, if_pos rfl]
  have failed : s.failFetch b p = (((s.makeStale b).endHold b).setCopyUnit { (s.makeStale b).copy with
        holds := (s.makeStale b).copy.holds.filter (fun x => x.1 ≠ b) ++ [(b, 0)] }).offer
      { cls := .fetchFailed, peer := if p = 0 then none else some p, block := some b
        detail := ((s.makeStale b).entry b).version } := rfl
  rw [failed, version, State.makeStale_of_fetching h]
  rfl

/-! ## Holds and REFRESH (R110, R114) -/

theorem State.holdExpires_of_limit {s : State} {b : Block} (h : ∃ n, (b, n) ∈ s.copy.holds ∧ 2048 ≤ n) :
    s.holdExpires b = s.endHold b := by
  obtain ⟨n, hb, hn⟩ := h
  exact if_pos (List.any_eq_true.mpr ⟨(b, n), hb, by simp [Config.heartbeat, hn]⟩)

/-- An accepted REFRESH has its effect on the station that holds the command and its result. -/
theorem exec_refresh {s : State} {b : Block} {effect : State → State} (hp : s.portFree = true)
    (hs : s.member.state = .live) (h : judgeRefresh b s.tickStamp = (.accepted, effect)) : exec (.refresh b) s
      = .next (effect (s.tickStamp.setPort { s.port with
          command := wordOf 3 (byteOf b.val), result := wordOf 3 1 })).settleEvent := by
  have live : s.tickStamp.state = .live := hs
  have commanded : s.tickStamp.command (wordOf 3 (byteOf b.val)) = effect (s.tickStamp.setPort { s.port with
      command := wordOf 3 (byteOf b.val), result := wordOf 3 1 }) := by
    simp only [State.command, hiByte_wordOf, loByte_wordOf, live]
    show s.tickStamp.commandWith 3 (byteOf b.val) (judgeRefresh (blockAt (byteOf b.val)) s.tickStamp).1
      (judgeRefresh (blockAt (byteOf b.val)) s.tickStamp).2 = _
    rw [blockAt_byteOf, h]
    rfl
  show Host.Outcome.next (s.portEvent _) = _
  rw [State.portEvent_of_free hp, commanded]

theorem judgeRefresh_current {s : State} {b : Block} (hs : s.member.state = .live) (ho : s.owned b = false)
    (hc : (s.entry b).copy = .current) : judgeRefresh b s = (.accepted, (·.makeStale b)) := by
  simp [judgeRefresh, State.state, hs, ho, hc]

theorem judgeRefresh_stale {s : State} {b : Block} (hs : s.member.state = .live) (ho : s.owned b = false)
    (hc : (s.entry b).copy = .stale) : judgeRefresh b s = (.accepted, (·.endHold b)) := by
  simp [judgeRefresh, State.state, hs, ho, hc]

/-! ## The rows -/

/-- Settles O37: the two rows by what they do, R108's eligibility, and Table 6-2 by who is asked first. -/
theorem snapqTimerAndFetchOpen : Obligations.SnapqTimerAndFetchOpen := by
  have opens : ∀ {b : Block} {s : State}, s.resetLow = false → s.nextFetch = some b → s.fetchSlot b = none →
      exec .fetchSlotOpen s = .next (if s.fetchSource b 1 = 0
        then (s.tickStamp.slotOpened b (s.fetchSource b 1)).withdraw (.fetch b)
        else (s.tickStamp.slotOpened b (s.fetchSource b 1)).makeDue (.fetch b) (s.fetchSource b 1)).settleEvent := by
    intro b s reset next slot
    show Host.Outcome.next (s.event State.openNextFetch) = _
    rw [State.event_of_resetHigh reset, State.openNextFetch_of_next (s := s.tickStamp) next,
      State.openFetch_eq (s := s.tickStamp) slot]
    rfl
  refine ⟨?_, ?_, ?_, ?_, ?_⟩
  · intro n s reset hm hq hn t still
    have sent : s.tickStamp.snapqExpires = t := State.snapqExpires_of_limit (s := s.tickStamp) hm hq hn
    show Host.Outcome.next (s.event State.snapqExpires) = _
    rw [State.event_of_resetHigh reset, sent, State.settleEvent_of_still still]
  · intro b s reset next slot source t still
    rw [opens reset next slot, if_neg source]
    exact congrArg Host.Outcome.next (State.settleEvent_of_still still)
  · intro b s reset next slot source t still
    rw [opens reset next slot, if_pos source, source]
    exact congrArg Host.Outcome.next (State.settleEvent_of_still still)
  · intro b s eligible
    have lowest : ∀ x, s.eligible x = false ↔ ¬ eligible x := fun x => by
      rw [← Bool.not_eq_true, State.eligible_iff]
    simp only [State.nextFetch_eq_some, State.active_iff, lowest]
    rw [State.eligible_iff]
  · intro b k s usable owner other donated source
    have usable_iff : ∀ p, usable p ↔ s.usable p = true := fun p => State.usable_iff.symm
    have donated_iff : donated ↔ s.donated b :=
      exists_congr fun d => and_congr_right fun _ => usable_iff d
    simp only [donated_iff, usable_iff]
    refine ⟨fun d => State.fetchSource_of_donor, fun h => ⟨fun hu => ?_, fun hu => ⟨fun p hp low => ?_,
      fun none => ?_⟩⟩, fun hd hk => ⟨fun p hp low => ?_, fun none => ⟨fun hu => ?_, fun hu => ?_⟩⟩⟩
    · exact (State.fetchSource_ownerFirst h).trans (if_pos hu)
    · exact (State.fetchSource_ownerFirst h).trans ((if_neg hu).trans (State.lowestLive_of_least hp low))
    · exact (State.fetchSource_ownerFirst h).trans ((if_neg hu).trans (State.lowestLive_of_none none))
    · have lowest : s.lowestLive owner = p := State.lowestLive_of_least hp low
      exact (State.fetchSource_ownerLast hd hk).trans ((if_pos (lowest ▸ hp.1)).trans lowest)
    · have nobody : s.lowestLive owner = 0 := State.lowestLive_of_none none
      exact (State.fetchSource_ownerLast hd hk).trans ((if_neg (not_not_intro nobody)).trans (if_pos hu))
    · have nobody : s.lowestLive owner = 0 := State.lowestLive_of_none none
      exact (State.fetchSource_ownerLast hd hk).trans ((if_neg (not_not_intro nobody)).trans (if_neg hu))

/-- Settles O38: the timeout ends the attempt, which is the fourth or an earlier one. -/
theorem fetchTimeoutRetriesOrFails : Obligations.FetchTimeoutRetriesOrFails := by
  intro b c s reset slot _ timer fetching
  have row : exec (.fetchTimeout b) s = .next (s.tickStamp.endAttempt c).settleEvent := by
    show Host.Outcome.next (s.event (·.fetchExpires b)) = _
    rw [State.event_of_resetHigh reset, State.fetchExpires_of_limit (s := s.tickStamp) slot timer]
  refine ⟨?_, ?_⟩
  · intro last u t still
    have failed : s.tickStamp.endAttempt c = t :=
      (State.endAttempt_last (s := s.tickStamp) slot last.ge).trans
        (State.failFetch_of_fetching (s := s.tickStamp) fetching c.source)
    rw [row, failed, State.settleEvent_of_still still]
  · intro more source t still
    have retried : s.tickStamp.endAttempt c = t :=
      (State.endAttempt_next (s := s.tickStamp) slot more).trans
        ((s.tickStamp.nextAttempt_eq b (c.attempt + 1)).trans (if_neg source))
    rw [row, retried, State.settleEvent_of_still still]

/-- Settles O39: the end of a hold, and REFRESH by the copy state it finds (Table 6-3). -/
theorem holdEndsAndRefresh : Obligations.HoldEndsAndRefresh := by
  intro b s
  refine ⟨?_, fun free live owned => ⟨?_, ?_⟩⟩
  · intro reset held t still
    have ended : s.tickStamp.holdExpires b = t := State.holdExpires_of_limit (s := s.tickStamp) held
    show Host.Outcome.next (s.event (·.holdExpires b)) = _
    rw [State.event_of_resetHigh reset, ended, State.settleEvent_of_still still]
  · intro current t still
    have notFetching : (s.entry b).copy ≠ .fetching := by simp [current]
    have staled : State.makeStale _ b = t := State.makeStale_of_not_fetching (s := s.tickStamp.setPort _) notFetching
    rw [exec_refresh free live (judgeRefresh_current (s := s.tickStamp) live owned current), staled,
      State.settleEvent_of_still still]
  · intro stale t still
    rw [exec_refresh free live (judgeRefresh_stale (s := s.tickStamp) live owned stale)]
    exact congrArg Host.Outcome.next (State.settleEvent_of_still still)

end Sys2Proof.Machine
end

section
/-! FETCH, SNAPQ and SNAP: the answer queue, and the parts of the directory that a CATCHUP station takes (R105, R106, R116). -/

namespace Sys2Proof.Machine

/-! ## The frames at their unit (R89, R165) -/

/-- The row of a frame heard that is neither sequenced nor a STATUS nor a JOIN: its unit sees it, but from an EXCLUDED
station. -/
theorem exec_unsequenced {l : LaneId} {f : Frame} {s : State} (h : s.hearsFrame l f = true) {k : Kind}
    (hk : f.payload.kind = k) (plain : k.sequenced = false ∧ k ≠ .status ∧ k ≠ .join) :
    exec (k.row (cleanFrame l f)) s = .next (if (s.peer f.sender).state = .excluded
      then s.carried l f.sender else (s.carried l f.sender).unsequenced f).settleEvent := by
  subst hk
  obtain ⟨unsequenced, notStatus, notJoin⟩ := plain
  rw [exec_frameRow, State.event_of_hearing h, State.deliverActive_unsequenced unsequenced notStatus notJoin,
    State.peerState_carried]

/-- A frame that is heard has a sender, and another station than this one (R161). -/
theorem State.sender_of_hears {s : State} {l : LaneId} {f : Frame} (h : s.hearsFrame l f = true) :
    f.sender ≠ 0 ∧ f.sender ≠ s.own := by
  have heard := State.canHear_of_hears h
  simp only [State.canHear, Bool.and_eq_true, decide_eq_true_iff] at heard
  obtain ⟨⟨⟨-, wf⟩, other⟩, -⟩ := heard
  simp only [Frame.wellFormed, Bool.and_eq_true, decide_eq_true_iff] at wf
  obtain ⟨⟨sender, -⟩, -⟩ := wf
  exact ⟨sender, other⟩

/-! ## The answer queue (R116) -/

/-- The answer queue after an entry: appended, or dropped where it stands already or four places are taken. -/
def pushAnswer (as : List Answer) (a : Answer) : List Answer := if a ∈ as ∨ 4 ≤ as.length then as else as ++ [a]

theorem State.queueAnswer_eq (s : State) (a : Answer) :
    s.queueAnswer a = s.setCopyUnit { s.copy with answers := pushAnswer s.copy.answers a } := by
  by_cases h : a ∈ s.copy.answers ∨ 4 ≤ s.copy.answers.length
  · rw [pushAnswer, if_pos h]
    exact if_pos h
  · rw [pushAnswer, if_neg h]
    exact if_neg h

/-- Entries made one after another change the answer queue alone. -/
theorem State.foldl_queueAnswer {α : Type} (f : α → Answer) (xs : List α) (s : State) :
    xs.foldl (fun u x => u.queueAnswer (f x)) s
      = s.setCopyUnit { s.copy with answers := xs.foldl (fun as x => pushAnswer as (f x)) s.copy.answers } := by
  induction xs generalizing s with
  | nil => rfl
  | cons x xs ih =>
    rw [List.foldl_cons, ih, State.queueAnswer_eq, List.foldl_cons]
    rfl

theorem State.fetchArrive_of_sender {s : State} (hs : s.member.state = .live ∨ s.member.state = .leaving) (p : Station)
    (b : Block) : s.fetchArrive p b
      = s.setCopyUnit { s.copy with answers := pushAnswer s.copy.answers (.copy p b) } := by
  have sends : s.fullSender = true := by
    rw [State.fullSender, Bool.or_eq_true, decide_eq_true_iff, decide_eq_true_iff]
    exact hs
  rw [State.fetchArrive, if_pos sends, State.queueAnswer_eq]

theorem State.snapqArrive_of_registrar {s : State} (hr : s.isRegistrar = true) (p : Station) (m : Word) :
    s.snapqArrive p m = s.setCopyUnit { s.copy with
      answers := ((List.finRange 16).filter (fun i => m.getLsbD i.val)).foldl (fun as i => pushAnswer as (.snap p i))
        s.copy.answers } := by
  rw [State.snapqArrive, if_pos hr, State.foldl_queueAnswer]

/-- Settles O54: each request is pushed on the answer queue as it stands. -/
theorem requestsAreQueued : Obligations.RequestsAreQueued := by
  intro l p q b m s push f g member
  refine ⟨?_, ?_⟩
  · intro h hs t still
    have queued : (s.carried l p).fetchArrive p b = t := by
      rw [State.fetchArrive_of_sender (by simpa using hs), State.copy_carried]
      rfl
    have row : exec (.fetchReceived (cleanFrame l f)) s = .next ((s.carried l p).fetchArrive p b).settleEvent := by
      refine (exec_unsequenced (k := .fetch) h rfl (by decide)).trans ?_
      rw [if_neg member]
      rfl
    rw [row, queued, State.settleEvent_of_still still]
  · intro h hr parts t still
    have queued : (s.carried l p).snapqArrive p m = t := by
      rw [State.snapqArrive_of_registrar (by rwa [State.isRegistrar_carried]), State.copy_carried]
      rfl
    have row : exec (.snapqReceived (cleanFrame l g)) s = .next ((s.carried l p).snapqArrive p m).settleEvent := by
      refine (exec_unsequenced (k := .snapq) h rfl (by decide)).trans ?_
      rw [if_neg member]
      rfl
    rw [row, queued, State.settleEvent_of_still still]

/-! ## SNAP (R105, R106) -/

theorem State.takesSnap_iff {s : State} {p : Station} {i : Part} : s.takesSnap p i = true ↔
    s.member.state = .catchup ∧ s.copy.missing.getLsbD i.val = true ∧ s.usable p = true := by
  rw [State.takesSnap, Bool.and_eq_true, Bool.and_eq_true, decide_eq_true_iff, and_assoc]
  rfl

theorem State.makeStale_keeps (s : State) (b : Block) :
    (s.makeStale b).member = s.member ∧ (s.makeStale b).copy.missing = s.copy.missing := by
  simp only [State.makeStale]
  split <;> exact ⟨rfl, rfl⟩

/-- A SNAP entry leaves the members, and the parts that are missing. -/
theorem State.snapEntry_keeps (s : State) (b : Block) (x : SnapEntry) :
    (s.snapEntry b x).member = s.member ∧ (s.snapEntry b x).copy.missing = s.copy.missing := by
  unfold State.snapEntry
  split
  · exact State.makeStale_keeps _ b
  · exact ⟨rfl, rfl⟩

theorem State.snapEntries_keeps (s : State) (i : Part) (es : List SnapEntry) :
    (s.snapEntries i es).member = s.member ∧ (s.snapEntries i es).copy.missing = s.copy.missing := by
  refine List.foldlRecOn (motive := fun u : State => u.member = s.member ∧ u.copy.missing = s.copy.missing)
    es.zipIdx _ ⟨rfl, rfl⟩ (fun u ⟨member, missing⟩ x _ => ?_)
  obtain ⟨member', missing'⟩ := u.snapEntry_keeps (partBlock i x.2) x.1
  exact ⟨member'.trans member, missing'.trans missing⟩

/-- A part that is taken: its entries, its flag, and the SNAPQ for what is missing still, or the end of asking. -/
theorem State.snapArrive_of_taken {s : State} {p : Station} {i : Part} (h : s.takesSnap p i = true) (es : List SnapEntry) :
    let u := s.snapEntries i es
    let m := s.copy.missing &&& ~~~(1#16 <<< i.val)
    s.snapArrive p i es = if m = 0 then (u.setCopyUnit { u.copy with missing := 0, snapq := none }).withdraw .snapq
      else (u.setCopyUnit { u.copy with missing := m, snapq := some 0 }).makeDue (.snapq m) s.member.registrar := by
  intro u m
  obtain ⟨member, missing⟩ : u.member = s.member ∧ u.copy.missing = s.copy.missing := s.snapEntries_keeps i es
  have taken : s.snapArrive p i es = if u.copy.missing &&& ~~~(1#16 <<< i.val) = 0
      then (u.setCopyUnit { u.copy with missing := u.copy.missing &&& ~~~(1#16 <<< i.val) }).endSnapq
      else (u.setCopyUnit { u.copy with missing := u.copy.missing &&& ~~~(1#16 <<< i.val) }).sendSnapq := if_pos h
  rw [taken, missing, ← member]
  rfl

/-- Settles O56: a part by R106's test, and one that is taken by whether it is the last. -/
theorem snapIsTaken : Obligations.SnapIsTaken := by
  refine ⟨?_, ?_⟩
  · intro l p q i es s f h catchup flagged usable u m
    have taken : (s.carried l p).takesSnap p i = true := by
      obtain ⟨sender, other⟩ := State.sender_of_hears h
      rw [State.takesSnap_iff, State.usable_iff]
      simp only [State.member_state_carried, State.copy_carried, State.own_carried, State.peerState_carried]
      exact ⟨catchup, flagged, sender, other, usable⟩
    have row : exec (.snapReceived (cleanFrame l f)) s = .next (if m = 0
        then (u.setCopyUnit { u.copy with missing := 0, snapq := none }).withdraw .snapq
        else (u.setCopyUnit { u.copy with missing := m, snapq := some 0 }).makeDue (.snapq m)
          s.member.registrar).settleEvent := by
      have member : (s.peer p).state ≠ .excluded := by
        obtain live | leaving := usable
        · simp [live]
        · simp [leaving]
      have judged := State.snapArrive_of_taken taken es
      rw [State.copy_carried, State.registrar_carried] at judged
      refine (exec_unsequenced (k := .snap) h rfl (by decide)).trans ?_
      rw [if_neg member]
      exact congrArg (fun u : State => Host.Outcome.next u.settleEvent) judged
    refine ⟨?_, ?_⟩
    · intro more t still
      rw [row, if_neg more]
      exact congrArg Host.Outcome.next (State.settleEvent_of_still still)
    · intro last t still
      rw [row, if_pos last]
      exact congrArg Host.Outcome.next (State.settleEvent_of_still still)
  · intro l p q i es s f h why
    have left : (s.carried l p).takesSnap p i ≠ true := by
      rw [ne_eq, State.takesSnap_iff, State.usable_iff]
      simp only [State.member_state_carried, State.copy_carried, State.peerState_carried]
      rintro ⟨catchup, flagged, -, -, usable⟩
      obtain state | part | ⟨notLive, notLeaving⟩ := why
      · exact state catchup
      · exact Bool.false_ne_true (part.symm.trans flagged)
      · exact usable.elim notLive notLeaving
    have dropped : (s.carried l p).unsequenced f = s.carried l p := if_neg left
    refine (exec_unsequenced (k := .snap) h rfl (by decide)).trans ?_
    rw [dropped, ite_self]

end Sys2Proof.Machine
end

section
/-! The settle job: its start, its QUERYs, its decision by Table 7-3, and its SETTLEs; the timers that only set or clear a mark (R119, R120, R124 to R127, R129, R133, R155). -/

namespace Sys2Proof.Machine

/-! ## Timers that set or clear a mark (R129, R133) -/

theorem reached_of_le {limit n : Nat} (h : limit ≤ n) : reached (some n) limit = true := decide_eq_true h

theorem State.deferenceExpires_of_limit {s : State} {n : Nat} (ht : s.settle.deference = some n) (hn : 4096 ≤ n) :
    s.deferenceExpires = s.setSettle { s.settle with deference := none } :=
  if_pos (ht ▸ reached_of_le hn)

theorem State.digestExpires_of_limit {s : State} {n : Nat} (ht : s.audit.timer = some n) (hn : 512 ≤ n) :
    s.digestExpires = s.setAudit { s.audit with timer := none, due := true } :=
  if_pos (ht ▸ reached_of_le hn)

/-- Settles O42: each row by what its timer sets at the limit; the heartbeat's sets nothing. -/
theorem plainTimers : Obligations.PlainTimers := by
  intro n s reset
  refine ⟨?_, ?_, ?_⟩
  · intro timer limit t still
    have ended : s.tickStamp.deferenceExpires = t := State.deferenceExpires_of_limit (s := s.tickStamp) timer limit
    show Host.Outcome.next (s.event State.deferenceExpires) = _
    rw [State.event_of_resetHigh reset, ended, State.settleEvent_of_still still]
  · intro timer limit t still
    have due : s.tickStamp.digestExpires = t := State.digestExpires_of_limit (s := s.tickStamp) timer limit
    show Host.Outcome.next (s.event State.digestExpires) = _
    rw [State.event_of_resetHigh reset, due, State.settleEvent_of_still still]
  · intro _ _ still
    exact congrArg Host.Outcome.next (State.event_of_still (f := id) reset still)

/-! ## The start of a job and its QUERYs (R119, R120, R124) -/

/-- With no station to ask, the job decides at once (R119). -/
theorem State.startJob_nobody {s : State}
    (h : ∀ p : Station, p ≠ 0 → (s.peer p).state ≠ .live ∧ (s.peer p).state ≠ .leaving) :
    s.startJob = (s.setSettle { s.settle with
      job := .querying, round := s.settle.round + 1, orphans := s.orphans, answerers := [], queries := 1
      queryTimer := none, table := s.orphans.map SettleRecord.empty, announce := [], announced := 0 }).decideJob := by
  have nil : s.jobAsked = [] := by
    refine List.filter_eq_nil_iff.mpr (fun p hp => ?_)
    obtain ⟨live, leaving⟩ := h p (mem_stations.mp hp)
    simp [live, leaving]
  rw [State.startJob_alone nil, State.roundBegun, nil, List.map_nil]

theorem exec_settleJobStart {s : State} (reset : s.resetLow = false) (wanted : s.jobWanted = true) :
    exec .settleJobStart s = .next s.tickStamp.startJob.settleEvent := by
  have starts : s.tickStamp.startIfWanted = s.tickStamp.startJob := if_pos wanted
  show Host.Outcome.next (s.event State.startIfWanted) = _
  rw [State.event_of_resetHigh reset, starts]

theorem exec_queryTimeout {s : State} (reset : s.resetLow = false) :
    exec .queryTimeout s = .next s.tickStamp.queryExpires.settleEvent :=
  congrArg Host.Outcome.next (State.event_of_resetHigh reset _)

/-- The query limit, with the job still QUERYING once the silent answerers are excluded. -/
theorem State.queryLimit_decides {s : State}
    (still : (s.decideExcludes ((s.settle.answerers.filter (fun a => !a.answered)).map Answerer.station) .settle
      false).settle.job = .querying) :
    let u := s.decideExcludes ((s.settle.answerers.filter (fun a => !a.answered)).map Answerer.station) .settle false
    s.queryLimit
      = (u.setSettle { u.settle with answerers := u.settle.answerers.filter Answerer.answered }).decideJob :=
  if_pos still

section
variable {s : State} {n : Nat} (querying : s.settle.job = .querying) (timer : s.settle.queryTimer = some n)
  (limit : 1024 ≤ n)
include querying timer limit

theorem State.queryExpires_again (few : s.settle.queries < 3) : s.queryExpires
    = (s.setSettle { s.settle with queries := s.settle.queries + 1, queryTimer := some 0 }).makeDue
        (.query s.settle.round (bitmapOf (fun b => decide (b ∈ s.settle.orphans)))) 0 :=
  (if_pos ⟨querying, timer ▸ reached_of_le limit⟩).trans (if_pos few)

theorem State.queryExpires_limit (all : 3 ≤ s.settle.queries) : s.queryExpires = s.queryLimit :=
  (if_pos ⟨querying, timer ▸ reached_of_le limit⟩).trans (if_neg (Nat.not_lt.mpr all))

end

/-! ## The decision (R125, Table 7-3) -/

/-- The settle table with the registrar's own values folded in (R125). -/
def State.jobTable (s : State) : List SettleRecord :=
  s.settle.orphans.foldl (fun table b => foldEntry s.own table (s.ownAnswer b)) s.settle.table

/-- The records of the blocks that are orphans still at the decision (R125). -/
def State.unsettled (s : State) : List SettleRecord := s.jobTable.filter (fun r => s.orphan r.block)

/-- The AUDIT_MISMATCH for a record with two or more LIVE flaggers (R125). -/
def State.flaggerOffer (s : State) (r : SettleRecord) : Option (IncidentUnit × Offer) :=
  match s.liveFlaggers r with
  | _ :: p :: rest => some (.settle, { cls := .auditMismatch, peer := some p, block := some r.block
                                       detail := BitVec.ofNat 16 (rest.length + 2) })
  | _ => none

/-- The flaggers' incidents change nothing but what is offered. -/
theorem State.offerFlaggers_eq (s : State) (rs : List SettleRecord) : s.offerFlaggers rs
    = s.setLog { s.log with offered := s.log.offered ++ rs.filterMap s.flaggerOffer } := by
  unfold State.offerFlaggers
  generalize hf : s.flaggerOffer = f
  induction rs generalizing s with
  | nil => simp [State.setLog]
  | cons r rs ih =>
    have one : f r = s.flaggerOffer r := by rw [hf]
    rw [List.foldl_cons]
    split
    · next p rest flaggers =>
      have offers : s.flaggerOffer r = some (.settle, { cls := .auditMismatch, peer := some p, block := some r.block
                                                        detail := BitVec.ofNat 16 (rest.length + 2) }) := by
        rw [State.flaggerOffer, flaggers]
      rw [ih (s.offerBy _ _) hf, List.filterMap_cons_some (one.trans offers)]
      simp [State.offerBy, State.setLog]
    · next few =>
      have silent : s.flaggerOffer r = none := by
        unfold State.flaggerOffer
        split
        · next p rest flaggers => exact absurd flaggers (few _ p rest)
        · rfl
      rw [ih s hf, List.filterMap_cons_none (one.trans silent)]

theorem State.decideJob_over {s : State} (h : s.unsettled = []) : s.decideJob = s.clearJob := if_pos h

theorem State.decideJob_announces {s : State} (h : s.unsettled ≠ []) : s.decideJob
    = ((s.setLog { s.log with offered := s.log.offered ++ s.unsettled.filterMap s.flaggerOffer }).setSettle { s.settle with
        job := .announcing, queryTimer := none, table := s.jobTable, announce := s.unsettled.map s.settlement
        announced := 0 }).withdraw .query := by
  rw [← State.offerFlaggers_eq]
  have announces : s.decideJob = ((s.offerFlaggers s.unsettled).setSettle { (s.offerFlaggers s.unsettled).settle with
      job := .announcing, queryTimer := none, table := s.jobTable
      announce := s.unsettled.map (s.offerFlaggers s.unsettled).settlement, announced := 0 }).withdraw .query := if_neg h
  rw [announces, State.offerFlaggers_eq]
  rfl

/-- Only a QUERY asks for what a QUERY does (R120). -/
theorem key_eq_query_iff {p : Payload} : Payload.key p = .query ↔ p.kind = .query := by
  cases p <;> simp [Payload.key, Payload.kind]

/-- Table 7-3: the lowest LIVE flagger gets the block, or this station; the donor is the current holder, or the holder. -/
theorem State.settlement_eq (s : State) (r : SettleRecord) : s.settlement r =
    { block := r.block
      owner := (stations.find? (fun p => r.flaggers.contains p && (s.peer p).state = .live)).getD s.member.own
      epoch := r.epoch.getD 0 + 1
      version := r.version.getD 0
      donor := (r.currentHolder.orElse (fun _ => r.holder)).getD s.member.own } := by
  rw [State.settlement, State.liveFlaggers, List.headD_eq_head?_getD, List.head?_filter]
  rfl

/-- Settles O40: the start by whether a station is asked, the timer by the count of QUERYs, the decision by what is left. -/
theorem settleJobAsks : Obligations.SettleJobAsks := by
  refine ⟨?_, ?_, ?_, ?_, ?_, ?_⟩
  · intro s reset wanted asked someone t
    have started : s.tickStamp.startJob = t := State.startJob_asks (s := s.tickStamp) someone
    have row : exec .settleJobStart s = .next t.settleEvent := started ▸ exec_settleJobStart reset wanted
    exact ⟨row, fun still => row.trans (congrArg Host.Outcome.next (State.settleEvent_of_still still))⟩
  · intro s reset wanted nobody
    have decides := State.startJob_nobody (s := s.tickStamp) nobody
    rw [exec_settleJobStart reset wanted, decides]
    rfl
  · intro n s reset querying timer limit few t still
    have again : s.tickStamp.queryExpires = t := State.queryExpires_again (s := s.tickStamp) querying timer limit few
    rw [exec_queryTimeout reset, again, State.settleEvent_of_still still]
  · intro n s reset querying timer limit all silent u still
    have decides :=
      (State.queryExpires_limit (s := s.tickStamp) querying timer limit all).trans
        (State.queryLimit_decides (s := s.tickStamp) still)
    rw [exec_queryTimeout reset, decides]
    rfl
  · intro s table still
    refine ⟨State.decideJob_over (s := s), fun some => ?_⟩
    rw [State.decideJob_announces (s := s) some]
    refine ⟨rfl, List.filter_congr fun r _ => ?_, congrArg (s.log.offered ++ ·) ?_⟩
    · exact decide_eq_decide.mpr key_eq_query_iff.not
    · rfl
  · intro r s
    rw [State.settlement_eq]
    cases r.currentHolder <;> cases r.holder <;> rfl

/-! ## The SETTLEs (R126, R127) -/

/-! ### What an entry of a SETTLE leaves of the job -/

@[simp] theorem State.settle_discardBatch (s : State) (b : Block) : (s.discardBatch b).settle = s.settle := by
  unfold State.discardBatch
  split
  · rfl
  · split <;> rfl

@[simp] theorem State.settle_sendClaim (s : State) (b : Block) : (s.sendClaim b).settle = s.settle := by
  unfold State.sendClaim
  split
  · rfl
  · simp only []
    split <;> rfl

@[simp] theorem State.settle_grantSlot (s : State) : s.grantSlot.settle = s.settle := by
  obtain h | ⟨b, _, _, h⟩ := s.grantSlot_cases
  · rw [h]
  · rw [h, State.openClaim, State.settle_sendClaim, State.settle_setClaim]

@[simp] theorem State.settle_makeStale (s : State) (b : Block) : (s.makeStale b).settle = s.settle := by
  simp only [State.makeStale]
  split <;> rfl

@[simp] theorem State.settle_takeOwner (s : State) (b : Block) (p n : Station) (e : Epoch) (donor : Option Station) :
    (s.takeOwner b p n e donor).settle = s.settle := by
  by_cases h : s.owned b = true
  · rw [State.takeOwner_of_owned h]
    exact State.settle_discardBatch _ b
  · rw [State.takeOwner_of_not_owned (by simpa using h)]
    split <;> rfl

@[simp] theorem State.settle_copyNotGained (s : State) (b : Block) (p : Station) (v : Version) :
    (s.copyNotGained b p v).settle = s.settle := by
  unfold State.copyNotGained
  split
  · exact s.settle_makeStale b
  · rfl
  · split
    · exact s.settle_makeStale b
    · rfl
  · split
    · exact s.settle_makeStale b
    · rfl
    · rfl

@[simp] theorem State.settle_copyGained (s : State) (b : Block) (p : Station) (v : Version) :
    (s.copyGained b p v).settle = s.settle := by
  unfold State.copyGained
  split
  · split
    · rfl
    · split
      · rfl
      · rw [State.settle_discardBatch, State.settle_makeStale]
  all_goals exact s.settle_makeStale b

@[simp] theorem State.settle_dropDonorIfCurrent (s : State) (b : Block) :
    (s.dropDonorIfCurrent b).settle = s.settle := by
  unfold State.dropDonorIfCurrent
  split <;> rfl

/-- An entry that moves a block's ownership leaves the job as it stands. -/
@[simp] theorem State.settle_ownershipEntry (s : State) (p : Station) (b : Block) (n : Station) (e : Epoch) (v : Version)
    (donor : Option Station) : (s.ownershipEntry p b n e v donor).settle = s.settle := by
  unfold State.ownershipEntry
  split
  · rfl
  · split
    · split
      · simp only [State.settle_grantSlot, State.settle_dropDonorIfCurrent, State.settle_copyGained]
        rfl
      · rfl
    · simp

@[simp] theorem State.settle_settleEntry (s : State) (p : Station) (t : SettleEntry) :
    (s.settleEntry p t).settle = s.settle := s.settle_ownershipEntry p t.block t.owner t.epoch t.version _

theorem State.own_settleEntry (s : State) (p : Station) (t : SettleEntry) : (s.settleEntry p t).own = s.own :=
  State.own_of_setting (s.setting_settleEntry p t)

/-- The entries of a SETTLE, each applied with this station as the receiver (R127). -/
theorem State.foldl_settleEntry_settle (p : Station) (es : List SettleEntry) (s : State) :
    (es.foldl (fun u t => u.settleEntry p t) s).settle = s.settle := by
  induction es generalizing s with
  | nil => rfl
  | cons t es ih => rw [List.foldl_cons, ih, State.settle_settleEntry]

theorem State.foldl_settleEntry_own (es : List SettleEntry) (s : State) :
    es.foldl (fun u t => u.settleEntry u.own t) s = es.foldl (fun u t => u.settleEntry s.own t) s := by
  induction es generalizing s with
  | nil => rw [List.foldl_nil, List.foldl_nil]
  | cons t es ih =>
    have own := s.own_settleEntry s.own t
    have rest := ih (s.settleEntry s.own t)
    rw [own] at rest
    rw [List.foldl_cons, List.foldl_cons, rest]

/-! ### The next SETTLE -/

/-- The SETTLE of the entries at the head of the announce list is enqueued, and they leave the list (R126). -/
def State.announced (s : State) : State :=
  (s.enqueue (.settle s.settle.round (s.settle.announce.take 16))).setSettle { s.settle with
    announce := s.settle.announce.drop 16
    announced := s.settle.announced + (s.settle.announce.take 16).length }

/-- The SETTLE is enqueued, and its entries are applied here (R127). -/
def State.announcedHere (s : State) : State :=
  (s.settle.announce.take 16).foldl (fun u t => u.settleEntry s.member.own t) s.announced

theorem State.settle_announcedHere (s : State) : s.announcedHere.settle = s.announced.settle :=
  State.foldl_settleEntry_settle _ _ _

theorem State.announceNext_eq (s : State) : s.announceNext = if s.settle.announce.drop 16 = []
    then s.announcedHere.clearJob.offer { cls := .settled, detail := BitVec.ofNat 16 s.announced.settle.announced }
    else s.announcedHere := by
  have applied : (s.settle.announce.take 16).foldl (fun u t => u.settleEntry u.own t) s.announced = s.announcedHere :=
    State.foldl_settleEntry_own _ _
  have next : s.announceNext = if s.announcedHere.settle.announce = []
      then s.announcedHere.clearJob.offer { cls := .settled, detail := BitVec.ofNat 16 s.announcedHere.settle.announced }
      else s.announcedHere := by
    rw [← applied]
    rfl
  rw [next, State.settle_announcedHere]
  rfl

theorem exec_settleEnqueue {s : State} (reset : s.resetLow = false) (announcing : s.settle.job = .announcing)
    (waits : s.settle.announce ≠ []) (free : s.freeEntry = true) :
    exec .settleEnqueue s = .next s.tickStamp.announceNext.settleEvent := by
  have asked : (s.settleWaits && s.freeEntry) = true := by simp [State.settleWaits, announcing, waits, free]
  have enqueues : s.tickStamp.settleIfFree = s.tickStamp.announceNext := if_pos asked
  show Host.Outcome.next (s.event State.settleIfFree) = _
  rw [State.event_of_resetHigh reset, enqueues]

/-- Settles O41: the next SETTLE holds the whole announce list, or its first 16 entries. -/
theorem settleIsEnqueued : Obligations.SettleIsEnqueued := by
  refine ⟨?_, ?_⟩
  · intro s reset announcing waits free few u v t
    have head : s.settle.announce.take 16 = s.settle.announce := List.take_of_length_le few
    have rest : s.settle.announce.drop 16 = [] := List.drop_eq_nil_of_le few
    have enqueued : s.tickStamp.announced = u := by
      rw [State.announced, State.settle_tickStamp, head, rest]
    have applied : s.tickStamp.announcedHere = v := by
      rw [State.announcedHere, enqueued, State.settle_tickStamp, head]
      rfl
    have ended : s.tickStamp.announceNext = t := by
      rw [State.announceNext_eq, State.settle_tickStamp, if_pos rest, applied, enqueued]
      rfl
    have row : exec .settleEnqueue s = .next t.settleEvent := ended ▸ exec_settleEnqueue reset announcing waits free
    exact ⟨row, fun still => row.trans (congrArg Host.Outcome.next (State.settleEvent_of_still still))⟩
  · intro s reset announcing free many head u t
    have waits : s.settle.announce ≠ [] := List.ne_nil_of_length_pos (Nat.zero_lt_of_lt many)
    have rest : s.settle.announce.drop 16 ≠ [] := fun nil => Nat.not_le.mpr many (List.drop_eq_nil_iff.mp nil)
    have enqueued : s.tickStamp.announced = u := by
      rw [State.announced, State.settle_tickStamp, List.length_take_of_le many.le]
    have applied : s.tickStamp.announcedHere = t := by
      rw [State.announcedHere, enqueued]
      rfl
    have more : s.tickStamp.announceNext = t := by
      rw [State.announceNext_eq, State.settle_tickStamp, if_neg rest, applied]
    have kept : t.settle = u.settle := State.foldl_settleEntry_settle _ _ _
    refine ⟨more ▸ exec_settleEnqueue reset announcing waits free, kept, ?_⟩
    have remain : u.settle.job = .announcing ∧ u.settle.announce ≠ [] := ⟨announcing, rest⟩
    simp [State.settleWaits, kept, remain]

end Sys2Proof.Machine
end

section
/-! QUERY and VERSIONS: deference to a lower-numbered member, Table 7-2, and the answers a job takes and folds (R121, R123, R125, R129). -/

namespace Sys2Proof.Machine

/-! ## The reply record and the answer queue (R121, Table 7-2) -/

theorem head?_bitmapBlocks (bm : List Byte) : (bitmapBlocks bm).head? = (List.finRange 256).find? (bitmapHas bm) :=
  List.head?_filter

theorem bitmapBlocks_eq_nil_iff {bm : List Byte} : bitmapBlocks bm = [] ↔ ∀ b, bitmapHas bm b = false := by
  simp [bitmapBlocks, List.filter_eq_nil_iff]

/-- A reply record from its beginning (R121). -/
def Reply.fresh (p : Station) (r : Round) (bm : List Byte) : Reply :=
  { requester := p, round := r, bitmap := bm, next := (List.finRange 256).find? (bitmapHas bm), finished := false }

/-- The reply record is of the round asked by this station (Table 7-2). -/
def State.replies (s : State) (p : Station) (r : Round) : Prop :=
  ∃ x, s.settle.reply = some x ∧ x.requester = p ∧ x.round = r

/-- A VERSIONS entry stands in the answer queue (Table 7-2). -/
def State.versionsStand (s : State) : Prop := ∃ a ∈ s.copy.answers, ∃ y n, a = .versions y n

theorem State.replies_iff {s : State} {p : Station} {r : Round} :
    s.settle.reply.any (fun x => x.requester = p && x.round = r) = true ↔ s.replies p r := by
  cases reply : s.settle.reply <;> simp [State.replies, reply]

theorem State.versionsStand_iff {s : State} : s.copy.answers.any Answer.isVersions = true ↔ s.versionsStand := by
  have entry : ∀ a : Answer, a.isVersions = true ↔ ∃ y n, a = .versions y n := fun a => by
    cases a <;> simp [Answer.isVersions]
  simp only [List.any_eq_true, entry, State.versionsStand]

section
variable {s : State} {p : Station} {r : Round} (bm : List Byte)

theorem State.replyToQuery_ignored (own : s.replies p r) (stands : s.versionsStand) : s.replyToQuery p r bm = s := by
  rw [← State.replies_iff] at own
  rw [← State.versionsStand_iff] at stands
  simp only [State.replyToQuery, own, stands, if_true]

theorem State.replyToQuery_replaced (other : ¬ s.replies p r) (stands : s.versionsStand) : s.replyToQuery p r bm
    = (s.setSettle { s.settle with reply := some (.fresh p r bm) }).setCopyUnit { s.copy with
        answers := s.copy.answers.map (fun a => if a.isVersions then .versions p r else a) } := by
  rw [← State.replies_iff, Bool.not_eq_true] at other
  rw [← State.versionsStand_iff] at stands
  simp only [State.replyToQuery, other, stands, if_true, Bool.false_eq_true, if_false, head?_bitmapBlocks]
  rfl

theorem State.replyToQuery_dropped (stands : ¬ s.versionsStand) (full : 4 ≤ s.copy.answers.length) :
    s.replyToQuery p r bm = s := by
  rw [← State.versionsStand_iff, Bool.not_eq_true] at stands
  have noPlace : ¬ s.copy.answers.length < Config.answerPlaces := Nat.not_lt.mpr full
  simp only [State.replyToQuery, stands, Bool.false_eq_true, if_false, noPlace]

theorem State.replyToQuery_restarted {x : Reply} (reply : s.settle.reply = some x) (requester : x.requester = p)
    (round : x.round = r) (stands : ¬ s.versionsStand) (room : s.copy.answers.length < 4) : s.replyToQuery p r bm
    = (s.setSettle { s.settle with reply := some { x with
        next := (List.finRange 256).find? (bitmapHas x.bitmap), finished := false } }).setCopyUnit
          { s.copy with answers := s.copy.answers ++ [.versions p r] } := by
  have own := State.replies_iff.mpr ⟨x, reply, requester, round⟩
  rw [reply] at own
  rw [← State.versionsStand_iff, Bool.not_eq_true] at stands
  have place : s.copy.answers.length < Config.answerPlaces := room
  simp only [State.replyToQuery, reply, own, stands, Bool.false_eq_true, if_false, if_pos place, head?_bitmapBlocks]

theorem State.replyToQuery_queued (other : ¬ s.replies p r) (stands : ¬ s.versionsStand)
    (room : s.copy.answers.length < 4) : s.replyToQuery p r bm
    = (s.setSettle { s.settle with reply := some (.fresh p r bm) }).setCopyUnit
        { s.copy with answers := s.copy.answers ++ [.versions p r] } := by
  rw [← State.replies_iff, Bool.not_eq_true] at other
  rw [← State.versionsStand_iff, Bool.not_eq_true] at stands
  have place : s.copy.answers.length < Config.answerPlaces := room
  simp only [State.replyToQuery, other, stands, Bool.false_eq_true, if_false, if_pos place, head?_bitmapBlocks]
  rfl

end

/-! ## The row of a QUERY (R121, R129) -/

theorem State.fullSender_iff {s : State} :
    s.fullSender = true ↔ s.member.state = .live ∨ s.member.state = .leaving := by
  rw [State.fullSender, Bool.or_eq_true, decide_eq_true_iff, decide_eq_true_iff]
  rfl

/-- The station in the event of a QUERY from member p, its deference done (R129). -/
def State.deferredTo (s : State) (p : Station) : State := if p.val < s.own.val then s.defer else s

/-- A member's QUERY is answered by a LIVE or LEAVING station where it asks for a block (R121). -/
theorem State.queryArrive_answered {s : State} {p : Station} (member : s.isMember p = true)
    (full : s.member.state = .live ∨ s.member.state = .leaving) (r : Round) {bm : List Byte}
    (asks : ∃ b, bitmapHas bm b = true) : s.queryArrive p r bm = (s.deferredTo p).replyToQuery p r bm := by
  have flagged : bitmapBlocks bm ≠ [] := fun none => by
    obtain ⟨b, flag⟩ := asks
    exact Bool.false_ne_true ((bitmapBlocks_eq_nil_iff.mp none b).symm.trans flag)
  simp [State.queryArrive, State.deferredTo, member, State.fullSender_iff.mpr full, flagged]

theorem State.queryArrive_ignored {s : State} {p : Station} (member : s.isMember p = true) (r : Round) {bm : List Byte}
    (h : s.member.state = .catchup ∨ ∀ b, bitmapHas bm b = false) : s.queryArrive p r bm = s.deferredTo p := by
  have dropped : (s.fullSender && !(bitmapBlocks bm).isEmpty) = false := by
    obtain catchup | none := h
    · have listens : s.fullSender = false := by simp [State.fullSender, State.state, catchup]
      rw [listens, Bool.false_and]
    · rw [bitmapBlocks_eq_nil_iff.mpr none]
      exact Bool.and_false _
  simp [State.queryArrive, State.deferredTo, member, dropped]

/-- Deference ends this station's job and starts the deference timer (R129). -/
theorem State.defer_eq (s : State) : s.defer
    = (s.setSettle { s.settle.ended with deference := some 0 }).withdraw .query := rfl

section
variable {l : LaneId} {p : Station} {q : SeqNo} {r : Round} {bm : List Byte} {s : State}

/-- The row of a QUERY heard from a member. -/
theorem exec_query (h : s.hearsFrame l ⟨p, 0, q, .query r bm⟩ = true) (member : (s.peer p).state.member = true) :
    exec (.queryReceived (cleanFrame l ⟨p, 0, q, .query r bm⟩)) s
      = .next ((s.carried l p).queryArrive p r bm).settleEvent := by
  have included : (s.peer p).state ≠ .excluded := fun out => by simp [out, PeerState.member] at member
  refine (exec_unsequenced (k := .query) h rfl (by decide)).trans ?_
  rw [if_neg included]
  rfl

theorem exec_query_answered (h : s.hearsFrame l ⟨p, 0, q, .query r bm⟩ = true)
    (member : (s.peer p).state.member = true) (full : s.member.state = .live ∨ s.member.state = .leaving)
    (asks : ∃ b, bitmapHas bm b = true) : exec (.queryReceived (cleanFrame l ⟨p, 0, q, .query r bm⟩)) s
      = .next (((s.carried l p).deferredTo p).replyToQuery p r bm).settleEvent := by
  have held : (s.carried l p).isMember p = true := (s.isMember_carried l p p).trans member
  rw [exec_query h member, State.queryArrive_answered held (by rwa [State.member_state_carried]) r asks]

theorem exec_query_ignored (h : s.hearsFrame l ⟨p, 0, q, .query r bm⟩ = true)
    (member : (s.peer p).state.member = true) (drops : s.member.state = .catchup ∨ ∀ b, bitmapHas bm b = false) :
    exec (.queryReceived (cleanFrame l ⟨p, 0, q, .query r bm⟩)) s
      = .next ((s.carried l p).deferredTo p).settleEvent := by
  have held : (s.carried l p).isMember p = true := (s.isMember_carried l p p).trans member
  rw [exec_query h member, State.queryArrive_ignored held r (by rwa [State.member_state_carried])]

theorem State.deferredTo_lower (lower : p.val < s.member.own.val) : (s.carried l p).deferredTo p
    = ((s.carried l p).setSettle { s.settle.ended with deference := some 0 }).withdraw .query := by
  rw [State.deferredTo, State.own_carried, if_pos (by exact lower), State.defer_eq, State.settle_carried]

theorem State.deferredTo_higher (higher : s.member.own.val < p.val) : (s.carried l p).deferredTo p = s.carried l p := by
  rw [State.deferredTo, State.own_carried, if_neg (by exact Nat.not_lt.mpr higher.le)]

end

/-! ## The frames a job takes (R123, R125) -/

theorem consecutive_iff {os bs : List Block} : consecutive os bs = true ↔ bs <+: os := by
  induction os generalizing bs with
  | nil => cases bs <;> simp [consecutive]
  | cons o os ih =>
    cases bs with
    | nil => simp [consecutive]
    | cons b bs =>
      rw [consecutive, Bool.and_eq_true, ih, decide_eq_true_iff, List.cons_prefix_cons, eq_comm]

theorem State.takesVersions_cons {s : State} {p : Station} {r : Round} {e : VersionsEntry} {es : List VersionsEntry} :
    s.takesVersions p r (e :: es) = true ↔ s.settle.job = .querying ∧ r = s.settle.round
      ∧ (∃ a, s.settle.answerers.find? (fun x => x.station = p) = some a ∧ a.answered = false
        ∧ (s.settle.orphans.head? = some e.block ∨ a.next = some e.block))
      ∧ ((e :: es).map VersionsEntry.block) <+: s.setFrom e.block := by
  cases found : s.settle.answerers.find? (fun x => x.station = p) with
  | none => simp [State.takesVersions, found]
  | some a => simp [State.takesVersions, found, consecutive_iff, and_assoc]

theorem State.takesVersions_carried (s : State) (l : LaneId) (p x : Station) (r : Round) (es : List VersionsEntry) :
    (s.carried l p).takesVersions x r es = s.takesVersions x r es := by
  simp only [State.takesVersions, State.setFrom, State.settle_carried]

theorem State.versionsArrive_of_taken {s : State} {p : Station} {r : Round} {es : List VersionsEntry}
    (h : s.takesVersions p r es = true) (last : Bool) : s.versionsArrive p r last es
      = if (s.foldVersions p last es).allAnswered then (s.foldVersions p last es).decideJob
        else s.foldVersions p last es := if_pos h

/-- The row of a VERSIONS frame heard from a station that is not EXCLUDED. -/
theorem exec_versions {l : LaneId} {p x : Station} {q : SeqNo} {r : Round} {last : Bool} {es : List VersionsEntry}
    {s : State} (h : s.hearsFrame l ⟨p, x, q, .versions r last es⟩ = true) (included : (s.peer p).state ≠ .excluded) :
    exec (.versionsReceived (cleanFrame l ⟨p, x, q, .versions r last es⟩)) s
      = .next ((s.carried l p).versionsArrive p r last es).settleEvent := by
  refine (exec_unsequenced (k := .versions) h rfl (by decide)).trans ?_
  rw [if_neg included]
  rfl

/-! ## Folding an entry (R123) -/

section
variable (r : SettleRecord) (p : Station) (e : VersionsEntry)

/-- The entry's version is later than the record's, or the record has none (R123). -/
def SettleRecord.betterBy : Prop := r.version = none ∨ ∃ x, r.version = some x ∧ later16 e.version x = true

theorem lowerOf_eq (h : Option Station) :
    lowerOf p h = some (match h with | none => p | some x => if p.val < x.val then p else x) := by
  cases h with
  | none => rfl
  | some x => exact (apply_ite some _ _ _).symm

variable {r p e}

theorem SettleRecord.fold_better (h : r.betterBy e) : (r.fold p e).version = some e.version
    ∧ (r.fold p e).holder = some p ∧ (r.fold p e).currentHolder = if e.current then some p else none := by
  obtain none | ⟨x, version, later⟩ := h
  · simp [SettleRecord.fold, none]
  · simp [SettleRecord.fold, version, later]

/-- Where the entry is no better, the newer version is the record's. -/
theorem SettleRecord.fold_not_better (h : ¬ r.betterBy e) : (r.fold p e).version = r.version
    ∧ (r.fold p e).holder = (if r.version = some e.version then lowerOf p r.holder else r.holder)
    ∧ (r.fold p e).currentHolder
      = if r.version = some e.version ∧ e.current = true then lowerOf p r.currentHolder else r.currentHolder := by
  cases version : r.version with
  | none => exact absurd (Or.inl version) h
  | some x =>
    have late : later16 e.version x = false := Bool.eq_false_iff.mpr fun later => h (.inr ⟨x, version, later⟩)
    simp [SettleRecord.fold, version, late]

theorem SettleRecord.not_better_of_equal (h : r.version = some e.version) : ¬ r.betterBy e := by
  simp [SettleRecord.betterBy, h, later16_irrefl]

theorem SettleRecord.fold_flaggers : (r.fold p e).flaggers
    = if e.owned then stations.filter (fun x => x = p || r.flaggers.contains x) else r.flaggers := rfl

end

/-- Settles O58: a QUERY by deference and Table 7-2, VERSIONS by whether all have answered, the fold by the version. -/
theorem queryAndVersions : Obligations.QueryAndVersions := by
  refine ⟨?_, ?_, ?_, ?_, ?_, ?_, ?_⟩
  · intro l p q r bm s f h full member higher asks stands room other t still
    have notOwn : ¬ (s.carried l p).replies p r := by
      rintro ⟨x, reply, requester, round⟩
      rw [State.settle_carried] at reply
      exact (other x reply).elim (· requester) (· round)
    have noneStands : ¬ (s.carried l p).versionsStand := by
      rw [← State.versionsStand_iff, State.copy_carried, stands]
      exact Bool.false_ne_true
    have queued := State.replyToQuery_queued bm notOwn noneStands (by rwa [State.copy_carried])
    rw [State.settle_carried, State.copy_carried] at queued
    rw [exec_query_answered h member full asks, State.deferredTo_higher higher, queued]
    exact congrArg Host.Outcome.next (State.settleEvent_of_still still)
  · intro l p q r last es s f h included takes t
    have folded : (s.carried l p).foldVersions p last es = t := by
      rw [State.foldVersions, State.settle_carried]
      simp only [State.setFrom, State.settle_carried]
      rfl
    have taken : (s.carried l p).takesVersions p r es = true := (s.takesVersions_carried l p p r es).trans takes
    have row : exec (.versionsReceived (cleanFrame l f)) s
        = .next (if t.allAnswered then t.decideJob else t).settleEvent := by
      rw [exec_versions h included, State.versionsArrive_of_taken taken, folded]
    refine ⟨fun missing still => ?_, fun all => ?_⟩
    · have waits : ¬ t.allAnswered = true := by
        obtain ⟨a, standing, silent⟩ := List.any_eq_true.mp missing
        rw [Bool.and_eq_true, decide_eq_true_iff, Bool.not_eq_true'] at silent
        obtain ⟨another, unanswered⟩ := silent
        intro all
        have answered := List.all_eq_true.mp all _ (List.mem_map_of_mem standing)
        rw [if_neg another, unanswered] at answered
        exact Bool.false_ne_true answered
      rw [row, if_neg waits, State.settleEvent_of_still still]
    · rw [row, if_pos (by exact all)]
  · intro l p q r bm s f h member lower u
    have deferred : (s.carried l p).deferredTo p = u := State.deferredTo_lower lower
    refine ⟨fun drops => ?_, fun full asks => ?_⟩
    · rw [exec_query_ignored h member drops, deferred]
    · rw [exec_query_answered h member full asks, deferred]
  · intro l p q r bm s f h member higher
    refine ⟨fun drops => ?_, fun full asks => ?_⟩
    · rw [exec_query_ignored h member drops, State.deferredTo_higher higher]
    · rw [exec_query_answered h member full asks, State.deferredTo_higher higher]
  · intro p r bm s own stands replaced queued
    refine ⟨State.replyToQuery_ignored bm, fun other standing => ?_, fun x reply requester round =>
      State.replyToQuery_restarted bm reply requester round, State.replyToQuery_queued bm, State.replyToQuery_dropped bm⟩
    rw [State.replyToQuery_replaced bm other standing]
    refine congrArg (fun as => replaced.setCopyUnit { s.copy with answers := as }) (List.map_congr_left fun a _ => ?_)
    cases a <;> rfl
  · intro p r e es s
    exact State.takesVersions_cons
  · intro r p e _ t better
    have flags : ∀ x, (x ∈ stations.filter (fun y => y = p || r.flaggers.contains y)) ↔ x ≠ 0
        ∧ (x = p ∨ x ∈ r.flaggers) := fun x => by simp [mem_stations]
    refine ⟨rfl, fun none => ?_, fun x epoch => ?_, SettleRecord.fold_better, fun worse => ?_, fun equal => ⟨?_, ?_⟩,
      fun worse unequal => ⟨?_, ?_⟩, fun owned x => ?_, fun unowned => ?_⟩
    · simp [t, SettleRecord.fold, none]
    · simp only [t, SettleRecord.fold, epoch]
      exact (apply_ite some _ _ _).symm
    · exact (SettleRecord.fold_not_better worse).1
    · obtain ⟨-, holder, -⟩ := SettleRecord.fold_not_better (p := p) (SettleRecord.not_better_of_equal equal)
      exact (holder.trans (if_pos equal)).trans (lowerOf_eq p r.holder)
    · obtain ⟨-, -, current⟩ := SettleRecord.fold_not_better (p := p) (SettleRecord.not_better_of_equal equal)
      exact current.trans (if_congr (and_iff_right equal) (lowerOf_eq p r.currentHolder) rfl)
    · obtain ⟨-, holder, -⟩ := SettleRecord.fold_not_better (p := p) worse
      rw [holder, if_neg unequal]
    · obtain ⟨-, -, current⟩ := SettleRecord.fold_not_better (p := p) worse
      rw [current, if_neg (fun both => unequal both.1)]
    · rw [← flags, SettleRecord.fold_flaggers, if_pos owned]
    · rw [SettleRecord.fold_flaggers, if_neg (by simp [unowned])]

end Sys2Proof.Machine
end

section
/-! DIGEST: the row of the frame, and its entries judged one after another (R89, R135, R165). -/

namespace Sys2Proof.Machine

/-- The row of a DIGEST heard from a station that is not EXCLUDED. -/
theorem exec_digest {l : LaneId} {p : Station} {q : SeqNo} {es : List DigestEntry} {s : State}
    (h : s.hearsFrame l ⟨p, 0, q, .digest es⟩ = true) (included : (s.peer p).state ≠ .excluded) :
    exec (.digestReceived (cleanFrame l ⟨p, 0, q, .digest es⟩)) s
      = .next ((s.carried l p).digestArrive p es).settleEvent := by
  refine (exec_unsequenced (k := .digest) h rfl (by decide)).trans ?_
  rw [if_neg included]
  rfl

/-- Settles O59: the row of a DIGEST is the fold of its entries, and nothing is left to do in the event after it. -/
theorem digestIsJudged : Obligations.DigestIsJudged := by
  intro l p q es s f h included t still
  have judged : (s.carried l p).digestArrive p es = t := rfl
  rw [exec_digest h included, judged, State.settleEvent_of_still still]

end Sys2Proof.Machine
end

section
/-! What a take leaves of every unit and of every lane, and so what an event's end does (R152, R155, R167). -/

namespace Sys2Proof.Machine

/-! ## Giving a frame to the lanes (R149, R152) -/

/-- A frame given changes the current frame, the done marks, and the controllers of the lanes that are UP. -/
theorem State.give_eq (s : State) (f : Frame) : s.give f = { s with
    select := { s.select with current := some f, doneA := !s.laneUp .A, doneB := !s.laneUp .B }
    laneA := if s.laneUp .A then s.laneA.give else s.laneA
    laneB := if s.laneUp .B then s.laneB.give else s.laneB } := by
  unfold State.give
  extract_lets _ current givenA
  have upA : current.laneUp .A = s.laneUp .A := rfl
  have upB : givenA.laneUp .B = s.laneUp .B := by
    simp only [givenA]
    split <;> rfl
  rw [upB]
  simp only [givenA, upA]
  split <;> split <;> rfl

theorem State.lane_give (s : State) (f : Frame) (l : LaneId) :
    (s.give f).lane l = if s.laneUp l then (s.lane l).give else s.lane l := by
  rw [State.give_eq]
  cases l <;> rfl

/-! ## What a take spares -/

/-- What Table 9-1 says of a lane's standing on its line: state, score, rest, good count and idle time. -/
def Lane.standing (l : Lane) : LaneState × Nat × Option Nat × Nat × Nat := (l.state, l.score, l.rest, l.good, l.idle)

theorem Lane.standing_iff {x y : Lane} : x.standing = y.standing ↔ x.state = y.state ∧ x.score = y.score
    ∧ x.rest = y.rest ∧ x.good = y.good ∧ x.idle = y.idle := by simp [Lane.standing]

/-- What no take changes, beside what `Taken` says: the Claim Unit, the local port, next seq and the frames of the replay
queue, every lane's standing, and all of the Membership, Copy and Settle Units but the urgent STATUS request, the answers
and the reply record. -/
structure Spared (s t : State) : Prop where
  claim : t.claim = s.claim
  port : t.port = s.port
  member : t.member = { s.member with urgentStatus := t.member.urgentStatus }
  next : t.seq.next = s.seq.next
  frames : t.seq.queue.map ReplayEntry.frame = s.seq.queue.map ReplayEntry.frame
  copy : t.copy = { s.copy with answers := t.copy.answers }
  settle : t.settle = { s.settle with reply := t.settle.reply }
  lanes : ∀ l, (t.lane l).standing = (s.lane l).standing

namespace Spared

theorem refl (s : State) : Spared s s := ⟨rfl, rfl, rfl, rfl, rfl, rfl, rfl, fun _ => rfl⟩

theorem trans {s t u : State} (h : Spared s t) (k : Spared t u) : Spared s u where
  claim := k.claim.trans h.claim
  port := k.port.trans h.port
  member := k.member.trans (congrArg (fun m => { m with urgentStatus := u.member.urgentStatus }) h.member)
  next := k.next.trans h.next
  frames := k.frames.trans h.frames
  copy := k.copy.trans (congrArg (fun c => { c with answers := u.copy.answers }) h.copy)
  settle := k.settle.trans (congrArg (fun x => { x with reply := u.settle.reply }) h.settle)
  lanes := fun l => (k.lanes l).trans (h.lanes l)

theorem release (s : State) : Spared s s.release := by
  unfold State.release
  split
  · exact ⟨rfl, rfl, rfl, rfl, rfl, rfl, rfl, fun l => by cases l <;> rfl⟩
  · exact .refl s

theorem give (s : State) (f : Frame) : Spared s (s.give f) where
  lanes := fun l => by
    rw [State.lane_give]
    split <;> rfl
  claim := by rw [State.give_eq]
  port := by rw [State.give_eq]
  member := by rw [State.give_eq]
  next := by rw [State.give_eq]
  frames := by rw [State.give_eq]
  copy := by rw [State.give_eq]
  settle := by rw [State.give_eq]

theorem takeStatus (s : State) (shown : MemberState) : Spared s (s.takeStatus shown).2 :=
  ⟨rfl, rfl, rfl, rfl, rfl, rfl, rfl, fun l => by cases l <;> rfl⟩

theorem takeReplay (s : State) (e : ReplayEntry) : Spared s (s.takeReplay e).2 :=
  ⟨rfl, rfl, rfl, rfl, frames_takeFromQueue _ _, rfl, rfl, fun l => by cases l <;> rfl⟩

theorem takeAnswer (s : State) (a : Answer) : Spared s (s.takeAnswer a).2 := by
  cases a with
  | copy q b => exact ⟨rfl, rfl, rfl, rfl, rfl, rfl, rfl, fun l => by cases l <;> rfl⟩
  | snap q i => exact ⟨rfl, rfl, rfl, rfl, rfl, rfl, rfl, fun l => by cases l <;> rfl⟩
  | versions q r =>
    simp only [State.takeAnswer, State.buildAnswer]
    split
    · exact ⟨rfl, rfl, rfl, rfl, rfl, rfl, rfl, fun l => by cases l <;> rfl⟩
    · split <;> exact ⟨rfl, rfl, rfl, rfl, rfl, rfl, rfl, fun l => by cases l <;> rfl⟩

theorem takeRequest (s : State) (r : Request) : Spared s (s.takeRequest r).2 :=
  ⟨rfl, rfl, rfl, rfl, rfl, rfl, rfl, fun l => by cases l <;> rfl⟩

theorem takeDigest (s : State) (bs : List Block) : Spared s (s.takeDigest bs).2 :=
  ⟨rfl, rfl, rfl, rfl, rfl, rfl, rfl, fun l => by cases l <;> rfl⟩

theorem nextTake {s : State} {p : Frame × State} (h : s.nextTake = some p) : Spared s p.2 := by
  obtain ⟨shown, rfl⟩ | ⟨e, rfl⟩ | ⟨a, rfl⟩ | ⟨r, rfl⟩ | ⟨bs, rfl⟩ := State.nextTake_cases h
  · exact takeStatus s shown
  · exact takeReplay s e
  · exact takeAnswer s a
  · exact takeRequest s r
  · exact takeDigest s bs

theorem pump (s : State) : Spared s s.pump := by
  simp only [State.pump]
  split
  · split
    · exact release s
    · next f t h => exact (release s).trans ((nextTake h).trans (give t f))
  · exact release s

end Spared

/-! ## The Incident Log at an event's end (R167) -/

theorem IncidentLog.offered_record (g : IncidentLog) (clock : Clock) (o : Offer) :
    (g.record clock o).offered = g.offered := by
  unfold IncidentLog.record
  split <;> rfl

theorem IncidentLog.offered_records (clock : Clock) (os : List Offer) (g : IncidentLog) :
    (os.foldl (fun g o => g.record clock o) g).offered = g.offered := by
  induction os generalizing g with
  | nil => rfl
  | cons o os ih => exact (ih _).trans (g.offered_record clock o)

theorem State.offered_recordOffers (s : State) : s.recordOffers.log.offered = [] :=
  IncidentLog.offered_records _ _ _

/-- Settles O16: an event's end is a take, which spares the units and the log, and the numbering of its incidents. -/
theorem closingKeeps : Obligations.ClosingKeeps := by
  intro s t
  have taken := Taken.pump s
  have spared := Spared.pump s
  refine ⟨s.setting_pump, s.window_pump, taken.dir, s.write_pump, spared.claim, spared.port, spared.member, spared.next,
    spared.frames, spared.copy, spared.settle, fun l => ?_, s.pump.offered_recordOffers, fun quiet => ?_, fun u o one => ?_⟩
  · have lane : t.lane l = s.pump.lane l := by cases l <;> rfl
    rw [lane]
    exact Lane.standing_iff.mp (spared.lanes l)
  · have silent : s.pump.log.offered = [] := by rw [taken.log, quiet]
    have numbered : t = s.pump := State.recordOffers_of_empty silent
    rw [numbered, taken.log]
  · have alone : s.pump.log.offered = [(u, o)] := by rw [taken.log, one]
    have numbered := State.log_recordOffers_of_one alone
    rw [taken.log, s.clock_pump] at numbered
    exact numbered

end Sys2Proof.Machine
end

section
/-! The take, class by class: an urgent STATUS, the replay queue, the answers, the requests, the heartbeat, the DIGEST (R152 to R154, Table 9-5). -/

namespace Sys2Proof.Machine

/-! ## The take that falls (R152) -/

theorem State.release_of_free {s : State} (free : s.select.current = none) : s.release = s := by
  have same : { s.select with current := none } = s.select := by rw [← free]
  rw [State.release, same]
  exact ite_id s

theorem State.pump_of_take {s t : State} {f : Frame} (free : s.select.current = none) (up : s.anyLaneUp = true)
    (take : s.nextTake = some (f, t)) : s.pump = t.give f := by
  simp only [State.pump, State.release_of_free free, free, up, take, Option.isNone_none, Bool.and_self, if_true]

theorem State.pump_of_noTake {s : State} (free : s.select.current = none) (nothing : s.nextTake = none) : s.pump = s := by
  simp only [State.pump, State.release_of_free free, nothing, ite_self]

section
variable (s : State) (f : Frame)

@[simp] theorem State.current_give : (s.give f).select.current = some f := by rw [State.give_eq]
@[simp] theorem State.requests_give : (s.give f).select.requests = s.select.requests := by rw [State.give_eq]
@[simp] theorem State.heartbeat_give : (s.give f).select.heartbeat = s.select.heartbeat := by rw [State.give_eq]
@[simp] theorem State.doneA_give : (s.give f).select.doneA = !s.laneUp .A := by rw [State.give_eq]
@[simp] theorem State.doneB_give : (s.give f).select.doneB = !s.laneUp .B := by rw [State.give_eq]
@[simp] theorem State.member_give : (s.give f).member = s.member := by rw [State.give_eq]
@[simp] theorem State.seq_give : (s.give f).seq = s.seq := by rw [State.give_eq]
@[simp] theorem State.copy_give : (s.give f).copy = s.copy := by rw [State.give_eq]
@[simp] theorem State.settle_give : (s.give f).settle = s.settle := by rw [State.give_eq]
@[simp] theorem State.audit_give : (s.give f).audit = s.audit := by rw [State.give_eq]

end

/-- Building a frame changes no lane. -/
theorem State.lane_nextTake {s : State} {p : Frame × State} (h : s.nextTake = some p) (l : LaneId) :
    p.2.lane l = s.lane l := by
  have answer : ∀ a, (s.takeAnswer a).2.lane l = s.lane l := by
    intro a
    cases a with
    | copy q b => cases l <;> rfl
    | snap q i => cases l <;> rfl
    | versions q r =>
      simp only [State.takeAnswer, State.buildAnswer]
      split
      · cases l <;> rfl
      · split <;> cases l <;> rfl
  obtain ⟨_, rfl⟩ | ⟨_, rfl⟩ | ⟨a, rfl⟩ | ⟨_, rfl⟩ | ⟨_, rfl⟩ := State.nextTake_cases h
  case inr.inr.inl => exact answer a
  all_goals cases l <;> rfl

/-! ## The order of the classes (Table 9-5, R154) -/

theorem State.statusUrgent_iff {s : State} :
    s.statusUrgent = true ↔ s.member.urgentStatus = true ∨ s.seq.urgent = true := by
  rw [State.statusUrgent, Bool.or_eq_true]

/-- No urgent STATUS goes first: none is available, or the station's state shows none. -/
def State.calm (s : State) : Prop := s.member.state.shown = none ∨ s.statusUrgent = false

theorem State.calm_of_not_urgent {s : State} (h : ¬ (s.member.urgentStatus = true ∨ s.seq.urgent = true)) : s.calm :=
  Or.inr (Bool.eq_false_iff.mpr fun urgent => h (State.statusUrgent_iff.mp urgent))

theorem State.nextTake_urgent {s : State} {shown : MemberState} (hs : s.member.state.shown = some shown)
    (hu : s.statusUrgent = true) : s.nextTake = some (s.takeStatus shown) := by
  simp only [State.nextTake, State.state, hs, hu]

theorem State.nextTake_calm {s : State} (h : s.calm) : s.nextTake = s.takeQueued.orElse (fun _ => s.takeOther) := by
  unfold State.nextTake
  obtain hidden | quiet := h
  · rw [State.state, hidden]
  · rw [quiet]
    cases s.state.shown <;> rfl

theorem State.nextTake_queued {s : State} (h : s.calm) {p : Frame × State} (hp : s.takeQueued = some p) :
    s.nextTake = some p := by
  rw [State.nextTake_calm h, hp]
  rfl

theorem State.nextTake_other {s : State} (h : s.calm) (hp : s.takeQueued = none) : s.nextTake = s.takeOther := by
  rw [State.nextTake_calm h, hp]
  rfl

/-! ## The replay queue (R64) -/

theorem State.replayable_marked {s : State} (h : ∃ e ∈ s.seq.queue, e.marked = true) :
    s.replayable = ReplayEntry.marked := if_pos (List.any_eq_true.mpr h)

theorem State.replayable_unsent {s : State} (h : ∀ e ∈ s.seq.queue, e.marked = false) :
    s.replayable = ReplayEntry.unsent :=
  if_neg (fun any => by
    obtain ⟨e, he, marked⟩ := List.any_eq_true.mp any
    exact Bool.false_ne_true ((h e he).symm.trans marked))

theorem State.nextReplay_none {s : State} (h : s.queueSent) : s.nextReplay = none := by
  rw [State.nextReplay, State.replayable_unsent fun e he => (h e he).2, List.find?_eq_none]
  intro e he
  simp [ReplayEntry.unsent, (h e he).1]

/-- The entry that goes next: the first marked one, or where none is marked the first unsent one. -/
theorem State.nextReplay_of_find {s : State} {e : ReplayEntry} (h : s.seq.queue.find? ReplayEntry.marked = some e
    ∨ (s.seq.queue.find? ReplayEntry.marked = none ∧ s.seq.queue.find? (fun e => !e.sent) = some e)) :
    s.nextReplay = some e := by
  obtain marked | ⟨unmarked, unsent⟩ := h
  · rw [State.nextReplay, State.replayable_marked ⟨e, List.mem_of_find?_eq_some marked, List.find?_some marked⟩, marked]
  · have clear : ∀ x ∈ s.seq.queue, x.marked = false := fun x hx =>
      Bool.eq_false_iff.mpr (List.find?_eq_none.mp unmarked x hx)
    rw [State.nextReplay, State.replayable_unsent clear]
    exact unsent

/-- Where entry e is the first of its kind, no entry before it may be sent. -/
theorem State.replayable_first {s : State} {pre rest : List ReplayEntry} {e : ReplayEntry}
    (hq : s.seq.queue = pre ++ e :: rest) (h : (e.marked = true ∧ ∀ y ∈ pre, y.marked = false)
      ∨ (e.sent = false ∧ (∀ y ∈ pre, y.sent = true) ∧ ∀ y ∈ s.seq.queue, y.marked = false)) :
    s.replayable e = true ∧ ∀ y ∈ pre, s.replayable y = false := by
  obtain ⟨marked, before⟩ | ⟨unsent, before, clear⟩ := h
  · rw [State.replayable_marked ⟨e, by simp [hq], marked⟩]
    exact ⟨marked, before⟩
  · rw [State.replayable_unsent clear]
    exact ⟨by simp [ReplayEntry.unsent, unsent], fun y hy => by simp [ReplayEntry.unsent, before y hy]⟩

theorem State.nextReplay_first {s : State} {pre rest : List ReplayEntry} {e : ReplayEntry}
    (hq : s.seq.queue = pre ++ e :: rest) (h : s.replayable e = true ∧ ∀ y ∈ pre, s.replayable y = false) :
    s.nextReplay = some e := by
  obtain ⟨may, before⟩ := h
  rw [State.nextReplay, hq, List.find?_eq_some_iff_append]
  exact ⟨may, pre, rest, rfl, fun y hy => by rw [before y hy]; rfl⟩

theorem takeFirst_append {f : ReplayEntry → Bool} {pre : List ReplayEntry} {e : ReplayEntry} (rest : List ReplayEntry)
    (he : f e = true) (hpre : ∀ y ∈ pre, f y = false) : takeFirst f (pre ++ e :: rest) = pre ++ e.take :: rest := by
  induction pre with
  | nil => simp [takeFirst, he]
  | cons y pre ih =>
    have hy : f y = false := hpre y List.mem_cons_self
    simp [takeFirst, hy, ih fun z hz => hpre z (List.mem_cons_of_mem _ hz)]

theorem State.takeQueued_replay {s : State} {e : ReplayEntry} (ha : s.active = true) (he : s.nextReplay = some e) :
    s.takeQueued = some (s.takeReplay e) := by
  simp only [State.takeQueued, ha, he, if_true]

/-- A take from the replay queue: the entry's frame is current, and the queue is without its mark. -/
theorem State.pump_replay {s : State} {e : ReplayEntry} (free : s.select.current = none) (up : s.anyLaneUp = true)
    (calm : s.calm) (ha : s.active = true) (he : s.nextReplay = some e) :
    s.pump.select.current = some e.frame ∧ s.pump.seq.queue = takeFromQueue s.replayable s.seq.queue := by
  rw [State.pump_of_take free up (State.nextTake_queued calm (State.takeQueued_replay ha he)), State.current_give,
    State.seq_give]
  exact ⟨rfl, rfl⟩

/-! ## Answers (R117, R122) -/

theorem State.takeQueued_answer {s : State} {a : Answer} (full : s.fullSender = true) (sent : s.queueSent)
    (ha : s.copy.answers.find? s.buildable = some a) : s.takeQueued = some (s.takeAnswer a) := by
  have active : s.active = true := State.active_of_state (State.fullSender_iff.mp full)
  simp only [State.takeQueued, active, full, State.nextReplay_none sent, ha, if_true, Option.map_some]

/-- A COPY of a block whose batch is not closed yet waits. -/
theorem State.buildable_waiting {s : State} {a : Answer} (h : ∃ q b, a = .copy q b ∧ s.batchFor b = true) :
    s.buildable a = false := by
  obtain ⟨q, b, rfl, batch⟩ := h
  rw [State.buildable, batch]
  rfl

/-- Classes 2 and 3 have nothing. -/
theorem State.takeQueued_none {s : State} (h : s.active = false ∨ (s.queueSent ∧ s.answersWait)) :
    s.takeQueued = none := by
  obtain idle | ⟨sent, wait⟩ := h
  · rw [State.takeQueued, idle]
    rfl
  · have nothing : s.copy.answers.find? s.buildable = none :=
      List.find?_eq_none.mpr fun a ha => by simp [State.buildable_waiting (wait a ha)]
    simp only [State.takeQueued, State.nextReplay_none sent, nothing, Option.map_none, ite_self]

/-- The first answer that can be built is taken from its place. -/
theorem State.pump_answer {s : State} {pre rest : List Answer} {a : Answer} (free : s.select.current = none)
    (up : s.anyLaneUp = true) (calm : s.calm) (full : s.fullSender = true) (sent : s.queueSent)
    (ha : s.copy.answers = pre ++ a :: rest) (wait : ∀ y ∈ pre, ∃ q b, y = .copy q b ∧ s.batchFor b = true)
    (can : s.buildable a = true) :
    let built := (s.setCopyUnit { s.copy with answers := pre ++ rest }).buildAnswer a
    s.pump = built.2.give built.1 := by
  have found : s.copy.answers.find? s.buildable = some a := by
    rw [ha, List.find?_eq_some_iff_append]
    exact ⟨can, pre, rest, rfl, fun y hy => by rw [State.buildable_waiting (wait y hy)]; rfl⟩
  have first : a ∉ pre := fun ha => Bool.false_ne_true ((State.buildable_waiting (wait a ha)).symm.trans can)
  have erased : s.copy.answers.erase a = pre ++ rest := by
    rw [ha, List.erase_append_right _ first, List.erase_cons_head]
  have taken := State.pump_of_take free up (State.nextTake_queued calm (State.takeQueued_answer full sent found))
  rw [erased] at taken
  exact taken

/-! ## Requests (R153, R154) -/

/-- The better of the best request so far and the next one. -/
def Request.better (best : Option Request) (r : Request) : Option Request :=
  match best with
  | none => some r
  | some q => if r.before q then some r else some q

theorem State.nextRequest_eq (s : State) : s.nextRequest
    = (s.select.requests.filter (fun r => s.member.state.permits r.payload)).foldl Request.better none := rfl

theorem Request.foldl_better_mem (rs : List Request) (q : Request) :
    ∃ x ∈ q :: rs, rs.foldl Request.better (some q) = some x := by
  induction rs generalizing q with
  | nil => exact ⟨q, List.mem_cons_self, rfl⟩
  | cons r rs ih =>
    obtain better | worse : Request.better (some q) r = some r ∨ Request.better (some q) r = some q := by
      simp only [Request.better]
      split
      · exact Or.inl rfl
      · exact Or.inr rfl
    · obtain ⟨x, hx, fold⟩ := ih r
      exact ⟨x, List.mem_cons_of_mem _ hx, by rw [List.foldl_cons, better, fold]⟩
    · obtain ⟨x, hx, fold⟩ := ih q
      refine ⟨x, ?_, by rw [List.foldl_cons, worse, fold]⟩
      obtain rfl | hx := List.mem_cons.mp hx
      · exact List.mem_cons_self
      · exact List.mem_cons_of_mem _ (List.mem_cons_of_mem _ hx)

theorem Request.foldl_better_kept {rs : List Request} {q : Request} (h : ∀ r ∈ rs, r.before q = false) :
    rs.foldl Request.better (some q) = some q := by
  induction rs with
  | nil => rfl
  | cons r rs ih =>
    have kept : Request.better (some q) r = some q := by simp [Request.better, h r List.mem_cons_self]
    rw [List.foldl_cons, kept, ih fun x hx => h x (List.mem_cons_of_mem _ hx)]

/-- A request that goes before those ahead of it, and that none behind it goes before, is the best. -/
theorem Request.foldl_better_first {pre rest : List Request} {r : Request} (hpre : ∀ y ∈ pre, r.before y = true)
    (hrest : ∀ y ∈ rest, y.before r = false) : (pre ++ r :: rest).foldl Request.better none = some r := by
  have wins : Request.better (pre.foldl Request.better none) r = some r := by
    cases pre with
    | nil => rfl
    | cons p pre =>
      obtain ⟨x, hx, fold⟩ := Request.foldl_better_mem pre p
      rw [List.foldl_cons, show Request.better none p = some p from rfl, fold]
      exact if_pos (hpre x hx)
  rw [List.foldl_append, List.foldl_cons, wins, Request.foldl_better_kept hrest]

theorem State.nextRequest_first {s : State} {pre rest : List Request} {r : Request}
    (hr : s.select.requests = pre ++ r :: rest) (permitted : s.member.state.permits r.payload = true)
    (hpre : ∀ y ∈ pre, s.member.state.permits y.payload = true → r.before y = true)
    (hrest : ∀ y ∈ rest, s.member.state.permits y.payload = true → y.before r = false) : s.nextRequest = some r := by
  have filtered : ∀ {xs : List Request} {P : Request → Prop}, (∀ y ∈ xs, s.member.state.permits y.payload = true → P y) →
      ∀ y ∈ xs.filter (fun r => s.member.state.permits r.payload), P y := fun h y hy =>
    h y (List.mem_of_mem_filter hy) (List.mem_filter.mp hy).2
  rw [State.nextRequest_eq, hr, List.filter_append,
    List.filter_cons_of_pos (p := fun y : Request => s.member.state.permits y.payload) permitted,
    Request.foldl_better_first (filtered hpre) (filtered hrest)]

theorem State.nextRequest_none {s : State} (h : s.select.requests = []) : s.nextRequest = none := by
  rw [State.nextRequest_eq, h]
  rfl

theorem Request.before_iff (r q : Request) : r.before q = true ↔ r.stamp < q.stamp ∨ (r.stamp = q.stamp
    ∧ (r.rank < q.rank ∨ (r.rank = q.rank ∧ r.block < q.block))) := by simp [Request.before]

/-- The kinds a station state permits (Table 9-6). -/
theorem StationState.permits_iff (st : StationState) (p : Payload) : st.permits p = true ↔ st = .live ∨ st = .leaving
    ∨ (st = .joining ∧ p.kind = .join) ∨ (st = .catchup ∧ (p.kind = .fetch ∨ p.kind = .snapq)) := by
  cases st with
  | joining => cases p <;> simp [StationState.permits, Payload.kind]
  | catchup => cases p <;> simp [StationState.permits, Payload.kind]
  | live => simp [StationState.permits]
  | leaving => simp [StationState.permits]
  | _ => simp [StationState.permits]

/-! ## Requests, the heartbeat, the DIGEST (R133, R134, R155) -/

theorem State.takeOther_request {s : State} {r : Request} (h : s.nextRequest = some r) :
    s.takeOther = some (s.takeRequest r) := by
  rw [State.takeOther, h]

theorem State.takeOther_heartbeat {s : State} {shown : MemberState} (nothing : s.nextRequest = none)
    (hs : s.member.state.shown = some shown) (due : s.heartbeatDue = true) :
    s.takeOther = some (s.takeStatus shown) := by
  simp only [State.takeOther, nothing, State.state, hs, due]

/-- A due DIGEST is taken where it has a block to cover. -/
theorem State.takeOther_digest {s : State} (nothing : s.nextRequest = none) (quiet : s.heartbeatDue = false)
    (due : s.audit.due = true) (full : s.fullSender = true) :
    s.takeOther = if s.digestBlocks = [] then none else some (s.takeDigest s.digestBlocks) := by
  simp only [State.takeOther, nothing, quiet, due, full, Bool.and_self, if_true]
  cases s.digestBlocks with
  | nil => cases s.state.shown <;> rfl
  | cons b bs => cases s.state.shown <;> rfl

theorem State.heartbeatDue_iff {s : State} : s.heartbeatDue = true ↔ ∃ n, s.select.heartbeat = some n ∧ 2048 ≤ n := by
  rw [State.heartbeatDue, Option.any_eq_true]
  exact exists_congr fun n => and_congr_right' decide_eq_true_iff

theorem State.digestible_iff (s : State) (b : Block) : s.digestible b = true ↔ s.owned b = true
    ∧ (s.entry b).copy = .current ∧ (s.entry b).yielding = false ∧ ∀ t, s.write.batch = some t → t.block ≠ b := by
  simp [State.digestible, State.isCurrent_iff, State.batchFor_eq_false, and_assoc]

/-! ## The states in which nothing is taken (R154) -/

/-- The states that may send nothing. -/
theorem State.nextTake_mute {s : State}
    (h : s.member.state ∈ [StationState.offline, .listening, .departed, .isolated, .halted]) : s.nextTake = none := by
  have mute : s.member.state.shown = none ∧ s.active = false ∧ s.fullSender = false
      ∧ ∀ p, s.member.state.permits p = false := by
    simp only [List.mem_cons, List.not_mem_nil, or_false] at h
    obtain h | h | h | h | h := h <;> simp [State.active, State.fullSender, State.state, h, StationState.shown,
      StationState.permits]
  obtain ⟨hidden, idle, notFull, forbidden⟩ := mute
  have noRequest : s.nextRequest = none := by
    rw [State.nextRequest_eq, List.filter_eq_nil_iff.mpr fun r _ => by simp [forbidden]]
    rfl
  have hidden' : s.state.shown = none := hidden
  rw [State.nextTake_other (Or.inl hidden) (State.takeQueued_none (Or.inl idle))]
  simp only [State.takeOther, noRequest, hidden', notFull, Bool.and_false, Bool.false_eq_true, if_false]

/-! ## The lanes of a taken frame (R149, R152) -/

theorem State.pump_lanes {s : State} (free : s.select.current = none) (up : s.anyLaneUp = true)
    (taken : s.pump.select.current ≠ none) : s.pump.select.doneA = !s.laneUp .A ∧ s.pump.select.doneB = !s.laneUp .B
      ∧ ∀ l, s.pump.lane l = if s.laneUp l then (s.lane l).give else s.lane l := by
  obtain nothing | ⟨⟨f, t⟩, take⟩ := Option.eq_none_or_eq_some s.nextTake
  · rw [State.pump_of_noTake free nothing] at taken
    exact absurd free taken
  · have lanes : ∀ l, t.lane l = s.lane l := State.lane_nextTake take
    have ups : ∀ l, t.laneUp l = s.laneUp l := fun l => by rw [State.laneUp, lanes, State.laneUp]
    rw [State.pump_of_take free up take, State.doneA_give, State.doneB_give, ups, ups]
    exact ⟨rfl, rfl, fun l => by rw [State.lane_give, lanes, ups]⟩

/-- Settles O17: each class by the lemma of its take, and the lanes by what is given to them. -/
theorem takeFollowsClasses : Obligations.TakeFollowsClasses := by
  refine ⟨?_, fun b s => s.digestible_iff b, ?_, Request.before_iff,
    fun b a m r bm p n => ⟨rfl, rfl, rfl, rfl, rfl, rfl, rfl⟩, StationState.permits_iff⟩
  · intro s free up urgent full
    have isFull : full → s.fullSender = true := State.fullSender_iff.mpr
    have calmly : ¬ urgent → s.calm := State.calm_of_not_urgent
    refine ⟨?_, ?_, ?_, ?_, ?_, ?_, ?_, ?_, ?_, ?_, ?_⟩
    · intro shown hs hu
      rw [State.pump_of_take free up (State.nextTake_urgent hs (State.statusUrgent_iff.mpr hu))]
      simp only [State.current_give, State.member_give, State.seq_give, State.heartbeat_give]
      exact ⟨rfl, rfl, rfl, rfl, rfl, rfl⟩
    · intro active hu e he
      exact (State.pump_replay free up (calmly hu) active (State.nextReplay_of_find he)).1
    · intro active hu e rest hq he
      have first := State.replayable_first (pre := []) hq (he.imp (fun marked => ⟨marked, by simp⟩)
        (fun ⟨unsent, clear⟩ => ⟨unsent, by simp, clear⟩))
      rw [(State.pump_replay free up (calmly hu) active (State.nextReplay_first hq first)).2, hq, takeFromQueue,
        if_pos first.1]
      rfl
    · intro active hu x pre e rest hq he
      have first := State.replayable_first (pre := x :: pre) hq he
      have before : ∀ y ∈ pre, s.replayable y = false := fun y hy => first.2 y (List.mem_cons_of_mem _ hy)
      rw [(State.pump_replay free up (calmly hu) active (State.nextReplay_first hq first)).2, hq, takeFromQueue,
        if_neg (by simp [first.2 x List.mem_cons_self]), takeFirst_append rest first.1 before]
      rfl
    · intro hf hu sent q b rest ha batch
      rw [State.pump_answer (pre := []) free up (calmly hu) (isFull hf) sent ha (by simp) (by simp [State.buildable, batch])]
      rw [State.current_give, State.copy_give]
      refine ⟨congrArg some (congrArg (Frame.mk _ _ _) ?_), rfl⟩
      exact if_congr (State.isCurrent_iff s b) rfl rfl
    · intro hf hu sent pre a rest ha wait
      refine ⟨fun q i snap => ?_, fun q r x versions reply => ?_⟩
      · subst snap
        rw [State.pump_answer free up (calmly hu) (isFull hf) sent ha wait rfl, State.current_give, State.copy_give]
        exact ⟨rfl, rfl⟩
      · subst versions
        rw [State.pump_answer free up (calmly hu) (isFull hf) sent ha wait (by simp [State.buildable, reply])]
        simp only [State.buildAnswer, State.settle_setCopyUnit, reply, State.current_give, State.settle_give,
          State.copy_give]
        refine ⟨rfl, ?_, ?_⟩
        · split <;> rfl
        · split
          · simp
          · rfl
    · intro calm nothing pre r rest hr permitted hpre hrest
      have calm' : s.calm := calm.elim Or.inl calmly
      rw [State.pump_of_take free up ((State.nextTake_other calm' (State.takeQueued_none nothing)).trans
        (State.takeOther_request (State.nextRequest_first hr permitted hpre hrest))), State.current_give,
        State.requests_give]
      exact ⟨rfl, rfl⟩
    · intro shown n hs hu sent noAnswer noRequest beat due
      have nothing : s.takeQueued = none := State.takeQueued_none (Or.inr ⟨sent, fun a ha => by simp [noAnswer] at ha⟩)
      have take := State.takeOther_heartbeat (State.nextRequest_none noRequest) hs
        (State.heartbeatDue_iff.mpr ⟨n, beat, due⟩)
      rw [State.pump_of_take free up ((State.nextTake_other (calmly hu) nothing).trans take), State.current_give,
        State.heartbeat_give]
      exact ⟨rfl, rfl⟩
    · intro hf hu sent wait noRequest beat due bs
      have covers : s.digestBlocks = bs := firstWith_eq_take s.digestible 8 (searchOrder s.audit.pointer)
      have quiet : s.heartbeatDue = false := Bool.eq_false_iff.mpr fun is => by
        obtain ⟨n, running, late⟩ := State.heartbeatDue_iff.mp is
        exact Nat.not_lt.mpr late (beat n running)
      have take := (State.nextTake_other (calmly hu) (State.takeQueued_none (Or.inr ⟨sent, wait⟩))).trans
        (State.takeOther_digest (State.nextRequest_none noRequest) quiet due (isFull hf))
      rw [covers] at take
      refine ⟨fun nil => ?_, fun b last => ?_⟩
      · exact State.pump_of_noTake free (take.trans (if_pos nil))
      · have covering : bs ≠ [] := fun nil => by simp [nil] at last
        rw [State.pump_of_take free up (take.trans (if_neg covering)), State.current_give, State.audit_give]
        refine ⟨rfl, ?_⟩
        show AuditUnit.mk (bs.getLastD s.audit.pointer) _ _ = _
        rw [List.getLastD_eq_getLast?, last]
        rfl
    · exact fun mute => State.pump_of_noTake free (State.nextTake_mute mute)
    · exact State.pump_lanes free up
  · intro b x next flagged
    have flags : (bitmapBlocks x.bitmap).filter (fun c => b.val ≤ c.val) = flagged := by
      rw [bitmapBlocks, List.filter_filter]
      exact List.filter_congr fun c _ => Bool.and_comm _ _
    simp only [Reply.covered, Reply.after, next, flags]
    exact ⟨rfl, rfl⟩

end Sys2Proof.Machine
end

section
/-! A lane's standing over an event: DOWN, back to UP, and its score (R145, R146, R148). -/

namespace Sys2Proof.Machine

/-! ## Events whose effect is known -/

theorem State.event_settles {s t : State} {f : State → State} (hr : s.resetLow = false) (h : f s.tickStamp = t) :
    s.event f = t.settleEvent := by rw [State.event_of_resetHigh hr, h]

theorem State.event_closes {s t : State} {f : State → State} (hr : s.resetLow = false) (h : f s.tickStamp = t)
    (still : t.still = true) : s.event f = t.closes := by
  rw [State.event_settles hr h, State.settleEvent_of_still still]

/-! ## One lane, the other, and the done marks -/

section
variable (s : State) (l m : LaneId)

theorem State.lane_setLane_other {m : LaneId} (x : Lane) (h : m ≠ l) : (s.setLane l x).lane m = s.lane m :=
  match l, m, h with
  | .A, .A, h => absurd rfl h
  | .A, .B, _ => rfl
  | .B, .A, _ => rfl
  | .B, .B, h => absurd rfl h

@[simp] theorem State.lane_markDone : (s.markDone l).lane m = s.lane m := by cases l <;> cases m <;> rfl
@[simp] theorem State.member_markDone : (s.markDone l).member = s.member := by cases l <;> rfl
@[simp] theorem State.seq_markDone : (s.markDone l).seq = s.seq := by cases l <;> rfl
@[simp] theorem State.lane_offer (o : Offer) : (s.offer o).lane l = s.lane l := by cases l <;> rfl

theorem State.setLane_markDone (x : Lane) : (s.markDone m).setLane l x = (s.setLane l x).markDone m := by
  cases l <;> cases m <;> rfl

theorem State.setLane_offer (o : Offer) (x : Lane) : (s.offer o).setLane l x = (s.setLane l x).offer o := by
  cases l <;> rfl

end

theorem Lane.receives_of_hears {x : Lane} (h : x.hears = true) : x.receives = true := (Bool.and_eq_true_iff.mp h).1

theorem Lane.receives_iff {x : Lane} : x.receives = true ↔ x.state = .up ∨ x.state = .probation := by
  rw [Lane.receives, Bool.or_eq_true, decide_eq_true_iff, decide_eq_true_iff]

/-! ## Which lanes are UP -/

section
variable {s t : State} {l : LaneId}

theorem State.anyLaneUp_iff : s.anyLaneUp = true ↔ ∃ m, s.laneUp m = true := by
  rw [State.anyLaneUp, Bool.or_eq_true]
  refine ⟨fun h => h.elim (⟨.A, ·⟩) (⟨.B, ·⟩), fun ⟨m, h⟩ => ?_⟩
  cases m
  · exact Or.inl h
  · exact Or.inr h

theorem State.laneUp_setLane_same (x : Lane) : (s.setLane l x).laneUp l = decide (x.state = .up) := by
  rw [State.laneUp, State.lane_setLane_same]

theorem State.laneUp_setLane_other {m : LaneId} (x : Lane) (h : m ≠ l) : (s.setLane l x).laneUp m = s.laneUp m := by
  rw [State.laneUp, State.lane_setLane_other s l x h, State.laneUp]

theorem State.laneUp_iff : s.laneUp l = true ↔ (s.lane l).state = .up := decide_eq_true_iff

/-- A lane changed in anything but its state leaves the same lanes UP. -/
theorem State.laneUp_setLane_kept {x : Lane} (h : x.state = (s.lane l).state) (m : LaneId) :
    (s.setLane l x).laneUp m = s.laneUp m := by
  by_cases hm : m = l
  · rw [hm, State.laneUp_setLane_same, h, State.laneUp]
  · exact State.laneUp_setLane_other x hm

theorem State.anyLaneUp_setLane_kept {x : Lane} (h : x.state = (s.lane l).state) :
    (s.setLane l x).anyLaneUp = s.anyLaneUp := by
  rw [State.anyLaneUp, State.laneUp_setLane_kept h, State.laneUp_setLane_kept h, State.anyLaneUp]

/-! ## A lane DOWN (R146) -/

/-- The lane enters DOWN and offers LANE_DOWN, before the Membership Unit is told. -/
def State.fallen (s : State) (l : LaneId) (detail : Word) : State :=
  ((s.setLane l (s.lane l).fall).markDone l).offer { cls := .laneDown, lane := some l, detail := detail }

/-- The lane is the only one UP. -/
def State.lastUp (s : State) (l : LaneId) : Prop := s.laneUp l = true ∧ ∀ m, m ≠ l → s.laneUp m = false

theorem State.laneDown_eq (s : State) (l : LaneId) (detail : Word) : s.laneDown l detail
    = if s.laneUp l && !(s.fallen l detail).anyLaneUp then (s.fallen l detail).lostLanes else s.fallen l detail := rfl

theorem State.anyLaneUp_fallen {detail : Word} :
    (s.fallen l detail).anyLaneUp = true ↔ ∃ m, m ≠ l ∧ s.laneUp m = true := by
  have lanes : ∀ m, (s.fallen l detail).laneUp m = (s.setLane l (s.lane l).fall).laneUp m := fun m => by
    rw [State.laneUp, State.fallen, State.lane_offer, State.lane_markDone, State.laneUp]
  have fell : (s.fallen l detail).laneUp l = false := (lanes l).trans (State.laneUp_setLane_same _)
  rw [State.anyLaneUp_iff]
  refine exists_congr fun m => ?_
  by_cases hm : m = l
  · simp [hm, fell]
  · rw [lanes, State.laneUp_setLane_other _ hm]
    exact (and_iff_right hm).symm

theorem State.laneDown_last {detail : Word} (h : s.lastUp l) :
    s.laneDown l detail = (s.fallen l detail).lostLanes := by
  obtain ⟨up, others⟩ := h
  have dark : (s.fallen l detail).anyLaneUp = false := Bool.eq_false_iff.mpr fun any => by
    obtain ⟨m, hm, other⟩ := State.anyLaneUp_fallen.mp any
    exact Bool.false_ne_true ((others m hm).symm.trans other)
  rw [State.laneDown_eq, up, dark]
  rfl

theorem State.laneDown_notLast {detail : Word} (h : ¬ s.lastUp l) : s.laneDown l detail = s.fallen l detail := by
  rw [State.laneDown_eq]
  refine if_neg fun both => h ?_
  obtain ⟨up, dark⟩ := Bool.and_eq_true_iff.mp both
  refine ⟨up, fun m hm => Bool.eq_false_iff.mpr fun other => ?_⟩
  rw [State.anyLaneUp_fallen.mpr ⟨m, hm, other⟩] at dark
  exact Bool.false_ne_true dark

theorem State.member_fallen (s : State) (l : LaneId) (detail : Word) : (s.fallen l detail).member = s.member := by
  rw [State.fallen, State.member_offer, State.member_markDone, State.member_setLane]

/-- A station of a group isolates where its last lane has left UP (R83). -/
theorem State.lostLanes_active (h : s.active = true) : s.lostLanes = s.isolate := if_pos h

/-- A station that seeks a group stops its timers (R79, R80). -/
theorem State.lostLanes_seeking (h : s.member.state = .listening ∨ s.member.state = .joining) :
    s.lostLanes = s.setMember { s.member with listen := none, join := none } := by
  have apart : ¬ s.active = true := by
    rw [State.active_iff]
    obtain h | h := h <;> simp [h]
  rw [State.lostLanes, if_neg apart]
  exact if_pos h

/-! ## A lane back at UP (R148) -/

/-- The lane is UP again and offers LANE_UP, before the Membership Unit is told. -/
def State.returned (s : State) (l : LaneId) : State :=
  (s.setLane l { s.lane l with state := .up, good := 0 }).offer { cls := .laneUp, lane := some l }

theorem State.laneReturn_eq (s : State) (l : LaneId) :
    s.laneReturn l = if !s.anyLaneUp then (s.returned l).gainedLane else s.returned l := rfl

theorem State.laneReturn_joined (h : s.anyLaneUp = true) : s.laneReturn l = s.returned l := by
  rw [State.laneReturn_eq, h]
  rfl

theorem State.laneReturn_alone (h : s.anyLaneUp = false) : s.laneReturn l = (s.returned l).gainedLane := by
  rw [State.laneReturn_eq, h]
  rfl

theorem State.member_returned (s : State) (l : LaneId) : (s.returned l).member = s.member := by
  rw [State.returned, State.member_offer, State.member_setLane]

theorem State.seq_returned (s : State) (l : LaneId) : (s.returned l).seq = s.seq := by
  rw [State.returned, State.seq_offer, State.seq_setLane]

theorem State.anyLaneUp_returned (s : State) (l : LaneId) : (s.returned l).anyLaneUp = true :=
  State.anyLaneUp_iff.mpr ⟨l, by rw [State.laneUp, State.returned, State.lane_offer, State.lane_setLane_same]; rfl⟩

/-! ## The error score (R145) -/

theorem State.weigh_below {up down : Nat} (h : (s.lane l).score + up - down < 64) :
    s.weigh l up down = s.setLane l { s.lane l with score := (s.lane l).score + up - down } := by
  have score : addScore (s.lane l).score up down = (s.lane l).score + up - down := Nat.min_eq_right (Nat.le_of_lt h)
  have below : ¬ (s.lane l).score + up - down = Config.scoreLimit := Nat.ne_of_lt h
  simp only [State.weigh, score, below, decide_false, Bool.and_false, Bool.false_eq_true, if_false]

/-- A score of 64 takes a lane that receives DOWN for SCORE (R145, R146, R148). -/
theorem State.weigh_limit {up down : Nat} (h : 64 ≤ (s.lane l).score + up - down) (hr : (s.lane l).receives = true) :
    s.weigh l up down = (s.setLane l { s.lane l with score := 64 }).laneDown l 1 := by
  have score : addScore (s.lane l).score up down = 64 := Nat.min_eq_left h
  have receives : ((s.setLane l { s.lane l with score := 64 }).lane l).receives = true := by
    rw [State.lane_setLane_same]
    exact hr
  rw [State.weigh, score]
  exact if_pos (Bool.and_eq_true_iff.mpr ⟨receives, rfl⟩)

end

end Sys2Proof.Machine
end

section
/-! The line of a lane: what the receiver makes of one character time, abort marks, stuck lines, and a rest that ends (R140 to R143, R146, R147). -/

namespace Sys2Proof

/-! ## Bits that are no character -/

/-- Bits that all read mark, outside a character (R140). -/
theorem Receiver.hear_quiet {r : Receiver} {bits : List Triple} (hs : r.shift = []) (hr : r.spaceRun = 0)
    (h : ∀ t ∈ bits, majority t = true) : r.hear bits = r := by
  induction bits with
  | nil => rfl
  | cons t ts ih =>
    have step : r.hearBit t = r := by
      simp only [Receiver.hearBit, hs, hr, if_true, Receiver.seekStart, h t List.mem_cons_self]
    rw [Receiver.hear_cons, step, ih fun x hx => h x (List.mem_cons_of_mem _ hx)]

/-- Mark ends a space run that is not stuck (R141, R142). -/
theorem Receiver.hear_marks_run {r : Receiver} (hs : r.shift = []) (hr : r.spaceRun ≤ Config.stuckRun) (n : Nat) :
    r.hear (List.replicate (n + 1) (Triple.all true)) = { r with spaceRun := 0 } := by
  have step : r.hearBit (Triple.all true) = { r with spaceRun := 0 } := by
    by_cases h0 : r.spaceRun = 0
    · have bit : r.hearBit (Triple.all true) = r := Receiver.hear_marks hs h0 1
      rw [bit, ← h0]
    · have bit : r.hearBit (Triple.all true) = (r.hearSpace (Triple.all true)).awaitMark (Triple.all true) := by
        simp only [Receiver.hearBit, hs, if_neg h0]
      rw [bit]
      exact if_neg (Nat.not_lt.mpr hr)
  rw [List.replicate_succ, Receiver.hear_cons, step, Receiver.hear_marks (by exact hs) rfl]

theorem LineCell.quiet_mark : ∀ t ∈ LineCell.mark.bits, majority t = true := by decide

theorem Receiver.heard_hearBit {r : Receiver} (h : r.heard = true) (t : Triple) : (r.hearBit t).heard = true := by
  unfold Receiver.hearBit Receiver.seekStart Receiver.awaitMark Receiver.endChar Receiver.hearSpace
  (repeat' split) <;> simp [h]

theorem Receiver.heard_hear (bits : List Triple) {r : Receiver} (h : r.heard = true) : (r.hear bits).heard = true := by
  induction bits generalizing r with
  | nil => exact h
  | cons t ts ih => exact ih (Receiver.heard_hearBit h t)

/-- A bit at space is heard, in a character and outside one (R140). -/
theorem Receiver.heard_space (r : Receiver) : (r.hearBit (Triple.all false)).heard = true := by
  unfold Receiver.hearBit Receiver.awaitMark
  (repeat' split) <;> rfl

end Sys2Proof

namespace Sys2Proof.Machine

/-! ## One character time (R140 to R143) -/

section
variable {lane : Lane} (hs : lane.shift = [])
include hs

/-- A cell that reads mark throughout lets the idle time count. -/
theorem Lane.sample_quiet {cell : LineCell} (hr : lane.spaceRun = 0) (h : ∀ t ∈ cell.bits, majority t = true) :
    lane.sample cell = { lane with idle := lane.idle + 1 } := by
  rw [Lane.sample, Receiver.hear_quiet (r := lane.receiver) hs hr h]
  simp only [Lane.receiver, hs, List.isEmpty_nil, Bool.not_true, Bool.or_self, Bool.false_eq_true, if_false]

theorem Lane.sample_mark (hr : lane.spaceRun ≤ 640) :
    lane.sample .mark = { lane with idle := lane.idle + 1, spaceRun := 0 } := by
  have heard : lane.receiver.hear LineCell.mark.bits = { lane.receiver with spaceRun := 0 } :=
    Receiver.hear_marks_run (r := lane.receiver) hs hr 9
  rw [Lane.sample, heard]
  simp only [Lane.receiver, hs, List.isEmpty_nil, Bool.not_true, Bool.or_self, Bool.false_eq_true, if_false]

/-- A character restarts the idle time, and belongs to a frame in progress or begins one after 2 ct of idle. -/
theorem Lane.sample_char {c : RxChar} (hr : lane.spaceRun = 0) (h8 : c.data.length = 8) (hc : c.falseStart = false) :
    lane.sample (.char c) = { lane with
      idle := 0, spaceRun := if c.framing then c.trailing else 0
      buffer := if 0 < lane.buffer.count ∨ 2 ≤ lane.idle then lane.buffer.take c else lane.buffer } := by
  have heard := Receiver.hear_char (r := lane.receiver) hs hr h8 hc
  rw [Lane.sample, LineCell.bits, heard, ← hs]
  rfl

/-- Space held on after a stop bit at space, for n bits of the character time, and mark for the rest (R141). -/
theorem Lane.sample_held {c : RxChar} {n : Nat} (hr : 0 < lane.spaceRun) (hn : 0 < n) (h10 : n ≤ 10)
    (h640 : lane.spaceRun + n ≤ 640)
    (hb : c.bits = List.replicate n (Triple.all false) ++ List.replicate (10 - n) (Triple.all true)) :
    lane.sample (.char c) = { lane with
      idle := 0, spaceRun := if n = 10 then lane.spaceRun + 10 else 0
      buffer := if 12 ≤ lane.spaceRun + n then FrameBuffer.empty else lane.buffer } := by
  have held := Receiver.hear_spaces (r := lane.receiver) hs hr n (Nat.le_succ_of_le h640)
  rw [if_neg (Nat.ne_of_gt hn)] at held
  have heard : lane.receiver.hear c.bits = { lane.receiver with
      idle := 0, heard := true, spaceRun := if n = 10 then lane.spaceRun + 10 else 0
      buffer := if 12 ≤ lane.spaceRun + n then FrameBuffer.empty else lane.buffer } := by
    rw [hb, Receiver.hear_append, held]
    by_cases whole : n = 10
    · subst whole
      rfl
    · obtain ⟨k, hk⟩ : ∃ k, 10 - n = k + 1 := ⟨9 - n, by omega⟩
      rw [hk, Receiver.hear_marks_run (by exact hs) (by exact h640), if_neg whole]
      rfl
  rw [Lane.sample, LineCell.bits, heard]
  rfl

end

/-- A character time at space is heard whatever is in progress. -/
theorem Lane.idle_sample_space (lane : Lane) : (lane.sample .space).idle = 0 := by
  have heard : (lane.receiver.hear LineCell.space.bits).heard = true :=
    Receiver.heard_hear (List.replicate 9 (Triple.all false)) lane.receiver.heard_space
  simp only [Lane.sample, heard, Bool.true_or, if_true]

/-! ## The rows -/

section
variable {s : State} {l : LaneId}

theorem State.abortMark_hears (h : (s.lane l).hears = true) : s.abortMark l = s.setLane l { s.lane l with
    buffer := FrameBuffer.empty, shift := [], spaceRun := max 12 (s.lane l).spaceRun, idle := 0
    line := if (s.lane l).spaceRun < 12 then .space :: (s.lane l).line else (s.lane l).line } := if_pos h

theorem State.stuckLine_stuck (h : (s.lane l).hears = true) (run : 640 < (s.lane l).spaceRun) :
    s.stuckLine l = s.laneDown l 2 := if_pos ⟨h, run⟩

theorem State.restEnd_over {n : Nat} (down : (s.lane l).state = .down) (rest : (s.lane l).rest = some n)
    (ended : 65536 ≤ n) : s.restEnd l = s.setLane l (s.lane l).probation := by
  refine if_pos ⟨down, ?_⟩
  rw [rest]
  exact decide_eq_true ended

end

/-- Settles O43: each row by its effect, a lane DOWN by whether it was the last UP, a character time by the receiver. -/
theorem laneLineEvents : Obligations.LaneLineEvents := by
  refine ⟨?_, ?_, ?_, fun lane => ⟨rfl, lane.idle_sample_space⟩⟩
  · intro l s hr
    refine ⟨?_, ?_, ?_, ?_⟩
    · intro h t still
      exact congrArg Host.Outcome.next (State.event_closes hr (State.abortMark_hears (s := s.tickStamp) h) still)
    · intro h run other t still
      have notLast : ¬ s.tickStamp.lastUp l := by
        rintro ⟨up, others⟩
        obtain probation | ⟨m, hm, upToo⟩ := other
        · have state : (s.lane l).state = .up := State.laneUp_iff.mp up
          rw [probation] at state
          cases state
        · exact Bool.false_ne_true ((others m hm).symm.trans upToo)
      have falls : s.tickStamp.stuckLine l = t :=
        (State.stuckLine_stuck (s := s.tickStamp) h run).trans (State.laneDown_notLast notLast)
      exact congrArg Host.Outcome.next (State.event_closes hr falls still)
    · intro h run
      exact congrArg Host.Outcome.next (State.event_settles hr (State.stuckLine_stuck (s := s.tickStamp) h run))
    · intro n down rest ended t still
      exact congrArg Host.Outcome.next
        (State.event_closes hr (State.restEnd_over (s := s.tickStamp) down rest ended) still)
  · intro l detail s t last
    have member : t.member = s.member := s.member_fallen l detail
    refine ⟨fun h => State.laneDown_notLast h, fun h active => ?_, fun h seeking => ?_⟩
    · have still : t.active = true := by
        rw [State.active_iff, member]
        exact State.active_iff.mp active
      exact (State.laneDown_last h).trans (State.lostLanes_active still)
    · have seeks : t.member.state = .listening ∨ t.member.state = .joining := by rwa [member]
      rw [← member]
      exact (State.laneDown_last h).trans (State.lostLanes_seeking seeks)
  · intro lane c hs h8
    refine ⟨Lane.sample_mark hs, fun hr hc => Lane.sample_char hs hr h8 hc, fun hr hc data stop => ?_,
      fun hr n hn h10 h640 hb => Lane.sample_held hs hr hn h10 h640 hb⟩
    have marks : ∀ t ∈ c.bits, majority t = true := by
      intro t ht
      obtain rfl | ht | rfl : t = c.start ∨ t ∈ c.data ∨ t = c.stop := by simpa [RxChar.bits, or_assoc] using ht
      · exact hc
      · exact data t ht
      · exact stop
    rw [Lane.sample_quiet (cell := .char c) hs hr marks, Lane.sample_quiet hs hr LineCell.quiet_mark]

end Sys2Proof.Machine
end

section
/-! A frame's end on a lane: bad, or good on a PROBATION lane, and what it weighs (R143 to R145, R148). -/

namespace Sys2Proof.Machine

theorem State.setLane_lane (s : State) (l : LaneId) : s.setLane l (s.lane l) = s := by cases l <;> rfl

/-- A lane that has taken in a frame whole, with the 2 ct of idle after it, and what is told of the line to come. -/
def Lane.afterFrame (x : Lane) (told : List LineCell) : Lane :=
  { x with idle := 2, spaceRun := 0, buffer := FrameBuffer.empty, line := x.line ++ told }

section
variable {s : State}

/-- A row that brings a frame whole to a lane that awaits one: the frame ends and is judged. -/
theorem State.frameIn_awaiting {rx : RxFrame} (hears : (s.lane rx.lane).hears = true)
    (awaits : (s.lane rx.lane).awaitsFrame = true) (count : 0 < rx.buffer.count) : s.frameIn rx
      = (s.setLane rx.lane ((s.lane rx.lane).afterFrame rx.line)).judgeBuffer rx.lane rx.buffer := by
  have run : (s.lane rx.lane).spaceRun = 0 := by
    simp only [Lane.awaitsFrame, Bool.and_eq_true, decide_eq_true_eq] at awaits
    exact awaits.2
  set told : Lane := { s.lane rx.lane with line := (s.lane rx.lane).line ++ rx.line } with htold
  have brought : s.bring rx.lane rx.line = s.setLane rx.lane told := rfl
  have heard : told.hearAll rx.chars = { told with buffer := rx.buffer, idle := Config.frameEnd } :=
    Lane.hearAll_of_awaits (lane := told) awaits count
  have hears' : told.hears = true := hears
  have after : ({ told with idle := Config.frameEnd, buffer := FrameBuffer.empty } : Lane)
      = (s.lane rx.lane).afterFrame rx.line := by
    rw [Lane.afterFrame, ← run]
    rfl
  simp only [State.frameIn, brought, State.lane_setLane_same, hears', if_true, heard, count, true_and, Nat.le_refl,
    State.frameEnds, State.setLane_setLane, after]

/-- A row that brings no character ends the frame in progress once the line has been idle for 2 ct. -/
theorem State.frameIn_idle {l : LaneId} (hears : (s.lane l).hears = true) (count : 0 < (s.lane l).buffer.count)
    (idle : 2 ≤ (s.lane l).idle) : s.frameIn ⟨l, [], []⟩
      = (s.setLane l { s.lane l with buffer := FrameBuffer.empty }).judgeBuffer l (s.lane l).buffer := by
  have brought : s.bring l [] = s := by
    rw [State.bring, List.append_nil]
    exact s.setLane_lane l
  have heard : (s.lane l).hearAll [] = s.lane l := by simp [Lane.hearAll]
  simp only [State.frameIn, brought, hears, if_true, heard, State.setLane_lane]
  exact if_pos ⟨count, idle⟩

variable {l : LaneId} {f : FrameBuffer}

theorem State.judgeBuffer_bad (h : f.verdict ≠ none) : s.judgeBuffer l f = s.badFrame l f := by
  obtain ⟨fault, bad⟩ := Option.ne_none_iff_exists'.mp h
  rw [State.judgeBuffer, bad]

theorem State.judgeBuffer_probation (h : f.verdict = none) (hp : (s.lane l).state = .probation) :
    s.judgeBuffer l f = s.probationFrame l f := by
  have down : ¬ s.laneUp l = true := by
    rw [State.laneUp_iff, hp]
    exact fun up => by cases up
  rw [State.judgeBuffer, h]
  exact if_neg down

theorem State.badFrame_below (h : (s.lane l).score + 4 + frameNoise f < 64) :
    s.badFrame l f = s.setLane l { s.lane l with score := (s.lane l).score + 4 + frameNoise f } := by
  rw [Nat.add_assoc] at *
  exact State.weigh_below h

theorem State.badFrame_limit (h : 64 ≤ (s.lane l).score + 4 + frameNoise f) (hr : (s.lane l).receives = true) :
    s.badFrame l f = (s.setLane l { s.lane l with score := 64 }).laneDown l 1 := by
  rw [Nat.add_assoc] at h
  exact State.weigh_limit h hr

/-- A good frame raises no score to 64: its noise weighs 1 at the most, and it takes 1. -/
theorem score_good_below {score : Nat} (h : score < 64) (f : FrameBuffer) : score + frameNoise f - 1 < 64 := by
  unfold frameNoise
  split <;> omega

/-- A good frame before the 32nd counts, and takes 1 from the score. -/
theorem State.probationFrame_counts (hs : (s.lane l).score < 64) (hg : (s.lane l).good + 1 < 32) :
    s.probationFrame l f = s.setLane l { s.lane l with
      score := (s.lane l).score + frameNoise f - 1, good := (s.lane l).good + 1 } := by
  set counted : State := s.setLane l { s.lane l with good := (s.lane l).good + 1 } with hcounted
  have lane : counted.lane l = { s.lane l with good := (s.lane l).good + 1 } := s.lane_setLane_same l _
  have below : (counted.lane l).score + frameNoise f - 1 < 64 := by
    rw [lane]
    exact score_good_below hs f
  have early : ¬ (counted.lane l).good = Config.goodFrames := by
    rw [lane]
    exact Nat.ne_of_lt hg
  have weighed : s.probationFrame l f = counted.weigh l (frameNoise f) 1 := by
    rw [State.probationFrame, ← hcounted]
    exact congrArg (fun t => State.weigh t l (frameNoise f) 1) (if_neg early)
  rw [weighed, State.weigh_below below, lane, hcounted, State.setLane_setLane]

/-- The 32nd good frame returns the lane to UP, its good count at 0, beside another that is UP. -/
theorem State.probationFrame_returns (hs : (s.lane l).score < 64) (hg : (s.lane l).good + 1 = 32)
    (up : s.anyLaneUp = true) : s.probationFrame l f = (s.setLane l { s.lane l with
      state := .up, score := (s.lane l).score + frameNoise f - 1, good := 0 }).offer { cls := .laneUp, lane := some l } := by
  set counted : State := s.setLane l { s.lane l with good := (s.lane l).good + 1 } with hcounted
  have lane : counted.lane l = { s.lane l with good := (s.lane l).good + 1 } := s.lane_setLane_same l _
  have joined : counted.anyLaneUp = true := (State.anyLaneUp_setLane_kept (by rfl)).trans up
  have last : (counted.lane l).good = Config.goodFrames := by
    rw [lane]
    exact hg
  have weighed : s.probationFrame l f = (counted.returned l).weigh l (frameNoise f) 1 := by
    rw [State.probationFrame, ← hcounted, ← State.laneReturn_joined joined]
    exact congrArg (fun t => State.weigh t l (frameNoise f) 1) (if_pos last)
  have back : (counted.returned l).lane l = { s.lane l with state := .up, good := 0 } := by
    rw [State.returned, State.lane_offer, State.lane_setLane_same, lane]
  have below : ((counted.returned l).lane l).score + frameNoise f - 1 < 64 := by
    rw [back]
    exact score_good_below hs f
  rw [weighed, State.weigh_below below, back, State.returned, State.setLane_offer, State.setLane_setLane, hcounted,
    State.setLane_setLane]

/-! ## The rows of a frame's end -/

section
variable {rx : RxFrame} (hears : (s.lane rx.lane).hears = true) (awaits : (s.lane rx.lane).awaitsFrame = true)
  (count : 0 < rx.buffer.count)
include hears awaits count

theorem State.frameIn_bad_below (bad : rx.buffer.verdict ≠ none)
    (below : (s.lane rx.lane).score + 4 + frameNoise rx.buffer < 64) : s.frameIn rx
      = s.setLane rx.lane { (s.lane rx.lane).afterFrame rx.line with
          score := (s.lane rx.lane).score + 4 + frameNoise rx.buffer } := by
  have lane := s.lane_setLane_same rx.lane ((s.lane rx.lane).afterFrame rx.line)
  rw [State.frameIn_awaiting hears awaits count, State.judgeBuffer_bad bad,
    State.badFrame_below (by rw [lane]; exact below), lane, State.setLane_setLane]
  rfl

theorem State.frameIn_bad_limit (bad : rx.buffer.verdict ≠ none)
    (limit : 64 ≤ (s.lane rx.lane).score + 4 + frameNoise rx.buffer) : s.frameIn rx
      = (s.setLane rx.lane { (s.lane rx.lane).afterFrame rx.line with score := 64 }).laneDown rx.lane 1 := by
  have lane := s.lane_setLane_same rx.lane ((s.lane rx.lane).afterFrame rx.line)
  rw [State.frameIn_awaiting hears awaits count, State.judgeBuffer_bad bad, State.badFrame_limit
    (by rw [lane]; exact limit) (by rw [lane]; exact Lane.receives_of_hears hears), lane, State.setLane_setLane]

variable (good : rx.buffer.verdict = none) (probation : (s.lane rx.lane).state = .probation)
  (score : (s.lane rx.lane).score < 64)
include good probation score

theorem State.frameIn_probation_counts (early : (s.lane rx.lane).good + 1 < 32) : s.frameIn rx
    = s.setLane rx.lane { (s.lane rx.lane).afterFrame rx.line with
        score := (s.lane rx.lane).score + frameNoise rx.buffer - 1, good := (s.lane rx.lane).good + 1 } := by
  have lane := s.lane_setLane_same rx.lane ((s.lane rx.lane).afterFrame rx.line)
  rw [State.frameIn_awaiting hears awaits count, State.judgeBuffer_probation good (by rw [lane]; exact probation),
    State.probationFrame_counts (by rw [lane]; exact score) (by rw [lane]; exact early), lane, State.setLane_setLane]
  rfl

theorem State.frameIn_probation_returns (last : (s.lane rx.lane).good + 1 = 32) (up : s.anyLaneUp = true) :
    s.frameIn rx = (s.setLane rx.lane { (s.lane rx.lane).afterFrame rx.line with
        state := .up, score := (s.lane rx.lane).score + frameNoise rx.buffer - 1, good := 0 }).offer
          { cls := .laneUp, lane := some rx.lane } := by
  have lane := s.lane_setLane_same rx.lane ((s.lane rx.lane).afterFrame rx.line)
  have joined : (s.setLane rx.lane ((s.lane rx.lane).afterFrame rx.line)).anyLaneUp = true :=
    (State.anyLaneUp_setLane_kept (by rfl)).trans up
  rw [State.frameIn_awaiting hears awaits count, State.judgeBuffer_probation good (by rw [lane]; exact probation),
    State.probationFrame_returns (by rw [lane]; exact score) (by rw [lane]; exact last) joined, lane,
    State.setLane_setLane]
  rfl

end

/-- A frame cut off or broken off in the buffer ends as a bad one (R144, R151). -/
theorem State.frameIn_idle_bad (hears : (s.lane l).hears = true) (count : 0 < (s.lane l).buffer.count)
    (idle : 2 ≤ (s.lane l).idle) (bad : (s.lane l).buffer.verdict ≠ none)
    (below : (s.lane l).score + 4 + frameNoise (s.lane l).buffer < 64) : s.frameIn ⟨l, [], []⟩
      = s.setLane l { s.lane l with
          score := (s.lane l).score + 4 + frameNoise (s.lane l).buffer, buffer := FrameBuffer.empty } := by
  have lane := s.lane_setLane_same l { s.lane l with buffer := FrameBuffer.empty }
  rw [State.frameIn_idle hears count idle, State.judgeBuffer_bad bad, State.badFrame_below (by rw [lane]; exact below),
    lane, State.setLane_setLane]

end

/-- Settles O45: a frame's end is judged on the lane it leaves, by the verdict, the lane's state and its counts. -/
theorem framesWeighTheirLane : Obligations.FramesWeighTheirLane := by
  refine ⟨?_, ?_⟩
  · intro rx s hr hears awaits count noise ended
    refine ⟨?_, ?_, ?_, ?_⟩
    · intro bad below t still
      exact congrArg Host.Outcome.next (State.event_closes hr
        (State.frameIn_bad_below (s := s.tickStamp) hears awaits count bad below) still)
    · intro bad limit
      exact congrArg Host.Outcome.next (State.event_settles hr
        (State.frameIn_bad_limit (s := s.tickStamp) hears awaits count bad limit))
    · intro good probation score early t still
      exact congrArg Host.Outcome.next (State.event_closes hr
        (State.frameIn_probation_counts (s := s.tickStamp) hears awaits count good probation score early) still)
    · intro good probation score last up
      exact congrArg Host.Outcome.next (State.event_settles hr
        (State.frameIn_probation_returns (s := s.tickStamp) hears awaits count good probation score last up))
  · intro l s t
    refine ⟨State.laneReturn_joined, fun dark => ?_⟩
    have member : t.member = s.member := s.member_returned l
    have seq : t.seq = s.seq := s.seq_returned l
    have up : t.anyLaneUp = true := s.anyLaneUp_returned l
    have told : s.laneReturn l = t.gainedLane := State.laneReturn_alone dark
    rw [told, ← member, ← seq]
    refine ⟨fun isolated => ?_, fun listening => ?_, fun joining => ?_, fun other => ?_⟩
    · simp only [State.gainedLane, State.state, isolated, State.enterListening, up, if_true]
    · simp only [State.gainedLane, State.state, listening]
    · simp only [State.gainedLane, State.state, joining, State.sendJoin]
    · simp only [List.mem_cons, List.not_mem_nil, or_false] at other
      obtain h | h | h | h | h | h := other <;> simp only [State.gainedLane, State.state, h]

end Sys2Proof.Machine
end

section
/-! Medium access: attempts, collisions, backoff and abandonment, the readback, and TX (R139, R143 to R145, R149 to R152). -/

namespace Sys2Proof.Machine

/-! ## Done with a frame (R144, R149, R151) -/

section
variable {s : State} {l : LaneId}

theorem State.quit_whole (h : s.sentWhole l = true) : s.quit l = { (s.lane l).release with
    buffer := { (s.lane l).buffer with own := (s.lane l).buffer.count } } := if_pos h

theorem State.quit_cut (h : ¬ s.sentWhole l = true) : s.quit l = (s.lane l).release := if_neg h

/-- Every lane is done with its frame where the station may send no more (R151, R154). -/
theorem State.lane_silence_eq (s : State) (l : LaneId) : s.silence.lane l = s.quit l := by cases l <;> rfl

theorem State.not_sentWhole_of_aborting (h : (s.lane l).access = .aborting) : ¬ s.sentWhole l = true := by
  rw [State.sentWhole_iff, h]
  exact fun whole => by cases whole.1

/-! ## Attempts and abort marks (R149 to R151) -/

theorem State.attemptStart_due (access : (s.lane l).access = .deferring) (due : (s.lane l).required ≤ (s.lane l).idle) :
    s.attemptStart l = s.setLane l (s.lane l).startSending := if_pos ⟨access, due⟩

theorem State.collision_found {readback : Option RxChar} (access : (s.lane l).access = .sending)
    (found : collides (s.lastSent l) readback = true) : s.collision l readback = s.setLane l (s.lane l).abort :=
  if_pos ⟨access, found⟩

theorem State.frameSent_whole (h : s.sentWhole l = true) : s.frameSent l = s.laneDone l := if_pos h

section
variable (access : (s.lane l).access = .aborting) (mark : 2 ≤ (s.lane l).abortTime)
include access mark

theorem State.abortMarkEnd_retries (early : (s.lane l).attempt < 16) :
    s.abortMarkEnd l = s.setLane l ((s.lane l).retry s.own) :=
  (if_pos (show _ ∧ Config.abortMark ≤ _ from ⟨access, mark⟩)).trans (if_pos early)

theorem State.abortMarkEnd_abandons (last : (s.lane l).attempt = 16) : s.abortMarkEnd l
    = ((s.setLane l (s.lane l).release).markDone l).weigh l 8 0 := by
  have spent : ¬ (s.lane l).attempt < Config.laneAttempts := Nat.not_lt.mpr (Nat.le_of_eq last.symm)
  have done : s.laneDone l = (s.setLane l (s.lane l).release).markDone l := by
    rw [State.laneDone, State.quit_cut (State.not_sentWhole_of_aborting access)]
  rw [← done]
  exact (if_pos (show _ ∧ Config.abortMark ≤ _ from ⟨access, mark⟩)).trans (if_neg spent)

/-- An abandoned frame weighs 8 (R151). -/
theorem State.abortMarkEnd_below (last : (s.lane l).attempt = 16) (below : (s.lane l).score + 8 < 64) :
    s.abortMarkEnd l
      = (s.setLane l { (s.lane l).release with score := (s.lane l).score + 8 }).markDone l := by
  have lane : ((s.setLane l (s.lane l).release).markDone l).lane l = (s.lane l).release := by
    rw [State.lane_markDone, State.lane_setLane_same]
  rw [State.abortMarkEnd_abandons access mark last, State.weigh_below (by rw [lane]; exact below), lane,
    State.setLane_markDone, State.setLane_setLane]
  rfl

theorem State.abortMarkEnd_limit (last : (s.lane l).attempt = 16) (limit : 64 ≤ (s.lane l).score + 8)
    (receives : (s.lane l).receives = true) : s.abortMarkEnd l
      = ((s.setLane l { (s.lane l).release with score := 64 }).markDone l).laneDown l 1 := by
  have lane : ((s.setLane l (s.lane l).release).markDone l).lane l = (s.lane l).release := by
    rw [State.lane_markDone, State.lane_setLane_same]
  rw [State.abortMarkEnd_abandons access mark last,
    State.weigh_limit (by rw [lane]; exact limit) (by rw [lane]; exact receives), lane, State.setLane_markDone,
    State.setLane_setLane]

end
end

/-! ## TX (R139, R175) -/

section
variable {s : State} {l : LaneId} (hr : s.resetLow = false)
include hr

theorem State.txPin_aborting (access : (s.lane l).access = .aborting) (i : Fin 10) : s.txPin l i = false := by
  simp only [State.txPin, hr, Bool.false_eq_true, if_false, access]

theorem State.txPin_silent (access : (s.lane l).access = .idle ∨ (s.lane l).access = .deferring) (i : Fin 10) :
    s.txPin l i = true := by
  obtain idle | deferring := access
  · simp only [State.txPin, hr, Bool.false_eq_true, if_false, idle]
  · simp only [State.txPin, hr, Bool.false_eq_true, if_false, deferring]

theorem State.txPin_sending (access : (s.lane l).access = .sending) (i : Fin 10) :
    s.txPin l i = (decide (i.val = 9) || (decide (1 ≤ i.val) && (s.sending l).getLsbD (i.val - 1))) := by
  simp only [State.txPin, hr, Bool.false_eq_true, if_false, access]

end

/-! ## A character time of a lane that receives (R139, R143, R144) -/

section
variable {lane : Lane} {sent : Byte} (receives : lane.receives = true)
include receives

theorem Lane.tick_sending (access : lane.access = .sending) : lane.tick sent = lane.sendOn sent := by
  obtain up | probation := Lane.receives_iff.mp receives
  · rw [Lane.tick, up, access]
  · rw [Lane.tick, probation, access]

theorem Lane.tick_listening (idle : lane.driving = false) : lane.tick sent = lane.listenOn := by
  have access : lane.access = .idle ∨ lane.access = .deferring := by
    cases h : lane.access <;> simp [Lane.driving, h] at idle ⊢
  obtain up | probation := Lane.receives_iff.mp receives <;> obtain h | h := access
  · rw [Lane.tick, up, h]
  · rw [Lane.tick, up, h]
  · rw [Lane.tick, probation, h]
  · rw [Lane.tick, probation, h]

end

/-- What a sending lane reads back goes into its frame in progress, but for its noise (log entry 35). -/
theorem Lane.sendOn_char {lane : Lane} {sent : Byte} {c : RxChar} (hs : lane.shift = []) (hr : lane.spaceRun = 0)
    (frame : 0 < lane.buffer.count ∨ 2 ≤ lane.idle) (h8 : c.data.length = 8) (hc : c.falseStart = false)
    (told : (lane.line = [] ∧ c = cleanChar sent) ∨ ∃ rest, lane.line = .char c :: rest) :
    lane.sendOn sent = { lane with
      progress := lane.progress + 1, readback := some c, idle := 0, line := lane.line.tail
      buffer := { lane.buffer.take c with noisy := lane.buffer.noisy } } := by
  have cell : lane.line.headD (.char (cleanChar sent)) = .char c ∧ lane.readsBack sent = some c := by
    obtain ⟨untold, rfl⟩ | ⟨rest, line⟩ := told
    · simp [Lane.readsBack, untold]
    · simp [Lane.readsBack, line]
  obtain ⟨head, back⟩ := cell
  simp only [Lane.sendOn, head, back, Lane.sample_char hs hr h8 hc, if_pos frame]
  rw [← hs, ← hr]

/-- With nothing told, a lane not driven reads mark, and its own frame, sent whole, ends at 2 ct of idle (R144). -/
theorem Lane.listenOn_mark {lane : Lane} (hs : lane.shift = []) (hr : lane.spaceRun = 0) (line : lane.line = []) :
    lane.listenOn = { lane with
      idle := lane.idle + 1
      buffer := if 0 < lane.buffer.own ∧ lane.buffer.own = lane.buffer.count ∧ 1 ≤ lane.idle then FrameBuffer.empty
        else lane.buffer } := by
  have ends : (lane.buffer.isReadback && decide (Config.frameEnd ≤ lane.idle + 1)) = true
      ↔ 0 < lane.buffer.own ∧ lane.buffer.own = lane.buffer.count ∧ 1 ≤ lane.idle := by
    simp [FrameBuffer.isReadback, Config.frameEnd, and_assoc]
  have quiet := Lane.sample_quiet hs hr LineCell.quiet_mark
  simp only [Lane.listenOn, line, List.headD_nil, List.tail_nil, quiet]
  rw [if_congr ends rfl rfl]

/-- Settles O44: each row by its effect, TX by the controller's state, and a character time by what the lane drives. -/
theorem mediumAccess : Obligations.MediumAccess := by
  refine ⟨?_, ?_, ?_, ?_, ?_, ?_⟩
  · intro l s hr
    refine ⟨?_, ?_, ?_, ?_, ?_, ?_, ?_, ?_, ?_⟩
    · intro access due t still
      exact congrArg Host.Outcome.next
        (State.event_closes hr (State.attemptStart_due (s := s.tickStamp) access due) still)
    · intro readback access found t still
      exact congrArg Host.Outcome.next
        (State.event_closes hr (State.collision_found (s := s.tickStamp) access found) still)
    · intro access mark early t still
      exact congrArg Host.Outcome.next
        (State.event_closes hr (State.abortMarkEnd_retries (s := s.tickStamp) access mark early) still)
    · intro access mark last below t still
      exact congrArg Host.Outcome.next
        (State.event_closes hr (State.abortMarkEnd_below (s := s.tickStamp) access mark last below) still)
    · intro access mark last limit receives
      exact congrArg Host.Outcome.next
        (State.event_settles hr (State.abortMarkEnd_limit (s := s.tickStamp) access mark last limit receives))
    · intro access sent equal t still
      have whole : s.tickStamp.sentWhole l = true := (State.sentWhole_iff s.tickStamp l).mpr ⟨access, sent, equal⟩
      have effect : s.tickStamp.frameSent l = t := by
        rw [State.frameSent_whole whole, State.laneDone, State.quit_whole whole, State.lane_tickStamp]
      exact congrArg Host.Outcome.next (State.event_closes hr effect still)
    · exact fun i access => State.txPin_aborting hr access i
    · exact fun i access => State.txPin_silent hr access i
    · intro access
      refine ⟨State.txPin_sending hr access 0, State.txPin_sending hr access 9, fun i => ?_⟩
      have notStop : i.val + 1 ≠ 9 := by omega
      have bit : (Fin.ofNat 10 (i.val + 1)).val = i.val + 1 := Nat.mod_eq_of_lt (by omega)
      simp only [State.txPin_sending hr access, bit, notStop, decide_false, Bool.false_or, Nat.le_add_left, decide_true,
        Bool.true_and, Nat.add_sub_cancel, State.sending]
  · intro l i s low
    simp only [State.txPin, low, if_true]
  · intro lane sent c receives access hs hr frame h8 hc told
    rw [Lane.tick_sending receives access, Lane.sendOn_char hs hr frame h8 hc told]
  · intro lane sent receives idle hs hr line
    rw [Lane.tick_listening receives idle, Lane.listenOn_mark hs hr line]
  · intro l s whole
    rw [State.lane_silence_eq]
    exact ⟨fun cut => State.quit_cut (mt (State.sentWhole_iff s l).mp cut),
      fun sent => State.quit_whole ((State.sentWhole_iff s l).mpr sent)⟩
  · intro l s hr hears count idle bad score below t still
    exact congrArg Host.Outcome.next (State.event_closes hr
      (State.frameIn_idle_bad (s := s.tickStamp) hears count idle bad below) still)

end Sys2Proof.Machine
end

section
/-! Every frame a station may send is read back from its bytes (R156 to R162). -/

namespace Sys2Proof

open Machine

/-- Settles O9: header and CRC come back by the layout of Table 10-1, the payload by cases of its kind, as
`readFrame_bytes` has it. -/
theorem framesReadBack : Obligations.FramesReadBack := by
  intro f wf
  exact readFrame_bytes wf

end Sys2Proof
end

section
/-! What every command but RESET is: an event, a port access, or a write that is ignored; and what RESET does and releases (R22, R77, R78, R138, R175). -/

namespace Sys2Proof.Machine

/-! ## The setting (R78, R175) -/

/-- What a COMMAND may make of the station beyond its result, by the tables of its row (R31, R46, R86, R100, R114). -/
inductive CommandEffect : (State → State) → Prop
  | nothing : CommandEffect id
  | close : CommandEffect State.closeOrDue
  | claim (b : Block) : CommandEffect (·.openClaim b false)
  | stale (b : Block) : CommandEffect (·.makeStale b)
  | endHold (b : Block) : CommandEffect (·.endHold b)
  | depart : CommandEffect (·.depart 0)
  | leavePending : CommandEffect State.leavePending
  | enterLeaving : CommandEffect State.enterLeaving
  | enterListening : CommandEffect State.enterListening

theorem commandEffect_judgeWord (code low : Byte) (s : State) : CommandEffect (judgeWord code low s).2 := by
  generalize hj : judgeWord code low = judge
  unfold judgeWord at hj
  split at hj <;> subst hj
  · unfold judgeCommit
    split
    · exact .nothing
    · exact .close
  · unfold judgeClaim
    split
    · exact .nothing
    split
    · exact .nothing
    split
    · exact .nothing
    split
    · exact .nothing
    · exact .claim _
  · unfold judgeRefresh
    split
    · exact .nothing
    split
    · exact .nothing
    split
    · exact .nothing
    · exact .stale _
    · exact .endHold _
    · exact .nothing
  · unfold judgeLeave
    split
    · exact .depart
    · exact .depart
    · split
      · exact .nothing
      · dsimp only
        exact .leavePending
    · dsimp only
      exact .enterLeaving
    all_goals exact .nothing
  · unfold judgeRejoin
    split
    · exact .enterListening
    · exact .nothing
  · exact .nothing

theorem CommandEffect.setting {f : State → State} (h : CommandEffect f) (u : State) : (f u).setting = u.setting := by
  cases h <;> simp

@[simp] theorem State.setting_command (s : State) (w : Word) : (s.command w).setting = s.setting := by
  unfold State.command State.commandWith
  split
  · rfl
  · exact (commandEffect_judgeWord _ _ s).setting _

/-! ## What a command is -/

/-- A command other than RESET is an event, an event that a port access brings, or a port access alone, whose effect f
keeps the setting; or nothing at all. -/
inductive Effects (c : Instr) : Prop
  | event (f : State → State) (keeps : ∀ u, (f u).setting = u.setting) (row : ∀ s, exec c s = .next (s.event f))
  | portEvent (f : State → State) (keeps : ∀ u, (f u).setting = u.setting) (row : ∀ s, exec c s = .next (s.portEvent f))
  | portAccess (f : State → State) (keeps : ∀ u, (f u).setting = u.setting)
      (row : ∀ s, exec c s = .next (s.portAccess f))
  | nothing (row : ∀ s, exec c s = .next s)

theorem effects_of_not_isReset {c : Instr} (h : isReset c = false) : Effects c := by
  cases c with
  | resetAssert | resetRelease => cases h
  | localWrite addr x =>
    by_cases inside : addr.toNat < 8192
    · exact .portEvent (·.writeLatched ⟨addr.toNat, inside⟩ x) (by simp)
        (fun s => congrArg Host.Outcome.next (dif_pos inside))
    · exact .nothing (fun s => congrArg Host.Outcome.next (dif_neg inside))
  | commit | claim | refresh | leave | rejoin | commandUnknown => exact .portEvent _ (by simp) (fun _ => rfl)
  | incidentAck | unrecordedMaskWrite | noticeRead | watchMapWrite => exact .portAccess _ (by simp) (fun _ => rfl)
  | stationAreaWriteIgnored => exact .nothing (fun _ => rfl)
  | _ => exact .event _ (by simp) (fun _ => rfl)

/-- Settles O5: an event keeps the setting where its effect does, and so does an access. -/
theorem commandsKeepSetting : Obligations.CommandsKeepSetting := by
  intro c s t hc ht
  cases effects_of_not_isReset hc with
  | event f keeps row =>
    cases (row s).symm.trans ht
    exact s.setting_event f keeps
  | portEvent f keeps row =>
    cases (row s).symm.trans ht
    exact s.setting_portEvent f keeps
  | portAccess f keeps row =>
    cases (row s).symm.trans ht
    unfold State.portAccess
    split
    · exact keeps s
    · rfl
  | nothing row =>
    cases (row s).symm.trans ht
    rfl

/-! ## RESET low (R175) -/

section
variable {s : State} (low : s.resetLow = true)
include low

theorem State.event_of_resetLow (f : State → State) : s.event f = s := if_pos low

theorem State.not_portFree_of_resetLow : ¬ s.portFree = true := by simp [State.portFree, low]

theorem State.portEvent_of_resetLow (f : State → State) : s.portEvent f = s :=
  if_neg (State.not_portFree_of_resetLow low)

theorem State.portAccess_of_resetLow (f : State → State) : s.portAccess f = s :=
  if_neg (State.not_portFree_of_resetLow low)

theorem exec_of_resetLow {c : Instr} (hc : isReset c = false) : exec c s = .next s := by
  cases effects_of_not_isReset hc with
  | event f _ row => rw [row, State.event_of_resetLow low]
  | portEvent f _ row => rw [row, State.portEvent_of_resetLow low]
  | portAccess f _ row => rw [row, State.portAccess_of_resetLow low]
  | nothing row => exact row s

/-! What the outside sees while RESET is low. -/

theorem State.waitPin_of_resetLow : s.waitPin = false := by simp [State.waitPin, low]

theorem State.attnPin_of_resetLow : s.attnPin = false := by simp [State.attnPin, low]

theorem State.txenPin_of_resetLow (l : LaneId) : s.txenPin l = false := by simp [State.txenPin, low]

theorem State.readPort_of_resetLow (a : BitVec 14) : s.readPort a = 0 := if_pos low

end

/-- RESET stops what the station sends on either lane. -/
theorem State.access_resetFalls (s : State) (l : LaneId) : (s.resetFalls.lane l).access = .idle := by
  have lanes : s.resetFalls.lane l = s.silence.lane l := by cases l <;> rfl
  obtain ⟨_, _, idle⟩ := s.lane_silence l
  rw [lanes, idle]

/-- Settles O4: RESET falls, and while it is low no event and no access takes place. -/
theorem resetAssertSilences : Obligations.ResetAssertSilences := by
  intro s
  have low : s.resetFalls.resetLow = true := rfl
  exact ⟨⟨s.resetFalls, rfl, low, State.waitPin_of_resetLow low, State.attnPin_of_resetLow low,
    State.txenPin_of_resetLow low .A, State.txenPin_of_resetLow low .B, rfl, rfl, rfl, s.access_resetFalls,
    State.readPort_of_resetLow low⟩, fun low _ hc => exec_of_resetLow low hc⟩

/-! ## RESET released (R175) -/

theorem State.entry_released (stn : Station) (dual : Bool) (rate : BitVec 2) (b : Block) :
    (State.released stn dual rate).entry b = DirEntry.reset := look_replicate _ b

theorem State.peer_released (stn : Station) (dual : Bool) (rate : BitVec 2) (p : Station) :
    (State.released stn dual rate).peer p = Peer.empty := look_replicate _ p

/-- Settles O3: the released station, field by field. -/
theorem resetReleaseGivesResetValues : Obligations.ResetReleaseGivesResetValues := by
  intro stn dual rate s
  exact ⟨(State.released stn dual rate).setPending s.pending, rfl, rfl, rfl, rfl, rfl, rfl, rfl, rfl, rfl, rfl, rfl,
    rfl, rfl, rfl, fun _ => rfl, State.entry_released stn dual rate, State.peer_released stn dual rate, rfl, rfl, rfl,
    rfl, rfl, rfl, rfl, rfl, rfl, rfl, rfl, rfl, rfl⟩

end Sys2Proof.Machine
end

section
/-! The Incident Log, the notice queue and ATTN at the local port: records numbered and acknowledged, classes marked and cleared, notices read, and the conditions of ATTN (R23, R167, R169 to R172). -/

namespace Sys2Proof.Machine

/-- A port access that the port takes is its effect, and no more. -/
theorem State.portAccess_of_free {s : State} (h : s.portFree = true) (f : State → State) : s.portAccess f = f s :=
  if_pos h

/-! ## Numbering (R167) -/

/-- The codes of Table 11-3 begin at 1. -/
theorem IncidentClass.code_pos (c : IncidentClass) : 0 < c.code := by cases c <;> decide

/-- The codes of Table 11-3 end at 16. -/
theorem IncidentClass.code_le (c : IncidentClass) : c.code ≤ 16 := by cases c <;> decide

/-- A class marked beside the others: bit c - 1 is the flag of class c (R170). -/
theorem getLsbD_marked (mask : Word) (cls : IncidentClass) (c : Fin 16) :
    (mask ||| (1#16 <<< (cls.code - 1))).getLsbD c.val = (mask.getLsbD c.val || decide (c.val + 1 = cls.code)) := by
  have code := cls.code_pos
  have flag : (!decide (c.val < cls.code - 1) && decide (c.val - (cls.code - 1) = 0)) = decide (c.val + 1 = cls.code) := by
    rw [← decide_not, ← Bool.decide_and]
    exact decide_eq_decide.mpr (by omega)
  rw [BitVec.getLsbD_or, BitVec.getLsbD_shiftLeft, BitVec.getLsbD_one, ← flag]
  simp [c.isLt]

section
variable (g : IncidentLog) (clock : Clock) (o : Offer)

theorem IncidentLog.record_of_room (h : g.records.length < 8) : g.record clock o = { g with
    records := g.records ++ [{ number := g.counter, time := clock, what := o }], counter := g.counter + 1 } := if_pos h

theorem IncidentLog.record_of_full (h : 8 ≤ g.records.length) : g.record clock o = { g with
    mask := g.mask ||| (1#16 <<< (o.cls.code - 1)), counter := g.counter + 1 } := if_neg (Nat.not_lt.mpr h)

end

/-- Settles O18: by whether the list has room. -/
theorem incidentsAreNumbered : Obligations.IncidentsAreNumbered := by
  intro g clock o
  refine ⟨?_, fun room => ?_, fun full => ?_⟩
  · obtain room | full := Nat.lt_or_ge g.records.length 8
    · rw [g.record_of_room clock o room]
    · rw [g.record_of_full clock o full]
  · rw [g.record_of_room clock o room]
    exact ⟨rfl, rfl⟩
  · rw [g.record_of_full clock o full]
    exact ⟨rfl, getLsbD_marked g.mask o.cls⟩

/-! ## Acknowledgement (R169) -/

theorem IncidentLog.ack_head {g : IncidentLog} {i : Incident} {rest : List Incident} (h : g.records = i :: rest) :
    g.ack i.number = { g with records := rest } := by
  rw [IncidentLog.ack, h]
  exact if_pos rfl

theorem IncidentLog.ack_other {g : IncidentLog} {i : Incident} {rest : List Incident} {w : Word}
    (h : g.records = i :: rest) (hw : i.number ≠ w) : g.ack w = g := by
  rw [IncidentLog.ack, h]
  exact if_neg hw

theorem IncidentLog.ack_nil {g : IncidentLog} (h : g.records = []) (w : Word) : g.ack w = g := by
  rw [IncidentLog.ack, h]

theorem exec_incidentAck {s : State} (h : s.portFree = true) (w : Word) :
    exec (.incidentAck w) s = .next (s.setLog (s.log.ack w)) :=
  congrArg Host.Outcome.next (State.portAccess_of_free h _)

/-- Settles O11: by the list and its head. -/
theorem incidentAckPopsHead : Obligations.IncidentAckPopsHead := by
  intro w s h
  refine ⟨?_, ?_, ?_, ?_⟩
  · rintro i rest records rfl
    rw [exec_incidentAck h, IncidentLog.ack_head records]
  · intro i rest records other
    rw [exec_incidentAck h, IncidentLog.ack_other records other]
    rfl
  · intro empty
    rw [exec_incidentAck h, IncidentLog.ack_nil empty]
    rfl
  · exact State.readPort_area (State.resetLow_of_portFree h) (n := 0x200F) (by decide) (by decide)

/-! ## The unrecorded mask (R170) -/

theorem exec_unrecordedMaskWrite {s : State} (h : s.portFree = true) (w : Word) :
    exec (.unrecordedMaskWrite w) s = .next (s.setLog { s.log with mask := s.log.mask &&& ~~~w }) :=
  congrArg Host.Outcome.next (State.portAccess_of_free h _)

/-- The flags written as 1 are cleared, at any bit of the word. -/
theorem getLsbD_cleared (mask w : Word) {i : Nat} (hi : i < 16) :
    (mask &&& ~~~w).getLsbD i = (mask.getLsbD i && !w.getLsbD i) := by
  rw [BitVec.getLsbD_and, BitVec.getLsbD_not, decide_eq_true hi, Bool.true_and]

/-- Settles O12: each flag by the bit that stands for its class. -/
theorem maskWriteClearsOnes : Obligations.MaskWriteClearsOnes := by
  intro w s h
  refine ⟨State.readPort_area (State.resetLow_of_portFree h) (n := 0x2011) (by decide) (by decide),
    _, exec_unrecordedMaskWrite h w, rfl, fun cls => ?_⟩
  have code := cls.code_pos
  have codes := cls.code_le
  exact getLsbD_cleared s.log.mask w (by omega)

/-! ## Notices (R23, R171) -/

section
variable {p : LocalPort}

theorem LocalPort.readNotice_cons {b : Block} {rest : List Block} (h : p.notices = b :: rest) :
    p.readNotice = { p with notices := rest, dataOut := BitVec.ofNat 16 b.val } := by
  simp only [LocalPort.readNotice, LocalPort.noticeWord, h]

theorem LocalPort.readNotice_nil (h : p.notices = []) :
    p.readNotice = { p with overflow := false, dataOut := p.noticeWord } := by
  simp only [LocalPort.readNotice, h]

theorem LocalPort.noticeWord_cons {b : Block} {rest : List Block} (h : p.notices = b :: rest) :
    p.noticeWord = BitVec.ofNat 16 b.val := by
  rw [LocalPort.noticeWord, h]

theorem LocalPort.noticeWord_empty (h : p.notices = []) (kept : p.overflow = false) : p.noticeWord = 0xFFFF := by
  rw [LocalPort.noticeWord, h, kept]
  rfl

theorem LocalPort.noticeWord_overflow (h : p.notices = []) (lost : p.overflow = true) : p.noticeWord = 0xFFFE := by
  rw [LocalPort.noticeWord, h, lost]
  rfl

end

section
variable {s : State} (h : s.portFree = true)
include h

theorem exec_noticeRead : exec .noticeRead s = .next (s.setPort s.port.readNotice) :=
  congrArg Host.Outcome.next (State.portAccess_of_free h _)

theorem State.readPort_notice : s.readPort 0x2012 = s.port.noticeWord :=
  State.readPort_area (State.resetLow_of_portFree h) (n := 0x2012) (by decide) (by decide)

end

/-- Teardown does not touch the local port (Table 5-3). -/
theorem State.port_teardown (s : State) (new : StationState) : (s.teardown new).port = s.port := by
  rw [State.teardown_eq, State.silence_eq, State.reported_eq]
  rfl

/-- Settles O13: what a read gives and leaves, by the queue and its flag; then what leaves both alone, and RESET. -/
theorem noticeReadPops : Obligations.NoticeReadPops := by
  intro s
  refine ⟨fun h => ⟨fun b rest waiting => ?_, fun empty kept => ?_, fun empty lost => ?_⟩, fun _ => rfl,
    fun low => exec_of_resetLow low rfl, s.port_teardown, fun _ _ _ => ⟨_, rfl, rfl, rfl⟩⟩
  · rw [State.readPort_notice h, exec_noticeRead h, LocalPort.readNotice_cons waiting]
    exact ⟨LocalPort.noticeWord_cons waiting, rfl⟩
  · have word := LocalPort.noticeWord_empty empty kept
    rw [State.readPort_notice h, exec_noticeRead h, LocalPort.readNotice_nil empty, word, ← kept]
    exact ⟨rfl, rfl⟩
  · have word := LocalPort.noticeWord_overflow empty lost
    rw [State.readPort_notice h, exec_noticeRead h, LocalPort.readNotice_nil empty, word]
    exact ⟨rfl, rfl⟩

/-! ## ATTN (R172) -/

theorem State.attnPin_iff {s : State} (high : s.resetLow = false) : s.attnPin = true
    ↔ s.log.records ≠ [] ∨ s.log.mask ≠ 0 ∨ s.port.notices ≠ [] ∨ s.port.overflow = true := by
  simp [State.attnPin, high, or_assoc]

/-- Settles O15: the line's conditions, and RESET. -/
theorem attnFollowsItsConditions : Obligations.AttnFollowsItsConditions := by
  intro s
  exact ⟨State.attnPin_iff, State.attnPin_of_resetLow, fun _ _ _ => ⟨_, rfl, rfl⟩⟩

end Sys2Proof.Machine
end

section
/-! The COMMAND word: the row a word names, the result each row's table gives, and that the event changes neither word again (R31, R46, R78, R86, R100, R114, R173, R174, Tables 3-2, 5-9, 6-3 and 11-4). -/

namespace Sys2Proof.Machine

/-! ## The code in the high byte (R173, Table 11-4) -/

theorem byteOf_blockAt (low : Byte) : byteOf (blockAt low).val = low := by
  simp [byteOf, blockAt]

/-- A code is one of the five of Table 11-4, or one that the table lacks. -/
theorem code_cases (code : Byte) :
    code = 1 ∨ code = 2 ∨ code = 3 ∨ code = 4 ∨ code = 5 ∨ code = 0 ∨ 5 < code.toNat := by
  bv_omega

section
variable {code : Byte} (unknown : code = 0 ∨ 5 < code.toNat)
include unknown

theorem ne_of_unknown : code ≠ 1 ∧ code ≠ 2 ∧ code ≠ 3 ∧ code ≠ 4 ∧ code ≠ 5 := by
  bv_omega

theorem not_listed_of_unknown : ¬ (1 ≤ code.toNat ∧ code.toNat ≤ 5) := by
  bv_omega

theorem judgeWord_unknown (low : Byte) : judgeWord code low = judgeUnknown := by
  have unlisted := not_listed_of_unknown unknown
  unfold judgeWord
  split
  case h_6 => rfl
  all_goals omega

theorem commandOfWord_unknown (low : Byte) : commandOfWord (wordOf code low) = .commandUnknown code low := by
  have unlisted := not_listed_of_unknown unknown
  unfold commandOfWord
  rw [hiByte_wordOf, loByte_wordOf]
  split
  case h_6 => rfl
  all_goals omega

end

/-- The row a word names, by the code in its high byte. -/
theorem commandOfWord_wordOf (code low : Byte) : commandOfWord (wordOf code low) =
    if code = 1 then .commit low else if code = 2 then .claim (blockAt low) else if code = 3 then .refresh (blockAt low)
    else if code = 4 then .leave low else if code = 5 then .rejoin low else .commandUnknown code low := by
  obtain rfl | rfl | rfl | rfl | rfl | unknown := code_cases code
  case inr.inr.inr.inr.inr =>
    obtain ⟨n1, n2, n3, n4, n5⟩ := ne_of_unknown unknown
    rw [commandOfWord_unknown unknown, if_neg n1, if_neg n2, if_neg n3, if_neg n4, if_neg n5]
  all_goals
    unfold commandOfWord
    rw [hiByte_wordOf, loByte_wordOf]
    rfl

/-- A row that takes a block, where the block is the one the low byte names. -/
theorem exec_blockAt {c : Block → Instr} {code : Byte} {s : State}
    (row : ∀ b : Block, exec (c b) s = .next (s.portEvent (·.command (wordOf code (byteOf b.val))))) (low : Byte) :
    exec (c (blockAt low)) s = .next (s.portEvent (·.command (wordOf code low))) := by
  rw [row, byteOf_blockAt]

/-- Whatever row a word names, that row is the event of a write of the word. -/
theorem exec_commandOfWord (w : Word) (s : State) : exec (commandOfWord w) s = .next (s.portEvent (·.command w)) := by
  rw [← wordOf_hi_lo w]
  generalize hiByte w = code
  generalize loByte w = low
  rw [commandOfWord_wordOf]
  split
  · next h => subst h; rfl
  split
  · next h => subst h; exact exec_blockAt (fun _ => rfl) low
  split
  · next h => subst h; exact exec_blockAt (fun _ => rfl) low
  split
  · next h => subst h; rfl
  split
  · next h => subst h; rfl
  · rfl

/-! ## The address of a write (R1, R174, Table 11-5) -/

theorem commandOfWrite_window (a : WindowAddr) (w : Word) :
    commandOfWrite (BitVec.ofNat 14 a.val) w = .localWrite (BitVec.ofNat 14 a.val) w := by
  have inside : (BitVec.ofNat 14 a.val).toNat < 0x2000 := by
    rw [BitVec.toNat_ofNat]
    omega
  exact if_pos inside

theorem commandOfWrite_watch (i : Fin 16) (w : Word) :
    commandOfWrite (BitVec.ofNat 14 (0x2020 + i.val)) w = .watchMapWrite i w := by
  have addr : (BitVec.ofNat 14 (0x2020 + i.val)).toNat = 0x2020 + i.val := by
    rw [BitVec.toNat_ofNat]
    omega
  unfold commandOfWrite
  simp (disch := omega) only [addr, if_neg, if_pos, Nat.add_sub_cancel_left]
  rw [Fin.ofNat_val_eq_self]

/-! ## The result (R78, R173) -/

/-- The result of a COMMAND: REFUSED-STATE in OFFLINE, else by the code's own table. -/
def State.commandResult (s : State) (code low : Byte) : CommandResult :=
  if s.state = .offline then .refusedState else (judgeWord code low s).1

theorem CommandEffect.commandWords {f : State → State} (h : CommandEffect f) (u : State) :
    (f u).commandWords = u.commandWords := by
  cases h <;> simp

/-- Both words are the row's own: no effect of a COMMAND changes them (R173). -/
theorem State.commandWords_command (s : State) (code low : Byte) : (s.command (wordOf code low)).commandWords
    = (wordOf code low, wordOf code (s.commandResult code low).code) := by
  unfold State.command State.commandWith State.commandResult
  rw [hiByte_wordOf, loByte_wordOf]
  split
  · rfl
  · exact (commandEffect_judgeWord code low s).commandWords _

/-- The number of the event does not bear on a result. -/
theorem State.commandResult_tickStamp (s : State) (code low : Byte) :
    s.tickStamp.commandResult code low = s.commandResult code low := by
  have judged : (judgeWord code low s.tickStamp).1 = (judgeWord code low s).1 := by
    generalize hj : judgeWord code low = judge
    unfold judgeWord at hj
    split at hj <;> subst hj <;> rfl
  rw [State.commandResult, judged]
  rfl

/-- A COMMAND row places the code written and the result, whatever else its event brings. -/
theorem exec_places {s : State} {c : Instr} {code low r : Byte} (hp : s.portFree = true)
    (row : exec c s = .next (s.portEvent (·.command (wordOf code low)))) (hr : (s.commandResult code low).code = r) :
    ∃ t, exec c s = .next t ∧ t.port.command = wordOf code low ∧ t.port.result = wordOf code r := by
  have words : (s.portEvent (·.command (wordOf code low))).commandWords = (wordOf code low, wordOf code r) := by
    rw [State.portEvent_of_free hp, State.commandWords_settleEvent, State.commandWords_command,
      State.commandResult_tickStamp, hr]
  obtain ⟨command, result⟩ := Prod.mk.inj words
  exact ⟨_, row, command, result⟩

/-! ## The tables of the rows (Tables 3-2, 5-9, 6-3) -/

section
variable (s : State)

/-- A table that refuses an OFFLINE station for its state gives the result itself. -/
theorem State.commandResult_of_refuses {s : State} {code low : Byte}
    (h : s.state = .offline → (judgeWord code low s).1 = .refusedState) :
    s.commandResult code low = (judgeWord code low s).1 := by
  unfold State.commandResult
  split
  · next offline => exact (h offline).symm
  · rfl

theorem State.commandResult_commit (low : Byte) :
    (s.commandResult 1 low).code = if s.member.state = .live then 1 else 2 := by
  have refuses : s.state = .offline → (judgeCommit s).1 = .refusedState := fun h => by simp [judgeCommit, h]
  rw [State.commandResult_of_refuses (by exact refuses)]
  show (judgeCommit s).1.code = _
  simp only [judgeCommit, apply_ite Prod.fst, apply_ite CommandResult.code, ite_not]
  rfl

theorem State.commandResult_claim (b : Block) : (s.commandResult 2 (byteOf b.val)).code
    = if s.member.state ≠ .live then 2 else if s.owned b then 4 else if (s.claimSlot b).isSome then 1
      else if 4 ≤ s.claim.slots.length then 3 else 1 := by
  have judge : judgeWord 2 (byteOf b.val) s = judgeClaim b s := by
    show judgeClaim (blockAt (byteOf b.val)) s = _
    rw [blockAt_byteOf]
  have refuses : s.state = .offline → (judgeClaim b s).1 = .refusedState := fun h => by simp [judgeClaim, h]
  rw [State.commandResult_of_refuses (judge ▸ refuses), judge]
  simp only [judgeClaim, apply_ite Prod.fst, apply_ite CommandResult.code]
  rfl

theorem State.commandResult_refresh {s : State} {b : Block} (known : s.member.state = .live → (s.entry b).copy ≠ .unknown) :
    (s.commandResult 3 (byteOf b.val)).code
      = if s.member.state ≠ .live then 2 else if s.owned b then 4 else if (s.entry b).copy = .fetching then 3 else 1 := by
  have judge : judgeWord 3 (byteOf b.val) s = judgeRefresh b s := by
    show judgeRefresh (blockAt (byteOf b.val)) s = _
    rw [blockAt_byteOf]
  have refuses : s.state = .offline → (judgeRefresh b s).1 = .refusedState := fun h => by simp [judgeRefresh, h]
  rw [State.commandResult_of_refuses (judge ▸ refuses), judge]
  simp only [judgeRefresh, apply_ite Prod.fst, apply_ite CommandResult.code]
  refine ite_congr rfl (fun _ => rfl) (fun live => ite_congr rfl (fun _ => rfl) (fun _ => ?_))
  have known := known (not_not.mp live)
  cases copy : (s.entry b).copy with
  | unknown => exact absurd copy known
  | stale | fetching | current => rfl

theorem State.commandResult_leave (low : Byte) : s.commandResult 4 low = (judgeLeave s).1 :=
  State.commandResult_of_refuses (fun h => by
    show (judgeLeave s).1 = _
    simp [judgeLeave, h])

theorem State.commandResult_rejoin (low : Byte) : (s.commandResult 5 low).code
    = if s.member.state = .departed ∨ s.member.state = .halted then 1 else 2 := by
  have refuses : s.state = .offline → (judgeRejoin s).1 = .refusedState := fun h => by simp [judgeRejoin, h]
  rw [State.commandResult_of_refuses (by exact refuses)]
  show (judgeRejoin s).1.code = _
  simp only [judgeRejoin, apply_ite Prod.fst, apply_ite CommandResult.code]
  rfl

theorem State.commandResult_unknown {code : Byte} (unknown : code = 0 ∨ 5 < code.toNat) (low : Byte) :
    (s.commandResult code low).code = if s.member.state = .offline then 2 else 4 := by
  unfold State.commandResult
  rw [judgeWord_unknown unknown, apply_ite CommandResult.code]
  rfl

/-- A COMMAND of an unknown code changes the two words and nothing else. -/
theorem State.command_unknown {code : Byte} (unknown : code = 0 ∨ 5 < code.toNat) (low : Byte) :
    s.command (wordOf code low) = s.setPort { s.port with
      command := wordOf code low, result := wordOf code (if s.member.state = .offline then 2 else 4) } := by
  unfold State.command
  rw [hiByte_wordOf, loByte_wordOf, judgeWord_unknown unknown]
  by_cases offline : s.member.state = .offline
  · rw [if_pos offline, if_pos (by exact offline)]
    rfl
  · rw [if_neg offline, if_neg (by exact offline)]
    rfl

end

/-- Settles O19: each row by its own table; then the row of a word, and the row of a write. -/
theorem commandsGiveResults : Obligations.CommandsGiveResults := by
  refine ⟨?_, commandOfWord_wordOf, exec_commandOfWord,
    fun w => ⟨fun a => commandOfWrite_window a w, rfl, rfl, rfl, fun i => commandOfWrite_watch i w⟩⟩
  intro s hp off
  refine ⟨?_, ?_, ?_, ?_, ?_, ?_, ?_⟩
  · exact fun low => exec_places hp rfl (s.commandResult_commit low)
  · exact fun b => exec_places hp rfl (s.commandResult_claim b)
  · exact fun b known => exec_places hp rfl (State.commandResult_refresh known)
  · intro low
    refine exec_places hp rfl ?_
    rw [s.commandResult_leave, judgeLeave, State.state]
    cases s.member.state with
    | catchup => cases s.member.leavePending <;> rfl
    | _ => rfl
  · exact fun low => exec_places hp rfl (s.commandResult_rejoin low)
  · exact fun code low unknown => exec_places hp rfl (s.commandResult_unknown unknown low)
  · intro code low unknown t still
    show Host.Outcome.next (s.portEvent (·.command (wordOf code low))) = _
    rw [State.portEvent_of_free hp, s.tickStamp.command_unknown unknown]
    exact congrArg Host.Outcome.next (State.settleEvent_of_still still)

end Sys2Proof.Machine
end

section
/-! One character time: what every timer counts, and which rows the timers at their limits put into the queue (R166, log entry 2). -/

namespace Sys2Proof.Machine

/-! ## The free order of what falls due (log entry 3) -/

/-- A free order leaves nothing out and adds nothing. -/
theorem arrange_perm {α : Type} (fuel n : Nat) (xs : List α) : (arrange fuel n xs).1.Perm xs := by
  induction fuel generalizing n xs with
  | zero => exact .refl xs
  | succ fuel ih =>
    unfold arrange
    split
    · exact .refl xs
    · split
      · exact .refl xs
      · next x taken =>
        obtain ⟨inside, rfl⟩ := List.getElem?_eq_some_iff.mp taken
        exact ((ih (n + 1) _).cons _).trans (List.getElem_cons_eraseIdx_perm inside)

/-- The queue and the free choices taken do not bear on what falls due. -/
theorem State.dueRows_of_queue (s : State) (queue : List Instr) (choices : Nat) :
    { s with pending := queue, freeCount := choices }.dueRows = s.dueRows := rfl

/-- Into an empty queue come the rows that fall due, and nothing else changes but the free choices taken. -/
theorem State.queueDue_of_empty {s : State} (empty : s.pending = []) : ∃ queue choices,
    s.queueDue = { s with pending := queue, freeCount := choices } ∧ ∀ c, c ∈ queue ↔ c ∈ s.dueRows := by
  refine ⟨_, _, rfl, fun c => ?_⟩
  rw [empty, List.nil_append, (arrange_perm _ _ _).mem_iff]

/-! ## The rows of a timer, and those of a lane -/

theorem mem_rowAt {t : Option Nat} {limit : Nat} {row c : Instr} : c ∈ rowAt t limit row ↔ t = some limit ∧ c = row := by
  unfold rowAt
  split <;> simp [*]

/-- The row comes of what a lane sends or hears (R141 to R143, R149, R150). -/
def isLaneRow : Instr → Bool
  | .attemptStart _ | .collision _ _ | .abortMarkEnd _ | .frameSent _ | .stuckLine _ | .badFrameReceived _
  | .probationFrameReceived _ | .statusReceived _ | .joinReceived _ | .admitReceived _ | .updateReceived _
  | .claimReceived _ | .handoverReceived _ | .excludeReceived _ | .fetchReceived _ | .copyReceived _
  | .snapqReceived _ | .snapReceived _ | .queryReceived _ | .versionsReceived _ | .settleReceived _
  | .digestReceived _ => true
  | _ => false

section
variable {s : State} {l : LaneId} {c : Instr}

theorem State.isLaneRow_frameRow (s : State) (l : LaneId) (f : FrameBuffer) : isLaneRow (s.frameRow l f) = true := by
  unfold State.frameRow
  extract_lets rx
  split
  · rfl
  · split
    · rfl
    · cases (Kind.ofCode (f.chars.getD 0 0)).getD .status <;> rfl

theorem State.isLaneRow_of_mem_lineRows (h : c ∈ s.lineRows l) : isLaneRow c = true := by
  unfold State.lineRows at h
  split at h
  · obtain frame | stuck := List.mem_append.mp h
    · split at frame
      · rw [List.mem_singleton.mp frame]
        exact s.isLaneRow_frameRow l _
      · cases frame
    · split at stuck
      · rw [List.mem_singleton.mp stuck]
        rfl
      · cases stuck
  · cases h

/-- The rows of a lane that are not of its line or its controller: the end of a rest (R147). -/
theorem State.mem_laneRows (hc : isLaneRow c = false) :
    c ∈ s.laneRows l ↔ (s.lane l).rest = some 65536 ∧ c = .laneRestEnd l := by
  have line : c ∉ s.lineRows l := fun h => by simp [State.isLaneRow_of_mem_lineRows h] at hc
  unfold State.laneRows
  rw [List.mem_append, List.mem_append, mem_rowAt, or_iff_left line]
  refine or_iff_left (fun h => ?_)
  cases access : (s.lane l).access with
  | idle => simp [access] at h
  | deferring =>
    simp only [access] at h
    obtain ⟨_, rfl⟩ := mem_rowAt.mp h
    cases hc
  | sending =>
    simp only [access] at h
    split at h
    · obtain ⟨_, rfl⟩ := mem_rowAt.mp h
      cases hc
    · obtain rfl := List.mem_singleton.mp h
      cases hc
  | aborting =>
    simp only [access] at h
    obtain ⟨_, rfl⟩ := mem_rowAt.mp h
    cases hc

end

/-! ## The rows that fall due -/

/-- A timer's row falls due where that timer stands at its limit, and nowhere else. -/
theorem State.mem_dueRows {s : State} {c : Instr} (hc : isLaneRow c = false) : c ∈ s.dueRows ↔
    ((∃ b, s.write.batch = some b ∧ b.age = 128) ∧ c = .batchHold)
    ∨ ((∃ w, s.write.waiting = some w ∧ w.waited = 8192) ∧ c = .waitLimit)
    ∨ (∃ x ∈ s.claim.slots, x.timer = some 1024 ∧ c = .claimTimeout x.block)
    ∨ ((∃ e rest, s.seq.queue = e :: rest ∧ e.timer = some 512) ∧ c = .replayTimeout)
    ∨ ((s.seq.urgent = false ∧ s.seq.age = some 64) ∧ c = .receiptAgeLimit)
    ∨ (s.member.listen = some 8192 ∧ c = .listenTimeout)
    ∨ (s.member.join = some 2048 ∧ c = .joinTimeout)
    ∨ (∃ p ∈ stations, (s.peer p).silence = some 6144 ∧ c = .silenceTimeout p)
    ∨ (s.copy.snapq = some 1024 ∧ c = .snapqTimeout)
    ∨ (∃ x ∈ s.copy.slots, some x.timer = some 512 ∧ c = .fetchTimeout x.block)
    ∨ (∃ h ∈ s.copy.holds, some h.2 = some 2048 ∧ c = .holdEnd h.1)
    ∨ (s.settle.queryTimer = some 1024 ∧ c = .queryTimeout)
    ∨ (s.settle.deference = some 4096 ∧ c = .deferenceEnd)
    ∨ (s.audit.timer = some 512 ∧ c = .digestTimeout)
    ∨ (s.select.heartbeat = some 2048 ∧ c = .heartbeatTimeout)
    ∨ (∃ l, (s.lane l).rest = some 65536 ∧ c = .laneRestEnd l) := by
  have head : s.headTimer = some 512 ↔ ∃ e rest, s.seq.queue = e :: rest ∧ e.timer = some 512 := by
    unfold State.headTimer
    cases s.seq.queue <;> simp
  have age : c ∈ (if s.seq.urgent then [] else rowAt s.seq.age Config.receiptAge .receiptAgeLimit)
      ↔ (s.seq.urgent = false ∧ s.seq.age = some 64) ∧ c = .receiptAgeLimit := by
    cases s.seq.urgent <;> simp [mem_rowAt, Config.receiptAge]
  have lanes : c ∈ s.laneRows .A ∨ c ∈ s.laneRows .B ↔ ∃ l, (s.lane l).rest = some 65536 ∧ c = .laneRestEnd l := by
    rw [State.mem_laneRows hc, State.mem_laneRows hc]
    exact ⟨fun h => h.elim (⟨.A, ·⟩) (⟨.B, ·⟩), fun ⟨l, h⟩ => by cases l <;> simp [h]⟩
  unfold State.dueRows
  simp only [List.mem_append, List.mem_flatMap, mem_rowAt, Option.map_eq_some_iff, age, or_assoc, lanes, ← head]
  rfl

/-! ## One character time -/

theorem State.peer_tick (s : State) (p : Station) :
    s.tick.peer p = { s.peer p with silence := (s.peer p).silence.map (· + 1) } := look_mapTable _ _ p

/-- A DOWN lane rests (R147). -/
theorem Lane.rest_tick {lane : Lane} (down : lane.state = .down) (sent : Byte) :
    (lane.tick sent).rest = lane.rest.map (· + 1) := by
  rw [Lane.tick, down]
  rfl

theorem State.rest_tick {s : State} {l : LaneId} (down : (s.lane l).state = .down) :
    (s.tick.lane l).rest = (s.lane l).rest.map (· + 1) := by
  cases l with
  | A => exact Lane.rest_tick (lane := s.laneA) down _
  | B => exact Lane.rest_tick (lane := s.laneB) down _

theorem step_of_empty {s : State} (empty : s.pending = []) (high : s.resetLow = false) :
    step s = .next s.tick.queueDue := by
  rw [step, empty]
  exact congrArg Host.Outcome.next (if_neg (by rw [high]; exact Bool.false_ne_true))

/-- Settles O2: what every unit's timer counts, then each row by the timer that brings it. -/
theorem idleStepIsOneCharacterTime : Obligations.IdleStepIsOneCharacterTime := by
  intro s empty high
  obtain ⟨queue, choices, queued, due⟩ := State.queueDue_of_empty (s := s.tick) empty
  refine ⟨{ s.tick with pending := queue, freeCount := choices }, (step_of_empty empty high).trans (congrArg _ queued),
    rfl, rfl, rfl, rfl, rfl, rfl, rfl, rfl, rfl, rfl, rfl, rfl, rfl, rfl, rfl, rfl, s.peer_tick, rfl, rfl, rfl, rfl, rfl,
    rfl, rfl, fun l => State.rest_tick, ?_⟩
  have due : ∀ c, c ∈ { s.tick with pending := queue, freeCount := choices }.pending
      ↔ c ∈ { s.tick with pending := queue, freeCount := choices }.dueRows := due
  generalize { s.tick with pending := queue, freeCount := choices } = t at due
  simp only [due]
  refine ⟨?_, ?_, ?claim, ?_, ?_, ?_, ?_, ?silence, ?_, ?fetch, ?_, ?_, ?_, ?_, ?_, ?_⟩
  case claim | fetch =>
    intro b
    rw [State.mem_dueRows rfl]
    simp [eq_comm (a := b), and_comm]
  case silence =>
    intro p hp
    rw [State.mem_dueRows rfl]
    simp [mem_stations, hp]
  all_goals
    intros
    rw [State.mem_dueRows rfl]
    simp

end Sys2Proof.Machine
end

section
/-! A command at the front of the queue: a step takes it off and runs it on what is left. -/

namespace Sys2Proof.Machine

/-- A queue that is set again is as if it had been set once. -/
@[simp] theorem State.setPending_setPending (s : State) (old new : List Instr) :
    (s.setPending old).setPending new = s.setPending new := rfl

theorem step_of_cons {s : State} {c : Instr} {rest : List Instr} (queued : s.pending = c :: rest) :
    step s = exec c (s.setPending rest) := by
  rw [step, queued]

/-- Settles O1: the step takes the front of the queue that was set, and its own setting of the rest replaces that queue. -/
theorem stepRunsFront : Obligations.StepRunsFront := by
  intro c rest s
  calc step (s.setPending (c :: rest))
      _ = exec c ((s.setPending (c :: rest)).setPending rest) := step_of_cons (s.pending_setPending _)
      _ = exec c (s.setPending rest) := by rw [State.setPending_setPending]

end Sys2Proof.Machine
end
